-- ==== Sys2Proof/Word.lean ====
section
/-! DEFINITION. The words of the machine (00 R14) and their plainest arithmetic.

Integers that software reads as bits are bit vectors; counts, times and indexes are `Nat`; exact quantities before rounding are `Rat`. -/
namespace Sys2Proof

abbrev Byte := BitVec 8
abbrev Half := BitVec 16
abbrev Word := BitVec 32
abbrev Dword := BitVec 64

/-- Bytes in the order in which a wire or a memory holds them. -/
abbrev Bytes := List Byte

/-- The low `n` bytes of a number, least significant first (00 R14: little-endian on every wire). -/
def leBytes : Nat → Nat → Bytes
  | 0, _ => []
  | n + 1, v => BitVec.ofNat 8 v :: leBytes n (v / 256)

/-- The number that little-endian bytes spell. -/
def leNat : Bytes → Nat
  | [] => 0
  | b :: bs => b.toNat + 256 * leNat bs

/-- The low `n` bytes of a number, most significant first. -/
def beBytes (n v : Nat) : Bytes := (leBytes n v).reverse

/-- The number that big-endian bytes spell. -/
def beNat (bs : Bytes) : Nat := leNat bs.reverse

/-- A signed number read from the low `w` bits of `n` as two's complement. -/
def signed (w n : Nat) : Int := (BitVec.ofNat w n).toInt

/-- The two's complement pattern of `i` in `w` bits. -/
def pattern (w : Nat) (i : Int) : Nat := (BitVec.ofInt w i).toNat

/-- Bit `k` of a number. -/
def bitAt (n k : Nat) : Bool := n.testBit k

/-- Bits [hi:lo] of a number. -/
def field (n hi lo : Nat) : Nat := (n / 2 ^ lo) % 2 ^ (hi + 1 - lo)

/-- 1 for true. -/
def ofBool (b : Bool) : Nat := if b then 1 else 0

/-- A number held at the largest value of `w` bits (01 R39, 16: counters hold at their maximum). -/
def holdMax (w n : Nat) : Nat := min n (2 ^ w - 1)

/-- `i` limited to the range [lo, hi]. -/
def clampInt (lo hi i : Int) : Int := max lo (min hi i)


end Sys2Proof
end

