-- ==== Sys2Proof/Types/Base.lean ====
section
/-! DEFINITION. Values of the object dictionary, event records and rate-limit buckets (00 R14, 16 R747, R752). -/
namespace Sys2Proof

/-- A value of a dictionary entry: a number in its type's pattern, or the bytes of a STR or BLOB. -/
inductive Val where
  | num (n : Nat)
  | bytes (b : Bytes)
deriving DecidableEq, Repr, Inhabited

/-- Status codes of every response (00 R21). -/
inductive Status where
  | ok | noEntry | noSub | access | type | range | state | locked | busy | paired | auth | version | integrity
deriving DecidableEq, Repr, Inhabited

/-- The modes of the module (14 R673, 04 R182). -/
inductive Mode where
  | backup | boot | stop | run | edit | standby | update | fault
deriving DecidableEq, Repr, Inhabited

/-- What an indicator output shows (14 R679). -/
inductive Led where
  | off | on | flash2Hz | flashHalfHz
deriving DecidableEq, Repr, Inhabited

/-- One event record of the recorder; CHECK is computed when its bytes are read (16 R747). -/
structure EventRec where
  seq    : Nat
  code   : Nat
  flags  : Nat
  hours  : Nat
  cycles : Nat
  rtc    : Nat
  time   : Nat
  data   : Bytes
deriving DecidableEq, Repr, Inhabited

/-- One rate-limit bucket; CODE 0 is free (16 R752, R753). -/
structure Bucket where
  code       : Nat
  burst      : Nat
  interval   : Nat
  tokens     : Nat
  suppressed : Nat
  first      : Nat
  /-- monotonic time of its last grid instant, or of its configuration (R753) -/
  added      : Nat
deriving DecidableEq, Repr, Inhabited

/-- The event recorder (16 R749 to R759). `ring` is newest first; `archive` is keyed by slot. -/
structure Recorder where
  next       : Nat
  ring       : List EventRec
  archive    : List (Nat × EventRec)
  archNext   : Nat
  archTail   : Nat
  buckets    : List Bucket
  recorded   : Nat
  suppressed : Nat
  lost       : Nat
deriving DecidableEq, Repr, Inhabited

/-- An entry of the dictionary and one of its sub-indices. -/
structure Addr where
  idx : Nat
  sub : Nat
deriving DecidableEq, Repr, Inhabited

/-- Where an authenticated request comes from (10 R497, R503): 0 or 1 for ETHp, 0x10 + n for CANn; the peer's address and port,
or the CAN client number as the port; the session number it names and its SEQ. -/
structure Origin where
  link    : Nat
  ip      : Nat
  port    : Nat
  session : Nat
  seq     : Nat
deriving DecidableEq, Repr, Inhabited

end Sys2Proof
end

