-- ==== Sys2Proof/Types/Nvm.lean ====
section
/-! DEFINITION. What the NOR holds: ordinary and privileged records, Raw Pages, the staging journal (13, 14 R688). -/
namespace Sys2Proof

/-- What the ECC of a NOR read finds: a single-bit error at an address, corrected, or an uncorrectable one in copy A or B of an ordinary
record or in a privileged record (13 R628). -/
inductive NorErr where
  | corrected (addr : Nat)
  | copyA (rec_ : Nat)
  | copyB (rec_ : Nat)
  | priv (type_ index seq : Nat)
deriving DecidableEq, Repr, Inhabited

/-- One appended copy of an ordinary record (13 R630); `valid` is MAGIC, LENGTH and CHECK correct. -/
structure PsCopy where
  commit : Nat
  data   : Bytes
  valid  : Bool
deriving DecidableEq, Repr, Inhabited

/-- The last copies A and B of an ordinary record (13 R631). -/
structure PsRecord where
  a : Option PsCopy
  b : Option PsCopy
deriving DecidableEq, Repr, Inhabited

/-- Staged values in staging order; a later value of a record takes its place (13 R633). -/
structure PsBuffer where
  items : List (Nat × Bytes)
  /-- number of the last staging that the buffer holds (R636) -/
  upto  : Nat
  first : Nat
deriving DecidableEq, Repr, Inhabited

/-- A privileged record as appended (13 R645). -/
structure PrivRec where
  type_ : Nat
  index : Nat
  seq   : Nat
  ckpt  : Nat
  data  : Bytes
  valid : Bool
deriving DecidableEq, Repr, Inhabited

/-- A valid journal entry (14 R688). -/
structure Journal where
  target : Nat
  slot   : Nat
  gen    : Nat
  sector : Nat
  total  : Nat
deriving DecidableEq, Repr, Inhabited

/-- The NOR and its streams (13). `priv` is newest first. -/
structure Nvm where
  records  : List (Nat × PsRecord)
  filling  : PsBuffer
  running  : Option PsBuffer
  /-- writes staged so far, and the number of the last one whose commit has ended (R636) -/
  stagings : Nat
  written  : Nat
  /-- commits completed since power-on, the number of the last commit, records committed over life -/
  commits  : Nat
  commitNo : Nat
  recordCommits : Nat
  lastCommit : Nat
  /-- a commit follows the running one (R636) -/
  again    : Bool
  /-- a commit that the last reset left without its summary block: its number and the records not reached (R666) -/
  halted   : Option (Nat × Nat)
  /-- copy served by the last read of DATA (R669) -/
  copyRead : Nat
  protect  : Nat
  rpProtect : Nat
  eraseMax : Nat
  privEraseMax : Nat
  /-- erased bytes of the two streams, erased pages of the shadow pool (R629) -/
  reserve  : Nat
  privReserve : Nat
  rpReserve : Nat
  priv     : List PrivRec
  privBytes : Nat
  /-- Raw Page contents in force, by page; an unlisted page reads 0xFF -/
  pages    : List (Nat × Bytes)
  pageWrites : Nat
  recovered : Nat
  /-- journal entries, newest first; newest generation and declared bytes of firmware and of Plans (14 R688, R689) -/
  journal  : List Journal
  gens     : List Nat
  totals   : List Nat
  /-- firmware slots A and B, as programmed -/
  fwSlots  : List Bytes
  checkpoints : Nat
  lastCheckpoint : Nat
  lastSave : Nat
  /-- a save that completed at the last power failure: SEQ, chunks and µs (R656) -/
  saved    : Option (Nat × Nat × Nat)
  /-- errors that NOR reads corrected (R628) -/
  corrected : Nat
  /-- the retained image last committed (R650), and when -/
  committed : Bytes
  ckptAt   : Nat
deriving DecidableEq, Repr, Inhabited

end Sys2Proof
end

