-- ==== Sys2Proof/Types/Boot.lean ====
section
/-! DEFINITION. What a start finds outside the module's state: measurements, pins and the wear of the NOR (14 R680). -/
namespace Sys2Proof

/-- An encoder input at the end of Boot: levels of A and B, pairs below 200 mV as a mask, and its first SSI read if one has completed,
with error bit and parity bit (02 R44, R57, R99). -/
structure EncStart where
  a   : Bool
  b   : Bool
  low : Nat
  ssi : Option (Nat × Bool × Bool)
deriving DecidableEq, Repr, Inhabited

/-- Operands of a start (14 R680 to R683). -/
structure BootIn where
  /-- half steps that the running commit completed before the reset (13 R666) -/
  cut      : Nat
  /-- a self-test failure beyond the Galleries, and the Galleries that fail, as a mask (R681) -/
  failed   : Bool
  bad      : Nat
  /-- times from step 1, in ms: firmware start, end of self-test, of Plan verification and of Boot -/
  fwMs     : Nat
  selfMs   : Nat
  planMs   : Nat
  bootMs   : Nat
  /-- ms that a rebuild of the record index took (13 R638), and pages whose newest map entry was torn (13 R663) -/
  rebuilt  : Option Nat
  torn     : Nat
  /-- the straps ROLE_SEL and PAIR_SENSE (12 R588) -/
  roleSel  : Nat
  sense    : Bool
  /-- MODE_RUN, MODE_STOP and MODE_MRES low -/
  run      : Bool
  stop     : Bool
  mres     : Bool
  encs     : List EncStart
  /-- what the NOR reads of the start, or of a request that the frame carries, find (13 R628) -/
  nor      : List NorErr
deriving DecidableEq, Repr, Inhabited

end Sys2Proof
end

