-- ==== Sys2Proof/Types/Can.lean ====
section
/-! DEFINITION. CAN channels (11). Configuration stands in the dictionary store. -/
namespace Sys2Proof

/-- A frame received (11 R558, R564). -/
structure CanFrame where
  id  : Nat
  ide : Bool
  rtr : Bool
  fdf : Bool
  brs : Bool
  esi : Bool
  dlc : Nat
  data : Bytes
  /-- TIME at the end of the frame, and the RXQ it went to -/
  stamp : Nat
  rxq : Nat
deriving DecidableEq, Repr, Inhabited

/-- A frame in the transmit queue (11 R551); `client` marks a Bamcon segment. -/
structure CanTx where
  id   : Nat
  ide  : Bool
  fdf  : Bool
  brs  : Bool
  data : Bytes
  at_  : Nat
  client : Option Nat
  /-- an attempt has started -/
  tried : Bool
deriving DecidableEq, Repr, Inhabited

/-- One mailbox queue (11 R563 to R567). -/
structure CanQueue where
  head : Word
  ack  : Word
  lost : Word
  received : Nat
  lostCount : Nat
deriving DecidableEq, Repr, Inhabited

/-- A Bamcon message being reassembled (11 R571, R572). -/
structure CanReasm where
  client : Nat
  data   : Bytes
  next   : Nat
  at_    : Nat
deriving DecidableEq, Repr, Inhabited

/-- Segments of a Bamcon response that wait for a place: client and segment bytes (11 R574). -/
structure CanSegs where
  client : Nat
  segs   : List Bytes
  /-- the subscription whose push it is, by session and SUB_ID, while none of its segments has taken a place (10 R519) -/
  push   : Option (Nat × Nat)
deriving DecidableEq, Repr, Inhabited

/-- One CAN channel (11 R543 to R585). -/
structure Can where
  state   : Nat
  tec     : Nat
  rec_    : Nat
  queue   : List CanTx
  rxq0    : List CanFrame
  rxq1    : List CanFrame
  boxes   : List CanQueue
  reasm   : List CanReasm
  segs    : List CanSegs
  busOffAt : Nat
  tdc     : Nat
  tdcFail : Bool
  lastError : Nat
  rxFrames : Nat
  errFrames : Nat
  busOffs : Nat
  overflow : Nat
  txFrames : Nat
  txDropped : Nat
  txExpired : Nat
  flushed : Nat
  arbLost : Nat
  waitMax : Nat
  rxMessages : Nat
  txMessages : Nat
  segErrors : Nat
  /-- when LIST last applied, and the list before (R562) -/
  listAt  : Option Nat
  listWas : Bytes
deriving DecidableEq, Repr, Inhabited

end Sys2Proof
end

