-- ==== Sys2Proof/Types/Energy.lean ====
section
/-! DEFINITION. The Dispatcher's problem and results (08). Values are exact rationals of binary64 results. -/
namespace Sys2Proof

/-- An item of a balance in the common shape of 08 R395: kind 0 source, 1 store, 2 consumer. -/
structure DspItem where
  kind    : Nat
  no      : Nat
  balance : Nat
  low     : Rat
  segs    : List (Rat × Rat)
  eRatio  : Rat
  demand  : Rat
  /-- source: availability, P_MIN, P_MAX, bounds by ramp, C_MIN and the whole curve -/
  avail   : Bool
  pMin    : Rat
  pMax    : Rat
  lower   : Rat
  upper   : Rat
  ramped  : Bool
  cMin    : Rat
  curve   : List (Rat × Rat)
  /-- store: SOC, V, efficiencies and discharge bound -/
  soc     : Rat
  value   : Rat
  etaChg  : Rat
  etaDis  : Rat
  disMax  : Rat
  /-- consumer: priority, shed value, offset gain and limit -/
  priority : Nat
  shedValue : Rat
  gain    : Rat
  limit   : Rat
  loop    : Nat
deriving DecidableEq, Repr, Inhabited

/-- The snapshot from which an evaluation runs (08 R400 to R402). -/
structure DspSnap where
  items    : List DspItem
  balances : Nat
  base     : Rat
  capEff   : Rat
  priceMin : Rat
  priceMax : Rat
  piMax    : Rat
  hour     : Nat
  badInput : Bool
  stale    : Bool
  startAt  : Nat
deriving DecidableEq, Repr, Inhabited

/-- What the result holds for one item. -/
structure DspOut where
  kind   : Nat
  no     : Nat
  balance : Nat
  /-- output of a source, rate of a store, shed of a consumer -/
  out    : Rat
  state  : Nat
  margin : Bool
  demand : Rat
  curtailed : Rat
  offset : Rat
  loop   : Nat
  soc    : Rat
  value  : Rat
deriving DecidableEq, Repr, Inhabited

/-- A completed result (08 R399, R411, R415, R416). -/
structure DspResult where
  outs     : List DspOut
  lambdas  : List Rat
  pi       : Rat
  draw     : Rat
  base     : Rat
  capEff   : Rat
  cost     : Rat
  hour     : Nat
  short    : Nat
  surplus  : Nat
  gap      : List Rat
  forced   : Bool
  removed  : Rat
  breach   : Bool
  ramped   : Bool
  badInput : Bool
  stale    : Bool
  /-- balances curtailed, with the lowest priority reached and the kW -/
  curtailed : List (Nat × Nat × Rat)
deriving DecidableEq, Repr, Inhabited

/-- The Dispatcher (08 R412, R417, R421). -/
structure Dsp where
  running  : Option DspSnap
  waiting  : Option DspResult
  /-- when the last evaluation completed (08 R399) -/
  doneAt   : Nat
  inForce  : Option DspResult
  landing  : Nat
  evals    : Nat
  /-- h of the last snapshot, once one was taken (08 R417) -/
  hour     : Option Nat
  offNext  : Bool
  /-- MODE before the last write, and the core clock of that write (08 R414) -/
  modeWas  : Nat
  modeAt   : Option Nat
  /-- states on whose change events are recorded: short, surplus and curtailed balances, forced, breach -/
  wasShort   : Nat
  wasSurplus : Nat
  wasCut     : Nat
  wasForced  : Bool
  wasBreach  : Bool
deriving DecidableEq, Repr, Inhabited

end Sys2Proof
end

