-- ==== Sys2Proof/Types/Dict.lean ====
section
/-! DEFINITION. Types, access classes and ranges of dictionary entries (00 R14; 10 R506, R511). -/
namespace Sys2Proof

/-- The dictionary types (00 R14). -/
inductive Ty where
  | bool | u8 | u16 | u32 | u64 | i32 | i64 | f32 | bfp | pos | time | str | blob
deriving DecidableEq, Repr, Inhabited

/-- Access classes: read only, read and write, write applied at a major Landing, write under KEY_SEQ, write only. -/
inductive Acc where
  | ro | rw | rwa | rwk | wo
deriving DecidableEq, Repr, Inhabited

/-- The values an entry accepts, as its description gives them. -/
inductive Rng where
  | any
  | upto (n : Nat)
  | between (lo hi : Int)
  | oneOf (l : List Nat)
  | f32 (lo hi : Rat)
  | f32Min (lo : Rat)
  | bfpPos
  | bfpUnit
  | len (n : Nat)
  | lenUpto (n : Nat)
  | keyLen
  | keyLenM
  | netmask
  | mult128
  | policy
deriving DecidableEq, Repr, Inhabited

/-- Sub-indices `lo` to `hi` of an entry family. `plan` marks a default that the Plan gives. -/
structure Row where
  lo   : Nat
  hi   : Nat
  ty   : Ty
  acc  : Acc
  dflt : Val
  rng  : Rng
  plan : Bool
deriving DecidableEq, Repr, Inhabited

/-- An entry family: indices `lo` to `hi`. -/
structure Fam where
  lo   : Nat
  hi   : Nat
  rows : List Row
deriving DecidableEq, Repr, Inhabited

end Sys2Proof
end

