-- ==== Sys2Proof/Types/Field.lean ====
section
/-! DEFINITION. Field channels: digital, analogue and FSK (09). Configuration stands in the dictionary store. Currents are exact rationals in mA, binary64 values where the spec computes. -/
namespace Sys2Proof

/-- One DIO channel (09 R428 to R442, R475, R476). -/
structure Dio where
  /-- accepted input level, when it was accepted, and the timestamp of the last accepted edge (R428, R436) -/
  level    : Bool
  /-- a level has been accepted since Boot; the first is found and no edge (log 149) -/
  known    : Bool
  acceptAt : Nat
  lastEdge : Option Nat
  /-- an input sample has reached the Hall since the last restart (04 R229) -/
  sampled  : Bool
  counter  : Word
  /-- the 1 µs input sample in which a CMD 2 zeroes COUNTER (R437) -/
  zeroAt   : Option Nat
  /-- end of the last gate interval (R433) -/
  gateAt   : Nat
  /-- rising-edge timestamps of the present gate interval, oldest first (R433) -/
  rises    : List Nat
  fewRises : Bool
  freq     : Word
  wireBreak : Bool
  /-- instant of the last pair of edges less than 5 µs apart, while OVERRATE is set (R436) -/
  overrate : Option Nat
  /-- output command, when it changed, and the level at the pin (R442) -/
  cmd      : Bool
  /-- its writer has acted since the last restart (04 R206) -/
  started  : Bool
  cmdAt    : Nat
  pin      : Bool
  /-- switched off by protection at this instant (R439, R440) -/
  tripAt   : Option Nat
  overload : Bool
  thermal  : Bool
  latched  : Bool
  openLoad : Bool
  rbMismatch : Bool
  pulseEnd : Option Nat
  faults   : Nat
deriving DecidableEq, Repr, Inhabited

/-- One group supply, VGg or VA (09 R424, R425); state 0 absent, 1 low, 2 normal, voltage in mV. -/
structure Supply where
  mv       : Nat
  state    : Nat
  /-- when the supply last left the absent state, and whether its checks run (R425) -/
  leftAt   : Nat
  checks   : Bool
deriving DecidableEq, Repr, Inhabited

/-- One AIO channel (09 R449 to R471, R475, R478). -/
structure Aio where
  /-- input samples of the last AVG, newest first, in mA -/
  samples  : List Rat
  /-- engineering value last converted, and the current measured or commanded -/
  value    : Word
  current  : Rat
  readback : Rat
  terminal : Rat
  trim     : Rat
  /-- its writer has written since the last restart (04 R206) -/
  started  : Bool
  /-- changes of command: instant and current, newest first (R452, R453) -/
  history  : List (Nat × Rat)
  /-- since when COMPLIANCE, SURGE and RAMPING are all clear (R453) -/
  clearAt  : Nat
  /-- the last trim check (R453) -/
  trimAt   : Nat
  /-- since when the readback differs by more than RB_TOL (R452) -/
  rbSince  : Option Nat
  under    : Bool
  above     : Bool
  compliance : Bool
  rbMismatch : Bool
  limited  : Bool
  cutoff   : Bool
  surgeEnd : Option Nat
  txSupply : Bool
  carrier  : Bool
  trimLimit : Bool
  ramping  : Bool
  /-- last stable load resistance, in ohms (R470) -/
  loadR    : Rat
  /-- FSK: the message being sent, and counters (R463, R465, R479) -/
  sending  : Bool
  framesTx : Nat
  framesRx : Nat
  errors   : Nat
deriving DecidableEq, Repr, Inhabited

/-- The field channels (09). -/
structure FieldIo where
  dio    : List Dio
  groups : List Supply
  va     : Supply
  aio    : List Aio
  /-- the core clock in which analogue settings last applied, and the dictionary values before that apply (R473) -/
  aioAt  : Option Nat
  aioWas : List (Nat × Val)
deriving DecidableEq, Repr, Inhabited

end Sys2Proof
end

