-- ==== Sys2Proof/Types/Line.lean ====
section
/-! DEFINITION. Encoder inputs and position sources (02). Configuration stands in the dictionary store; these records hold what runs. -/
namespace Sys2Proof

/-- One encoder input (02 R43 to R66, R116). -/
structure Enc where
  /-- accepted levels of the pairs -/
  a : Bool
  b : Bool
  /-- instants of the last accepted changes of A, B and Z (R47) -/
  aAt : Nat
  bAt : Nat
  zAt : Nat
  /-- the A pair drives the SSI clock (R56) -/
  driven : Bool
  /-- instant of a count edge that was taken ahead of its turn in the queue (R55, R69, R97; log 137) -/
  takenAt : Option Nat
  /-- pairs now below 200 mV, in use or not (R64) -/
  low : Nat
  /-- scaling remainder, 0 to SCALE_DEN − 1 (R66) -/
  rem : Nat
  raw    : Int
  zLatch : Int
  zCount : Nat
  quadErr : Nat
  zErr   : Nat
  ssiErr : Nat
  faulted  : Bool
  /-- STATE 4, left out of every source (R44) -/
  awaiting : Bool
  /-- count at the last accepted Z edge that counts as a reference (R54) -/
  zRef : Option Int
  /-- instants of the quadrature errors of the last 1 ms (R51) -/
  quadTimes : List Nat
  /-- reference of R60 -/
  ssiPrev : Option Nat
  /-- discarded reads in a row (R63) -/
  ssiBad  : Nat
  /-- last instant with a line fault, quadrature error or discarded read (R65) -/
  faultAt : Nat
  /-- 100 ms interval in which `rateAcc` is summed, and the sum of the last completed one (R116) -/
  rateSlot : Nat
  rateAcc  : Int
  rateLast : Int
deriving DecidableEq, Repr, Inhabited

/-- A pending preset (02 R95, R98): at a Z edge or at the major Landing. -/
inductive Preset where
  | atZ (value : Dword)
  | atLanding (value : Dword)
deriving DecidableEq, Repr, Inhabited

/-- A Roselo position sample (02 R105, 10 R524), as the stream carries it. -/
structure Sample where
  x : Dword
  v : Int
  a : Int
  t : Nat
deriving DecidableEq, Repr, Inhabited

/-- What a source published at an estimator tick (02 R111, R118); v in 2^-32 pu/µs, a in 2^-32 pu/µs². -/
structure Pub where
  lpc     : Dword
  v       : Int
  a       : Int
  quality : Nat
  stamp   : Nat
  q       : Nat
deriving DecidableEq, Repr, Inhabited

/-- One position source (02 R70 to R113). -/
structure Src where
  lpc : Dword
  /-- fusion remainder, 0 to 65,535 (R74) -/
  rem : Nat
  /-- estimator state: x in 2^-32 pu, v in 2^-32 pu/µs, a in 2^-32 pu/µs² -/
  x : Int
  v : Int
  a : Int
  /-- instant of the last tick, instant of the latest count's pin, count since the last tick (R86) -/
  tickAt   : Nat
  lastPin  : Nat
  counted  : Bool
  valid      : Bool
  homed      : Bool
  restored   : Bool
  standstill : Bool
  reverse    : Bool
  slip       : Bool
  overspeed  : Bool
  stale      : Bool
  lost       : Bool
  /-- travel of each input and fused travel in the slip window (R77) -/
  travel : List Int
  fused  : Int
  /-- inputs excluded for slip, as a mask, and a READMIT write since the last slip (R82, R83) -/
  excluded : Nat
  readmit  : Bool
  /-- inputs that were active at the last change of the set (R75) -/
  active : Nat
  /-- net travel since the last change of direction (R91) -/
  net : Int
  /-- instant of the last count (R89) -/
  lastCount : Nat
  preset : Option Preset
  /-- input awaited under RETAIN 2 (R102) -/
  awaitAbs : Option Nat
  /-- SRC_ENABLE in force (R787) -/
  enabled : Bool
  sample   : Option Sample
  sampleAt : Nat
  /-- difference blended out after a new sample: size in 2^-32 pu and start (R106) -/
  blend   : Int
  blendAt : Nat
  /-- sender lock of the stream and its last SEQ (10 R525) -/
  sender : Option Nat
  lastSeq : Nat
  /-- last frame of the locked sender (10 R526) -/
  heardAt : Nat
  slipCount  : Nat
  wrapCount  : Nat
  presetStep : Dword
  pub : Pub
  /-- the sample that waits for its position frame, and the 100 µs of PTP time of the last one taken (10 R524) -/
  export_ : Option Pub
  exportSlot : Nat
deriving DecidableEq, Repr, Inhabited

/-- The Position Engine (02 R114). -/
structure Line where
  encs : List Enc
  srcs : List Src
  slipTotal : Nat
  /-- instant from which the grid of estimator ticks counts (R85) -/
  gridAt : Int
deriving DecidableEq, Repr, Inhabited

/-- States of a Flight (03 R129). -/
inductive FlState where
  | idle | armed | queued | running | done
deriving DecidableEq, Repr, Inhabited

/-- One Flight (03 R129 to R140, R173). -/
structure Flight where
  state   : FlState
  anchor  : Dword
  done    : Nat
  late    : Nat
  missed  : Nat
  skipped : Nat
  /-- disarmed while running: the present run is the last (R137) -/
  lastRun : Bool
  /-- Treads with the number of their first firings that a preset or the activation pause took from the coming run (R150, R163) -/
  skips : List (Nat × Nat)
  /-- position clock of the last FL_CMD, and the state before the commands of that clock (R137) -/
  cmdAt  : Option Nat
  before : FlState
deriving DecidableEq, Repr, Inhabited

/-- An entry of a window (03 R138): Tread, its Flight, resolved position P and number k of its next firing. -/
structure WinEnt where
  tread  : Nat
  flight : Nat
  pos    : Dword
  k      : Nat
deriving DecidableEq, Repr, Inhabited

/-- A queued Roselo trigger frame (03 R155). -/
structure TrigFrame where
  tread  : Nat
  flight : Nat
  id     : Nat
  code   : Nat
  fire   : Nat
  pos    : Dword
deriving DecidableEq, Repr, Inhabited

/-- Window and Flights of one source (03 R138 to R141, R156). -/
structure TreadSrc where
  window  : List WinEnt
  /-- Tread index of the running Flight next to enter the window, and the position clock up to which Treads have moved in (R138) -/
  nextIn  : Nat
  fillAt  : Nat
  running : Option Nat
  queued  : List Nat
  frames  : List TrigFrame
  /-- the next firing stood behind x̂ when it became the next one (03 R159) -/
  headLate : Bool
  lastSlot : Option Nat
  /-- the last firing of the present run: due position, edge time before SKEW and DELAY, and whether it was late (03 R142) -/
  lastDue  : Option (Dword × Nat × Bool)
  /-- when the running Flight anchored, if it started at its anchor (03 R168) -/
  anchoredAt : Option Nat
deriving DecidableEq, Repr, Inhabited

/-- An edge committed to a TRG channel (03 R145, R152). -/
structure Edge where
  time  : Nat
  kind  : Nat
  width : Nat
  tread : Nat
deriving DecidableEq, Repr, Inhabited

/-- One TRG channel (03 R151 to R154). -/
structure Trg where
  level    : Bool
  edges    : List Edge
  pulseEnd : Option Nat
  trailing : Option Nat
  /-- the output has yet to move to the idle level (R151, R152) -/
  idleWait : Bool
  /-- instant of the last output change (R154) -/
  changedAt : Nat
  pulses   : Nat
  overruns : Nat
  swapAt   : Nat
  /-- which of the two delay lines places edges (R154) -/
  lineB    : Bool
deriving DecidableEq, Repr, Inhabited

/-- The Tread Engine (03 R169). -/
structure Treads where
  words   : List (Nat × BitVec 128)
  /-- instant at which a Tread last entered a window (R165) -/
  entered : List (Nat × Nat)
  flights : List Flight
  srcs    : List TreadSrc
  trgs    : List Trg
  lateTotal     : Nat
  missedTotal   : Nat
  overrunTotal  : Nat
  launchDropped : Nat
  editDropped   : Nat
  pauseSkipped  : Nat
  /-- PAUSE_SKIPPED at the start of the present pause (03 R163) -/
  pauseBase     : Nat
  firedTotal    : Nat
deriving DecidableEq, Repr, Inhabited

end Sys2Proof
end

