-- ==== Sys2Proof/Types/Task.lean ====
section
/-! DEFINITION. The Plan as typed data, the Hall, the tasks and the Galleries (04, 05, 06). -/
namespace Sys2Proof

/-- The Hall spaces, with the codes that windows and force tables use (04 R176, R240). -/
inductive Space where
  | hi | ho | hm | wi | wo | wm | hs
deriving DecidableEq, Repr, Inhabited

/-- A section of a task (04 R199) and its place in the task's image (05 R258). -/
structure Section where
  space : Space
  off   : Nat
  len   : Nat
  img   : Nat
deriving DecidableEq, Repr, Inhabited

/-- A run of points of one space. -/
structure Range where
  space : Space
  off   : Nat
  len   : Nat
deriving DecidableEq, Repr, Inhabited

/-- An initial value of a Hall point. -/
structure InitPoint where
  space : Space
  off   : Nat
  value : Word
deriving DecidableEq, Repr, Inhabited

/-- An initial value of a point of a task image. -/
structure InitImg where
  task  : Nat
  word  : Bool
  off   : Nat
  value : Word
deriving DecidableEq, Repr, Inhabited

/-- A task as the Plan declares it, with its certificate items (04 R185, 06 R312). Times in ns. -/
structure TaskDecl where
  kind      : Nat
  gallery   : Nat
  period    : Nat
  offset    : Nat
  eventKind : Nat
  eventArg  : Nat
  wcet      : Nat
  copyIn    : Nat
  copyOut   : Nat
  hallWait  : Nat
  finish    : Nat
  inputs    : List Section
  outputs   : List Section
  bitSize   : Nat
  wordSize  : Nat
  /-- registers allocated: accumulators, word registers, predicates as masks (05 R245) -/
  accs  : Nat
  words : Nat
  preds : Nat
deriving DecidableEq, Repr, Inhabited

/-- A slot of a timetable (06 R305): its start in the cycle, task, segment start address, certified end in the cycle and length, in ns. A
task's slots stand in the order of its segments, release by release. -/
structure Slot where
  release : Nat
  task    : Nat
  start   : Nat
  fin     : Nat
  len     : Nat
deriving DecidableEq, Repr, Inhabited

/-- A timetable: the slot list of each Gallery, and per Gallery its cycle, sum of slot lengths, self-test reservation and certified
UTIL as an F32 word (06 R305, R312). -/
structure Timetable where
  slots : List (List Slot)
  cycle : List Nat
  sums  : List Nat
  selftest : List Nat
  util  : List Word
deriving DecidableEq, Repr, Inhabited

/-- A fallback timetable for the loss of one Gallery (06 R312). -/
structure Fallback where
  allowed  : Bool
  table    : Timetable
  host     : Nat
  launchMax : Nat
deriving DecidableEq, Repr, Inhabited

/-- An Ethernet input frame (10 R492, R496): ports as a mask, UDP port, source address (0 any), length and input block. -/
structure InFrame where
  ports   : Nat
  udpPort : Nat
  ip      : Nat
  len     : Nat
  header  : Bool
  block   : Nat
deriving DecidableEq, Repr, Inhabited

/-- An output frame of a task (10 R493, R496). -/
structure OutFrame where
  task    : Nat
  port    : Nat
  ip      : Nat
  udpPort : Nat
  header  : Bool
  ranges  : List Range
deriving DecidableEq, Repr, Inhabited

/-- An input block: its governing task and the Hall ranges that its frames write (04 R222). -/
structure InputBlock where
  task   : Nat
  ranges : List Range
deriving DecidableEq, Repr, Inhabited

/-- Where a message queue leaves (10 R494, 11 R556, 09 R463). -/
inductive MsgBind where
  | none
  | udp (port ip udpPort : Nat) (header : Bool)
  | can (channel : Nat) (idword : Bool) (id : Nat) (ide fdf brs : Bool)
  | fsk (aio : Nat)
deriving DecidableEq, Repr, Inhabited

/-- A CAN output object of a task (11 R551). -/
structure CanOut where
  channel : Nat
  task    : Nat
  id      : Nat
  ide     : Bool
  fdf     : Bool
  brs     : Bool
  len     : Nat
  data    : List Range
deriving DecidableEq, Repr, Inhabited

/-- A point of a gain table, both BFP words (07 R370, R392). -/
structure GainPoint where
  x : Word
  g : Word
deriving DecidableEq, Repr, Inhabited

/-- A run of points that LAYOUT names, by its identity in both Plans of an edit (06 R333, R334). -/
structure PointDecl where
  id    : Nat
  space : Space
  off   : Nat
  len   : Nat
deriving DecidableEq, Repr, Inhabited

/-- The DELTA section of an edit Plan (06 R333). -/
structure PlanDelta where
  tasks    : List Nat
  added    : List Range
  removed  : List Range
  timetableChanged : Bool
  oldSchema : Nat
  newSchema : Nat
deriving DecidableEq, Repr, Inhabited

/-- Why a Plan is rejected: reason, section TYPE and failing task or Gallery (06 R318, R320). -/
structure PlanReject where
  reason  : Nat
  section_ : Nat
  detail  : Nat
deriving DecidableEq, Repr, Inhabited

/-- A Plan (06 R303 to R312): header fields, code and the content of its sections. -/
structure Plan where
  planId   : Nat
  schema   : Nat
  format   : Nat
  edit     : Bool
  base     : Bytes
  digest   : Bytes
  minFw    : Nat
  keyId    : Nat
  code     : List (List (BitVec 128))
  tasks    : List TaskDecl
  table    : Timetable
  falls    : List Fallback
  points   : List PointDecl
  initHall : List InitPoint
  initImg  : List InitImg
  retained : List Range
  retainedRecs : List Nat
  writable : List Range
  schemaBlock : Bytes
  treads   : List (Nat × BitVec 128)
  /-- spectral radius of each source's estimator as certified, in 10^-9 (06 R312, R317) -/
  radius   : List Nat
  gains    : List (Nat × List GainPoint)
  config   : List (Nat × Val)
  inFrames : List InFrame
  outFrames : List OutFrame
  blocks   : List InputBlock
  queues   : List MsgBind
  canOuts  : List CanOut
  buckets  : List Bucket
  /-- serving task of each Gallery watchdog (15 R715) -/
  serving  : List (Option Nat)
  /-- persisted entries: INDEX, SUB, record (13 R642) -/
  persisted : List (Nat × Nat × Nat)
  /-- points whose writes are forwarded to the standby (12 R595) -/
  lockstep : List Range
  /-- certificate: highest launch rate of position tasks at VMAX, loop evaluations per second, highest Tread and Flight, save time at the
  minimum hold-up in ms (06 R312) -/
  launchRate : Nat
  evalRate : Nat
  treadTop : Nat
  flightTop : Nat
  saveMs   : Nat
  deltaBytes : Nat
  retainBytes : Nat
  checkpoint : Nat
  dispatchNs : Nat
  /-- lockstep forwarding at VMAX and full input rates, bit/s (12 R595; log 9) -/
  forwardRate : Nat
  delta    : Option PlanDelta
deriving DecidableEq, Repr, Inhabited

/-- A staged change of the force tables (04 R212). -/
inductive ForceChange where
  | clear
  | mask (space : Space) (off : Nat) (data : Bytes)
  | value (space : Space) (off : Nat) (data : Bytes)
deriving DecidableEq, Repr, Inhabited

/-- A Hall access window (04 R240). -/
structure Window where
  space : Nat
  off   : Nat
  len   : Nat
  view  : Nat
  stamp : Nat
deriving DecidableEq, Repr, Inhabited

/-- Staleness of an input block (04 R222 to R225). -/
structure BlockSt where
  stale : Bool
  seen  : Bool
  since : Nat
deriving DecidableEq, Repr, Inhabited

/-- The force tables in force (04 R207, R214). -/
structure Forces where
  maskBits   : List (Nat × Bool)
  valueBits  : List (Nat × Bool)
  maskWords  : List (Nat × Word)
  valueWords : List (Nat × Word)
deriving DecidableEq, Repr, Inhabited

/-- The Hall (04 R176 to R241): sparse stores by flat address, an unlisted point reads 0. -/
structure Hall where
  bits  : List (Nat × Bool)
  words : List (Nat × Word)
  maskBits   : List (Nat × Bool)
  valueBits  : List (Nat × Bool)
  maskWords  : List (Nat × Word)
  valueWords : List (Nat × Word)
  forcedSince : Nat
  windows : List Window
  blocks  : List BlockSt
  corrected : Nat
  /-- core clock of the last writes to the live Hall, the stores from before them, and what copy-backs wrote in it (01 R24, R26) -/
  wroteAt  : Option Nat
  wasBits  : List (Nat × Bool)
  wasWords : List (Nat × Word)
  landed   : List Range
  /-- instant at which the copy in progress ends (04 R201, R202) -/
  copyEnd  : Nat
deriving DecidableEq, Repr, Inhabited

/-- Progress of a task's execution (04 R189, R192). -/
inductive Phase where
  | idle | pending | running | landing
deriving DecidableEq, Repr, Inhabited

/-- What an operation does in the core clock in which it completes (05 R274, R278). -/
structure LateWrite where
  clock : Nat
  flags : Nat
  words : List (Nat × Word)
deriving DecidableEq, Repr, Inhabited

/-- One task (04 R195, R200, R236, 05 R246, R247). -/
structure TaskSt where
  phase    : Phase
  release  : Nat
  /-- instant at which the copy-in ends, and at which LAND requested the copy-back (04 R189, R201) -/
  ready    : Nat
  asked    : Nat
  first    : Nat
  landings : Nat
  execLast : Nat
  execMax  : Nat
  missed   : Nat
  occurred : Nat
  /-- core clock of the last start of the alcove (04 R194) -/
  alcoveAt : Option Nat
  info     : Nat
  bits     : List (Nat × Bool)
  words    : List (Nat × Word)
  flags    : Nat
  /-- what unfinished operations bring at a core clock: flags, and words of the word image (05 R274, R278) -/
  late     : List LateWrite
  /-- the execution has set BND (05 R301) -/
  bnd      : Bool
  capTime  : Nat
  capMono  : Nat
  capLpc   : List Dword
  /-- Gallery of the execution and the start addresses of its segments, taken at the release (06 R305, R329) -/
  on       : Nat
  segs     : List Nat
  /-- the segment executing, counted from 0, and the address of the next bundle -/
  segment  : Nat
  pc       : Nat
  bound    : Option Word
  evtDrops : Nat
  msgDrops : List (Nat × Nat)
  armf     : List (Nat × Nat)
  /-- swaps since the release: the execution keeps the Plan of its release (04 R218) -/
  old      : Nat
deriving DecidableEq, Repr, Inhabited

/-- What an unfinished operation of a Gallery still holds (05 R250, R278, R289). -/
inductive Res where
  | acc (n : Nat)
  | word (n : Nat)
  | pred (n : Nat)
  | any
  | line (n : Nat)
  | divider
  | port
deriving DecidableEq, Repr, Inhabited

/-- A resource of a task held until a core clock. -/
structure Busy where
  res   : Res
  task  : Nat
  until_ : Nat
deriving DecidableEq, Repr, Inhabited

/-- The repeat counter (05 R279, R281). -/
structure Repeat where
  start : Nat
  len   : Nat
  pass  : Nat
  count : Nat
deriving DecidableEq, Repr, Inhabited

/-- A user event waiting in a Gallery queue (05 R789). -/
structure UserEvt where
  /-- the record with the stamps of its issue (05 R789, 16 R749) -/
  rec_ : EventRec
  mono : Nat
deriving DecidableEq, Repr, Inhabited

/-- One Gallery (05 R243, R301, 04 R235). -/
structure Gallery where
  accs  : Dword
  words : List Word
  preds : Byte
  rept  : Option Repeat
  busy  : List Busy
  /-- core clock of the last issue or hold: one bundle a clock (05 R249) -/
  issuedAt : Option Nat
  /-- address of the last bundle issued (15 R722) -/
  last  : Nat
  events : List UserEvt
  failed : Bool
  halted : Bool
  bundles : Nat
  held    : Nat
  flagsSeen : Nat
  bounds  : Nat
  evtDropped : Nat
  msgDropped : Nat
  codeCorrected : Nat
  selftests : Nat
  selfFails : Nat
deriving DecidableEq, Repr, Inhabited

/-- A message in a queue (05 R289, R790). -/
structure Msg where
  task : Nat
  /-- core clock of its MSG, for the issue order (11 R551) -/
  clock : Nat
  data : List Word
  landed : Bool
deriving DecidableEq, Repr, Inhabited

/-- The task system and the Galleries (04 R234, 05). -/
structure Tasks where
  tasks     : List TaskSt
  galleries : List Gallery
  queues    : List (List Msg)
  /-- pending launches of G3: task and launching Tread, in launch order (04 R192) -/
  launches  : List (Nat × Nat)
  /-- released Flight commands with the instant at which they act (05 R284) -/
  armf      : List (Nat × Nat × Nat)
  /-- start of Run (04 R188) -/
  runAt     : Nat
  /-- fallback in use, 0 or 1 + g, and one waiting for the next major Landing (06 R326) -/
  fallback  : Nat
  fallbackNext : Nat
  /-- start of the frame from which the fallback slot lists run (06 R327) -/
  tableAt   : Nat
  /-- kind of the last restart (04 R232) -/
  lastKind  : Nat
  warm      : Bool
  retainLost : Bool
deriving DecidableEq, Repr, Inhabited

/-- Plan management (06 R342 to R346). -/
structure Plans where
  active  : Option Plan
  /-- the Plans from before the last swaps, newest first, for the executions that straddle them (04 R218) -/
  prev    : List Plan
  /-- the Plan whose slots run until the next major frame after a swap, and the start of that frame (04 R219) -/
  slotPlan : Option Plan
  slotsUntil : Nat
  slots   : List Bytes
  slot    : Nat
  swaps   : Nat
  lastSwap : Nat
  stageState : Nat
  /-- the staged Plan, once verified -/
  staged  : Option Plan
  rejectReason : Nat
  rejectDetail : Nat
  actKind : Nat
  editState : Nat
  swapAt  : Nat
  partnerReady : Bool
  editing : Bool
  pubKey  : Bytes
deriving DecidableEq, Repr, Inhabited

end Sys2Proof
end

