-- ==== Sys2Proof/Types/Loop.lean ====
section
/-! DEFINITION. Loops and their samples (07). -/
namespace Sys2Proof

/-- A loop's running state; values are BFP words (07 R389). -/
structure LoopSt where
  offset   : Word
  /-- the offset from before the changes of a core clock, and that clock (01 R27) -/
  offsetWas : Word
  offsetAt : Option Nat
  spRamped : Word
  pv       : Word
  pvFilt   : Word
  error    : Word
  gain     : Word
  iTerm    : Word
  output   : Word
  status   : Nat
  evals    : Nat
  overruns : Nat
  stamp    : Nat
  /-- ENABLE from before a write in a core clock, and that clock (07 R388) -/
  onWas    : Bool
  onAt     : Option Nat
  /-- the next evaluation is a soft start (07 R375) -/
  soft     : Bool
deriving DecidableEq, Repr, Inhabited

/-- A latched sample (07 R351): loop, Tread-sampled or not, class, the raw process value, and set-point and offset as BFP words. -/
structure LoopSample where
  loop   : Nat
  tread  : Bool
  cls    : Nat
  pv     : Word
  sp     : Word
  spOvf  : Bool
  offset : Word
  stamp  : Nat
  /-- instant of the latch -/
  at_    : Nat
deriving DecidableEq, Repr, Inhabited

/-- An evaluation that has begun: its sample, the loop's configuration by sub-index and the gain table as it began, and the instant at which it ends
(07 R352, R353). -/
structure Evaluating where
  sample : LoopSample
  cfg    : List Nat
  table  : List GainPoint
  endAt  : Nat
deriving DecidableEq, Repr, Inhabited

/-- The Loop Engine (07 R391): loops by number, an unlisted one in its reset state. -/
structure Loops where
  loops   : List (Nat × LoopSt)
  waiting : List LoopSample
  /-- the evaluation in progress, and the end of the last one -/
  current : Option Evaluating
  freeAt  : Nat
  gains   : List (Nat × List GainPoint)
  evals   : Nat
  overruns : Nat
  /-- second in which evaluations are counted for BUSY, and the last completed count -/
  busySlot : Nat
  busyAcc  : Nat
  busyLast : Nat
deriving DecidableEq, Repr, Inhabited

end Sys2Proof
end

