-- ==== Sys2Proof/Types/Net.lean ====
section
/-! DEFINITION. Ethernet ports, PTP, Bamcon sessions and Roselo (10). -/
namespace Sys2Proof

/-- One ETH port (10 R481 to R485, R534). -/
structure Port where
  /-- 0 down, 1 100 Mbit/s, 2 1000 Mbit/s -/
  link    : Nat
  ip      : Nat
  lease   : Bool
  /-- instant of the last address conflict (R484) -/
  conflictAt : Option Nat
  rxFrames : Nat
  txFrames : Nat
  rxErrors : Nat
  rxDiscarded : Nat
  txDropped : Nat
  /-- second in which echoes are counted, and the count -/
  echoSlot : Nat
  echoes   : Nat
  /-- resolved IPv4 addresses: address, MAC, when -/
  arp      : List (Nat × Nat × Nat)
  /-- IEEE 1588 port state number -/
  ptp      : Nat
deriving DecidableEq, Repr, Inhabited

/-- PTP (10 R486 to R491, R535). -/
structure Ptp where
  offset   : Int
  delay    : Nat
  gm       : Nat
  steps    : Nat
  good     : Nat
  bad      : Nat
  /-- set by TIME_SET or PPS_IN since power-on -/
  timeSet  : Bool
  announceAt : Nat
  pps      : Bool
  ppsAt    : Nat
deriving DecidableEq, Repr, Inhabited

/-- One Bamcon session slot (10 R499 to R506, R537). -/
structure Session where
  /-- 0 free, 1 opening, 2 open -/
  state    : Nat
  number   : Nat
  role     : Nat
  peerIp   : Nat
  peerPort : Nat
  link     : Nat
  minor    : Nat
  client   : Bytes
  module   : Bytes
  key      : Bytes
  replied  : Nat
  validAt  : Nat
  highSeq  : Nat
  /-- the last 4 answered requests and their responses, newest first -/
  cache    : List (Nat × Bytes)
  /-- requests accepted and not yet answered -/
  open_    : List Nat
  /-- entry armed by KEY_SEQ, its instant, and the SEQ of the arming request (R508) -/
  armed    : Option (Nat × Nat × Nat)
  /-- selectors that differ from their default, by key (R506) -/
  sel      : List (Nat × Nat)
deriving DecidableEq, Repr, Inhabited

/-- An open block-write transfer (10 R516, R517); NEXT is the length of the data. -/
structure Transfer where
  number : Nat
  idx    : Nat
  sub    : Nat
  total  : Nat
  data   : Bytes
  at_    : Nat
  role   : Nat
deriving DecidableEq, Repr, Inhabited

/-- A subscription (10 R518). -/
structure Subscription where
  session : Nat
  id      : Nat
  task    : Nat
  divider : Nat
  items   : List Addr
  /-- Landings since the last push, and the push counter -/
  count   : Nat
  pushes  : Nat
deriving DecidableEq, Repr, Inhabited

/-- The result of one written item (10 R510, R512). -/
structure WriteResult where
  idx      : Nat
  sub      : Nat
  status   : Status
  accepted : Nat
  refused  : Nat
deriving DecidableEq, Repr, Inhabited

/-- A request whose answer waits for an apply or a commit (10 R514, 13 R636). -/
structure Waiting where
  session : Nat
  seq     : Nat
  type_   : Nat
  /-- the results of its items, and the items that still wait -/
  results : List WriteResult
  left    : List Nat
  /-- COMMIT: number of the last record whose write it awaits -/
  commit  : Option Nat
deriving DecidableEq, Repr, Inhabited

/-- What a staged change does when it applies. -/
inductive StagedOp where
  | value (idx sub : Nat) (v : Val)
  | force (c : ForceChange)
  | gain (table : Nat) (points : List GainPoint)
  | tread (index : Nat) (fields : Nat) (value : Nat)
  | bucket (n sub value : Nat)
deriving DecidableEq, Repr, Inhabited

/-- A staged change, with the entry written and the item that waits for it (01 R25, R30; 10 R514). -/
structure Staged where
  idx   : Nat
  sub   : Nat
  op    : StagedOp
  wait  : Option (Nat × Nat × Nat)
  /-- instant of the write; none once the active module of a pair has applied it (03 R165) -/
  at_   : Option Nat
deriving DecidableEq, Repr, Inhabited

/-- Bamcon (10 R497 to R519, R536). -/
structure Bamcon where
  sessions  : List Session
  issued    : Nat
  transfers : List Transfer
  nextTransfer : Nat
  subs      : List Subscription
  waits     : List Waiting
  fails     : List (Nat × Nat)
  lockouts  : List (Nat × Nat)
  authFails : Nat
  lockoutCount : Nat
  replays   : Nat
  pushOverruns : Nat
  /-- role keys by role 1 to 4; empty for none -/
  keys      : List Bytes
  keyFactory : Bool
  /-- VERSION of STR and BLOB entries beyond its start of 1 -/
  versions  : List (Nat × Nat)
deriving DecidableEq, Repr, Inhabited

/-- Roselo (10 R520 to R532, R539 to R541). -/
structure Roselo where
  minor    : List Nat
  /-- announcing stations: port, MAC, MINOR_MAX, when -/
  stations : List (Nat × Nat × Nat × Nat)
  annSeq   : Nat
  posTx    : Nat
  trgTx    : Nat
  rx       : Nat
  rxDiscarded : Nat
  low      : Nat
  /-- per source: frames exported; accepted, gaps, duplicates and invalid of the import -/
  exports  : List Nat
  accepted : List Nat
  gaps     : List Nat
  dups     : List Nat
  invalid  : List Nat
  /-- frames sent per trigger ID -/
  sent     : List (Nat × Nat)
deriving DecidableEq, Repr, Inhabited

/-- The networks (10). -/
structure Net where
  ports   : List Port
  ptp     : Ptp
  bamcon  : Bamcon
  roselo  : Roselo
  /-- COUNTER of each output frame and of each queue bound to UDP, and the last COUNTER accepted by each input block -/
  outCount : List (Nat × Nat)
  msgCount : List (Nat × Nat)
  inCount  : List (Nat × Nat)
  rejected : Nat
  sentOut  : Nat
deriving DecidableEq, Repr, Inhabited

end Sys2Proof
end

