-- ==== Sys2Proof/Types/Pair.lean ====
section
/-! DEFINITION. The pair and the Corridor (12). -/
namespace Sys2Proof

/-- One Corridor lane (12 R593). -/
structure Lane where
  up     : Bool
  lastAt : Nat
deriving DecidableEq, Repr, Inhabited

/-- The partner as its HELLO and HEALTH show it (12 R594, R623). -/
structure Partner where
  serial : Bytes
  fw     : Nat
  schema : Nat
  digest : Nat
  mode   : Nat
  role   : Nat
  station : Nat
  score  : Nat
  findings : Nat
deriving DecidableEq, Repr, Inhabited

/-- A result that COMPARE covers: stamp, class 0 to 4 and bytes (12 R600). -/
structure CompareItem where
  stamp : Nat
  cls   : Nat
  data  : Bytes
deriving DecidableEq, Repr, Inhabited

/-- An item of a FORWARD frame (12 R595). `at_` is the TIME that the stamp of the item spells: of an encoder slot its start, from which
LAST counts; of an SSI read its first falling clock edge, of a DIO edge its own (02 R49, R59; 09 R435). -/
inductive FwdItem where
  | encSlot (n : Nat) (count : Int) (last flags at_ : Nat)
  | ssi (n value : Nat) (err par : Bool) (at_ : Nat)
  | dio (n : Nat) (level : Bool) (at_ : Nat)
  | analog (n : Nat) (mA : Word) (status : Nat)
  | word (addr : Nat) (value : Word)
  | bit (addr : Nat) (value : Bool)
deriving DecidableEq, Repr, Inhabited

/-- A COMMAND record (12 R597); that of an ARMF carries the stamp at which it acts, which lies after the frame's. `offsets` are OFFSETs that
the Dispatcher set, as BFP words. -/
inductive CmdRec where
  | flCmd (flight cmd at_ : Nat)
  | offsets (l : List (Nat × Word))
  | write (idx sub : Nat) (v : Val)
  | apply (l : List Staged)
  | fallback (f : Nat)
  | swap
deriving DecidableEq, Repr, Inhabited

/-- What waits on the lagged timeline of a standby (12 R596, R597). -/
inductive LagItem where
  | item (i : FwdItem)
  | cmd (c : CmdRec)
deriving DecidableEq, Repr, Inhabited

/-- A Landing delta (12 R598). -/
structure Delta where
  seq      : Nat
  task     : Nat
  landing  : Nat
  /-- the output sections, and the points that the Dispatcher wrote at this Landing -/
  outs     : List Section
  bits     : List (Nat × Bool)
  words    : List (Nat × Word)
  written  : List (Nat × Word)
  image    : TaskSt
  /-- the rest is there at a major Landing -/
  major    : Bool
  dsp      : Option Dsp
  /-- the fallback timetable in use from this Landing on; 0 none (06 R331) -/
  fallback : Nat
  /-- SWAP_AT of an armed edit; 0 none (06 R337) -/
  swapAt   : Nat
  /-- the marker of a swap at this Landing (01 R25), and the force tables from it on (04 R214) -/
  swapped  : Bool
  forces   : Option Forces
  /-- COUNTER values of output frames and message queues, Bamcon state, Parameter Store records committed -/
  outCount : List (Nat × Nat)
  msgCount : List (Nat × Nat)
  bamcon   : Option Bamcon
  records  : List (Nat × Bytes)
  /-- Raw Page writes since the last delta (13 R657) -/
  pages    : List (Nat × Bytes)
  canHeads : List (Nat × Nat × Nat)
  switchMark : Bool
deriving DecidableEq, Repr, Inhabited

/-- The lockstep class of a BULK snapshot (12 R595, R601). -/
structure Lockstep where
  landing : Nat
  /-- the TIME of that Landing -/
  stamp   : Nat
  /-- TIME at which the grid of estimator ticks begins (02 R85) -/
  gridTime : Int
  line    : Line
  treads  : Treads
  loops   : Loops
  dio     : List Dio
  aio     : List Aio
  /-- G3 position tasks: their states by task number, the registers of G3 and the pending launches -/
  pos     : List (Nat × TaskSt)
  g3      : Gallery
  launches : List (Nat × Nat)
  /-- the entries that a Plan declares, as they stand -/
  params  : List (Nat × Val)
deriving DecidableEq, Repr, Inhabited

/-- A BULK snapshot of both classes (12 R605). -/
structure Snapshot where
  lock    : Lockstep
  hall    : Hall
  tasks   : Tasks
  dsp     : Dsp
deriving DecidableEq, Repr, Inhabited

/-- What a HELLO carries (12 R594). -/
structure CorHello where
  major   : Nat
  minor   : Nat
  partner : Partner
deriving DecidableEq, Repr, Inhabited

/-- The pair and the Corridor (12 R587 to R625). -/
structure Pair where
  sense    : Bool
  roleSel  : Nat
  /-- 0 single, 1 active, 2 standby -/
  role     : Nat
  state    : Nat
  lanes    : List Lane
  minor    : Nat
  silent   : Bool
  silentAt : Nat
  silences : Nat
  framesTx : Nat
  framesRx : Nat
  crcErrors : Nat
  naks     : Nat
  /-- SEQ sent and last SEQ received, per class -/
  seqTx    : List Nat
  seqRx    : List Nat
  /-- deltas not yet acknowledged, with their bytes (R607) -/
  buffer   : List (Delta × Nat)
  peak     : Nat
  partner  : Option Partner
  /-- Bamcon state of the active module at its last delta (R598, R609) -/
  held     : Option Bamcon
  /-- major Landing last applied by the standby -/
  applied  : Nat
  joinAt   : Nat
  switchAt : Nat
  /-- start F of the major frame after SWITCH_AT (R614) -/
  switchF  : Nat
  /-- switchover: 0 none, 1 accepted, 2 marked, 3 roles changing, 4 ramps; 5 handover in progress (R614, R616) -/
  switching : Nat
  rampAt   : Nat
  takeovers : Nat
  switchovers : Nat
  skipped  : Nat
  lastTakeover : Nat
  compare  : List CompareItem
  intervals : Nat
  mismatches : Nat
  lastClasses : Nat
  resyncs  : Nat
  resyncing : Bool
  shadowDiff : Nat
  loopbackFail : Nat
  /-- own input samples and forwarded items of the last 1 ms with their stamps, newest first, and the last forwarded stamp (R596, R602, R609) -/
  shadowBuf : List (Nat × FwdItem)
  fwdBuf   : List (Nat × FwdItem)
  lastFwd  : Nat
  /-- own DIO levels, and since when each differs from the forwarded one (R602) -/
  shadowDio : List Bool
  dioDiff  : List (Option Nat)
  /-- items and records that wait for their instant on the lagged timeline, by stamp, and deltas that wait for the snapshot (R596, R605) -/
  lag      : List (Nat × LagItem)
  /-- Raw Page writes for the next delta: address and bytes (13 R657) -/
  pageOut  : List (Nat × Bytes)
  early    : List Delta
  /-- when PAIR_STATE 4 was last reached, in TIME (R600) -/
  hotAt    : Nat
  /-- when Boot ended, and the last retry of station B (R604) -/
  waitAt   : Nat
  retryAt  : Option Nat
  /-- FAULT_CAUSE that holds if the partner is lost before a HANDOVER has led to T_sw; 0 none (R616) -/
  after    : Nat
  /-- findings with the instant at which each was last raised -/
  divergedAt : Option Nat
  shadowAt : Option Nat
  supplyAt : Option Nat
  loopback : Bool
  unaligned : Bool
  scrubSlot : Nat
  scrubCount : Nat
  /-- an uncorrectable memory error, a Gallery self-check failure, since the restart (R618) -/
  uncorrectable : Bool
  selfcheck : Bool
  lastFindings : Nat
  healthAt : Nat
  recommend : Bool
deriving DecidableEq, Repr, Inhabited

end Sys2Proof
end

