-- ==== Sys2Proof/Types/Out.lean ====
section
/-! DEFINITION. What leaves the module. -/
namespace Sys2Proof

/-- What the module sends on the Corridor (12 R589, R590). -/
inductive CorMsg where
  | keepalive (lane : Nat)
  | forward (i : FwdItem)
  | command (c : CmdRec)
  | compare (at_ : Nat) (crcs : List Word)
  | delta (d : Delta)
  | health (score findings : Nat)
  | hello (h : CorHello)
  | join (lockstep : Bool)
  | joinDone
  | switch_ (at_ : Nat)
  | switchReady
  | handover
  | snapshot (x : Snapshot)
  | resync (x : Lockstep)
  | ack (seq verified : Nat)
  | nak (missing : List Nat)
deriving DecidableEq, Repr, Inhabited

/-- One thing that leaves the module. Times are instants of the model; payloads are bytes where the spec gives a layout. -/
inductive Emission where
  | trg (channel : Nat) (level : Bool) (time : Nat)
  | dio (channel : Nat) (level : Bool) (time : Nat)
  | aio (channel : Nat) (mA : Rat) (time : Nat)
  /-- the linear ramp of 1 ms of a current output at a role change, up to a current or down from it (09 R469) -/
  | ramp (channel : Nat) (mA : Rat) (up : Bool) (time : Nat)
  | fsk (channel : Nat) (data : Bytes) (time : Nat)
  | ssiClock (n : Nat) (on : Bool) (time : Nat)
  | venc (m : Nat) (on : Bool) (time : Nat)
  | pps (level : Bool) (time : Nat)
  | bamcon (link ip port : Nat) (msg : Bytes)
  | udp (port ip udpPort : Nat) (data : Bytes)
  | roselo (port dest : Nat) (payload : Bytes)
  | arp (port ip : Nat) (reply : Bool)
  | icmp (port ip : Nat) (data : Bytes)
  | dhcp (port : Nat)
  | ptp (port : Nat) (announce : Bool)
  /-- an Ethernet frame with its 802.1Q tag (10 R483) -/
  | tagged (pcp vid : Nat) (frame : Emission)
  | can (channel : Nat) (frame : CanTx)
  | corridor (stamp : Nat) (m : CorMsg)
deriving DecidableEq, Repr, Inhabited

end Sys2Proof
end

