-- ==== Sys2Proof/Syntax.lean ====
section
/-! DEFINITION. The commands of the block, one constructor for each row of the opcode table. Every command's first operand is its instant in ns (log 1); `o` names an authenticated request (log 21). -/
namespace Sys2Proof

/-- A command. The docstring of each constructor is the rule and what the spec's table says of it. -/
inductive Instr where
  /-- R673. VL at 18.6 V or above for 5 ms starts Boot, which runs its timed steps to Stop, Run or Fault. -/
  | powerOn (t mv : Nat) (b : BootIn)
  /-- R683. nRESET held low for 1 µs or longer causes a power-on reset of everything except the backup domain, and Boot follows. -/
  | nreset (t : Nat) (b : BootIn)
  /-- R102. At the first valid read of the awaited SSI input, the waiting source loads the absolute value, sets VALID and HOMED, and records event 0x2015. -/
  | absStartLoaded (t n t0 raw : Nat) (err par : Bool)
  /-- R604. JOIN_WAIT expires without Corridor link-up: station A becomes active alone and station B stays in Stop and retries. -/
  | joinWaitExpired (t : Nat)
  /-- R604. Station B, in Stop with no Corridor, retries pairing every 1 s. -/
  | stationBRetry (t : Nat)
  /-- R686. The hold-up store reaches its charge: HOLDUP_READY is set and event 0x9041 is recorded. -/
  | holdupReady (t us : Nat)
  /-- R684. VL below 18.0 V for 20 µs starts the power-fail sequence: outputs held, handover on a pair, save, then reset. -/
  | powerFail (t mv cut us arch : Nat)
  /-- R673. A falling edge on MODE_RUN in Stop or Fault requests a restart of kind RUN_PIN_KIND. -/
  | modeRunEdge (t : Nat) (low : Bool) (bad : Nat)
  /-- R673. MODE_STOP going low moves Run, Edit or Standby to Stop. -/
  | modeStopLow (t : Nat) (low : Bool)
  /-- R678. MODE_MRES held low for 3 s in Stop starts a memory reset. -/
  | modeMres (t : Nat) (low : Bool)
  /-- R673. CMD 1 of 0x1100 moves the module from Run, Edit or Standby to Stop. -/
  | modeCmdStop (t : Nat) (o : Origin)
  /-- R673. CMD 2 of 0x1100 leaves Fault for Stop after a passing self-test and Plan verification. -/
  | modeCmdClearFault (t : Nat) (o : Origin) (bad : Nat)
  /-- R676. CMD 3 of 0x1100 in Stop performs a memory reset. -/
  | modeCmdMres (t : Nat) (o : Origin)
  /-- R229. REQUEST 1 in Stop or Fault performs a cold restart into Run. -/
  | restartCold (t : Nat) (o : Origin) (bad : Nat)
  /-- R229. REQUEST 2 performs a warm restart that restores the newest valid retained record, or runs cold when there is none. -/
  | restartWarm (t : Nat) (o : Origin) (bad : Nat)
  /-- R36. A reset on either side of a clock-domain crossing runs the resynchronisation handshake, discards data in flight and records event 0x1041. -/
  | crossingResync (t n k : Nat)
  /-- R30. In Stop, and in Update entered from Stop, an apply point every 10 ms applies RWA shadows and answers APPLY_WAIT writes. -/
  | applyPoint (t : Nat)
  /-- R188. A time task is released at OFFSET plus n × PERIOD from the start of Run. -/
  | taskRelease (t k : Nat)
  /-- R201. A task copies its input sections from the live Hall, with forcing, when the Hall serves its request; registers and FLAGS are cleared and values captured. -/
  | copyIn (t k : Nat) (err kind addr : Nat := 0)
  /-- R194. At the start of its alcove, an event task runs if its event has occurred since its previous alcove. -/
  | alcoveStart (t k : Nat)
  /-- R192. G3 starts the next pending position task in launch order once the previous one has landed. -/
  | g3TaskStart (t : Nat)
  /-- R249. A Gallery issues one bundle, reading all operands and executing its four slots, or holds it under R250. -/
  | bundleIssue (t g k err : Nat)
  /-- R204. A task's LAND starts its Landing: copy-back with forcing, outputs leave, the delta is sealed, pushes are queued and the Landing count increments. -/
  | land (t k : Nat)
  /-- R25. T0's Landing copies back, sends outputs, applies RWA shadows, the Dispatcher result and an edit swap, seals the delta, queues pushes and triggers the commit. -/
  | majorLanding (t : Nat)
  /-- R328. When G0 has failed, steps 2 to 8 of R25 are performed at T0's certified finish, with no copy-back. -/
  | substituteMajorLanding (t : Nat)
  /-- R191. A task that has not landed by its certified finish is a Gallery failure, with event 0x3001. -/
  | taskNotLanded (t k : Nat)
  /-- R300. The 1,024-bundle test sequence runs in its reserved clocks and compares its signature. -/
  | selftestSequence (t g : Nat) (equal : Bool)
  /-- R300. Code SRAM is scrubbed in full every 50 ms; a single-bit error is corrected, an uncorrectable one is a self-check failure. -/
  | codeScrub (t g addr kind : Nat)
  /-- R179. The whole Hall is scrubbed every 100 ms, correcting single-bit errors. -/
  | hallScrub (t result kind addr : Nat)
  /-- R284. The ARMF commands of a Landing act in issue order in the position clock 4 µs after that Landing. -/
  | armfAct (t : Nat)
  /-- R789. The Supervisor drains records from each non-empty Gallery event queue into the recorder, at least one every 40 µs. -/
  | evtDrain (t : Nat)
  /-- R45. An accepted quadrature edge changes the count, which is scaled, fused into the LPC and checked for slip. -/
  | encoderCount (t n : Nat) (a b : Bool)
  /-- R52. An accepted Z edge latches the count, increments Z_COUNT and may check the spacing, apply a preset or anchor a Flight. -/
  | zEdge (t n : Nat)
  /-- R60. A completed SSI read is converted into a count step or discarded as an error. -/
  | ssiRead (t n t0 raw : Nat) (err par : Bool)
  /-- R64. A pair below 200 mV for 1 µs sets LINE_FAULT, faults the input and records event 0x2001. -/
  | encLineFault (t n pair : Nat)
  /-- R64. A LINE_FAULT bit clears after the pair has been at 200 mV or more for 1 µs. -/
  | lineFaultClear (t n pair : Nat)
  /-- R65. A faulted input with 100 ms free of faults is readmitted, with its travel aligned. -/
  | faultReadmit (t n : Nat)
  /-- R83. A READMIT write readmits the named inputs, aligns their travel, clears SLIP and records event 0x2011. -/
  | readmit (t : Nat) (o : Origin) (i mask : Nat)
  /-- R85. At each estimator tick, the source predicts and corrects x, v and a and publishes to the system area. -/
  | estimatorTick (t i : Nat)
  /-- R89. No count for STILL_TIME sets v and a to 0 and sets STANDSTILL. -/
  | standstill (t i : Nat)
  /-- R95. PRESET_CMD 1 loads PRESET into the LPC at once. -/
  | presetNow (t : Nat) (o : Origin) (i : Nat)
  /-- R95. PRESET_CMD 2 arms a preset for the next accepted Z edge of PRESET_ENC. -/
  | presetAtZ (t : Nat) (o : Origin) (i : Nat)
  /-- R95. PRESET_CMD 3 arms a preset for the next major Landing. -/
  | presetAtLanding (t : Nat) (o : Origin) (i : Nat)
  /-- R525. A Roselo position frame is accepted as an import sample, or discarded by version, sender or SEQ. -/
  | roseloPositionRx (t p mac major minor stream seq : Nat) (valid : Bool) (x : Dword) (v : Int) (a : Word) (at_ : Nat)
  /-- R107. No import sample for STALE_TIME sets STALE, records event 0x2017 and frees the sender lock. -/
  | importStale (t i : Nat)
  /-- R107. No import sample until HOLDOVER makes the imported source lost. -/
  | importHoldover (t i : Nat)
  /-- R524. An exported source samples at the first estimator tick after each whole 100 µs and multicasts a position frame. -/
  | roseloExport (t i : Nat)
  /-- R145. The head Tread comes due when x̂ reaches its position; it fires its action or is handled as late. -/
  | treadDue (t src : Nat) (bad : Bool)
  /-- R145. A TRG head is committed within 256 ns of crossing and its edge time is handed to the delay line. -/
  | trgCommit (t src : Nat)
  /-- R152. A placed edge drives the channel by its shape KIND at its time t. -/
  | trgEdge (t c : Nat)
  /-- R152. A KIND 0 pulse returns to the idle level at t + WIDTH. -/
  | trgPulseEnd (t c : Nat)
  /-- R152. A new IDLE level takes the output once no committed edge or pulse is pending. -/
  | trgIdleChange (t c : Nat)
  /-- R154. Every 10 s, a channel's two delay lines swap at the first instant with no edge committed in the next 2 µs. -/
  | delayLineSwap (t c : Nat)
  /-- R444. The I/O block ends a Tread pulse when its width has elapsed. -/
  | dioPulseEnd (t n : Nat)
  /-- R156. A queued trigger frame is sent at its source's next 10 µs slot, or withheld as late. -/
  | remoteFrameSend (t src : Nat)
  /-- R137. FL_CMD 1 moves an IDLE or DONE Flight to ARMED. -/
  | flArm (t : Nat) (o : Origin) (f : Nat)
  /-- R137. FL_CMD 2 returns an ARMED or QUEUED Flight to IDLE, or makes the present run of a RUNNING Flight its last. -/
  | flDisarm (t : Nat) (o : Origin) (f : Nat)
  /-- R135. FL_CMD 3 aborts a RUNNING Flight, counts its missed firings and starts the next queued Flight. -/
  | flAbort (t : Nat) (o : Origin) (f : Nat)
  /-- R131. FL_CMD 4 arms the Flight if needed and anchors it at its current LPC. -/
  | flAnchorNow (t : Nat) (o : Origin) (f : Nat)
  /-- R241. A MASK write stages force masks from the session's SPACE and OFFSET. -/
  | forceMask (t : Nat) (o : Origin) (data : Bytes)
  /-- R241. A VALUE write stages force values from the session's SPACE and OFFSET. -/
  | forceValue (t : Nat) (o : Origin) (data : Bytes)
  /-- R233. CLEAR_ALL stages the clearing of every force table, ordered with the other staged changes. -/
  | clearAll (t : Nat) (o : Origin)
  /-- R240. A window DATA write reaches the live Hall at once, whole. -/
  | hallWinWrite (t : Nat) (o : Origin) (w : Nat) (data : Bytes)
  /-- R238. A window DATA read returns one snapshot, atomic with respect to copies, and sets STAMP. -/
  | hallWinRead (t : Nat) (o : Origin) (w : Nat)
  /-- R350. A rate class ticks and latches every member loop. -/
  | classTick (t k : Nat)
  /-- R369. The engine evaluates the next latched sample through five stages and writes the output and state. -/
  | loopEvaluation (t : Nat)
  /-- R376. An ENABLE write from 0 to 1 enables a loop for a soft start; a write of 0 stops sampling. -/
  | loopEnable (t : Nat) (o : Origin) (n : Nat) (on : Bool)
  /-- R378. An SP write takes effect from the next sample, or is refused with ACCESS when SP_POINT is declared. -/
  | loopSpWrite (t : Nat) (o : Origin) (n : Nat) (sp : Word)
  /-- R383. A write to a group or broadcast entry acts on each member in turn and reports the count and the first refusal. -/
  | loopGroupWrite (t : Nat) (o : Origin) (g sub : Nat) (data : Bytes)
  /-- R392. A GAIN_DATA write stages the table named by the session's GAIN_SEL. -/
  | gainDataWrite (t : Nat) (o : Origin) (data : Bytes)
  /-- R399. A Dispatcher evaluation completes after exactly 3,600 µs, clearing balances and forming the result. -/
  | dispatchEvalDone (t : Nat)
  /-- R412. MODE 0 stops evaluations, zeroes offsets and writes P_OFF at the next major Landing. -/
  | dispatchOff (t : Nat) (o : Origin)
  /-- R412. MODE 1 lets an evaluation start every period. -/
  | dispatchAuto (t : Nat) (o : Origin)
  /-- R412. MODE 2 stops evaluations, keeps the result in force and sets HOLD. -/
  | dispatchHold (t : Nat) (o : Origin)
  /-- R424. A group supply crossing its thresholds changes its state and records event 0x5008. -/
  | vgState (t g mv : Nat)
  /-- R424. VA crossing its thresholds changes its state and records event 0x5018. -/
  | vaState (t mv : Nat)
  /-- R425. The group's wire-break and readback checks resume 100 ms after the supply leaves the absent state. -/
  | supplyChecksResume (t g : Nat)
  /-- R428. A new level stable for FILTER is accepted, timestamped, counted and written to IN_POINT. -/
  | dioInputEdge (t n : Nat) (level : Bool)
  /-- R436. OVERRATE clears after 1 s without such a pair. -/
  | overrateClear (t n : Nat)
  /-- R430. A wire-break condition held for 20 ms sets or clears WIRE_BREAK and records event 0x5001. -/
  | dioWireBreak (t n ua : Nat)
  /-- R433. At the end of each GATE interval, the frequency from the rising edges is written to COUNT_POINT. -/
  | frequencyGate (t n : Nat)
  /-- R439. A current limit for more than 1 ms, or thermal shutdown, switches the output off and records event 0x5002. -/
  | dioOverload (t n : Nat) (thermal : Bool)
  /-- R440. With RETRY = 1, a still-commanded channel is switched on again 100 ms after a switch-off. -/
  | dioRetry (t n : Nat)
  /-- R441. An on output below 5 mA for 50 ms sets OPEN_LOAD and records event 0x5003. -/
  | dioOpenLoad (t n : Nat)
  /-- R442. A pin differing from the command for 1 ms sets RB_MISMATCH and records event 0x5004. -/
  | dioReadback (t n : Nat) (level : Bool)
  /-- R440. CMD 1 of a DIO channel resets a latched fault. -/
  | dioResetLatched (t : Nat) (o : Origin) (n : Nat)
  /-- R437. CMD 2 of a DIO channel zeroes COUNTER in the next input sample. -/
  | dioZeroCounter (t : Nat) (o : Origin) (n : Nat)
  /-- R455. The input ADC yields a value each SAMPLE, which is averaged, converted and written to IO_POINT. -/
  | aioSample (t n : Nat) (na : Int) (tx : Bool)
  /-- R452. A readback differing from the command by more than RB_TOL for RB_TIME sets RB_MISMATCH and records event 0x5012. -/
  | aioReadback (t n : Nat) (na : Int)
  /-- R453. Every 10 s of stable output, TRIM moves by the readback difference, recording event 0x5013. -/
  | aioTrim (t n : Nat)
  /-- R453. CMD 2 of an analogue channel requests a trim at once. -/
  | aioTrimNow (t : Nat) (o : Origin) (n : Nat)
  /-- R478. CMD 1 of an analogue channel clears latched status. -/
  | aioClearLatched (t : Nat) (o : Origin) (n : Nat)
  /-- R460. Headroom below its threshold for 10 ms sets COMPLIANCE, and recovery for 10 ms clears it, with event 0x5011. -/
  | aioCompliance (t n : Nat) (mv tv : Int)
  /-- R467. A clamp current above 1 A sets SURGE for 2 ms, holding the input and suspending checks. -/
  | aioSurge (t n : Nat)
  /-- R467. SURGE clears at the end of its 2 ms. -/
  | surgeEnd (t n : Nat)
  /-- R463. A released FSK message starts once no carrier has been detected for 10 bit times. -/
  | fskTxStart (t n mvpp bits : Nat)
  /-- R463. The last character of an FSK message has been sent, and the message leaves its queue. -/
  | fskTxDone (t n : Nat)
  /-- R465. Characters received under carrier form a frame written to RX_BLOCK, or discarded on error. -/
  | fskRxFrame (t n : Nat) (data : Bytes) (err lost : Bool)
  /-- R483. A port's link changes, and event 0x6001 is recorded. -/
  | linkChange (t p link : Nat)
  /-- R484. A port takes a static or DHCP address after an ARP probe, recording event 0x6002. -/
  | ipAssigned (t p ip : Nat) (dhcp : Bool) (conflict : Option Nat)
  /-- R495. Each unicast resolution is refreshed every 60 s. -/
  | arpRefresh (t p ip : Nat)
  /-- R485. An ICMP echo request is answered, up to 100 per second per port. -/
  | icmpEcho (t p ip : Nat) (d : Bytes)
  /-- R492. A matching UDP datagram is written to the live Hall as one unit and clears its stale bit. -/
  | processFrameRx (t p ip udpPort : Nat) (d : Bytes)
  /-- R489. A Sync exchange on a slave port steps or slews the module's PTP time. -/
  | ptpSync (t p : Nat) (offset : Int) (delay : Nat)
  /-- R490. No Announce within the receipt timeout and no port becoming master clears VALID. -/
  | ptpAnnounceTimeout (t p : Nat) (master : Bool)
  /-- R491. A PPS_IN edge is timestamped and may discipline the frequency. -/
  | ppsIn (t : Nat)
  /-- R491. PPS_OUT rises at each whole second and stays high for 100 ms. -/
  | ppsOut (t : Nat)
  /-- R535. A TIME_SET write sets the time while every PTP port is master. -/
  | timeSet (t : Nat) (o : Origin) (time : Nat)
  /-- R499. A phase 1 HELLO assigns a session and returns the module nonce, or is refused. -/
  | helloPhase1 (t p ip port : Nat) (msg : Bytes)
  /-- R500. A phase 2 HELLO checks CLIENT_PROOF, returns MODULE_PROOF and opens the session. -/
  | helloPhase2 (t p ip port : Nat) (msg : Bytes)
  /-- R505. A phase 3 HELLO closes the session. -/
  | helloPhase3 (t p ip port : Nat) (msg : Bytes)
  /-- R505. A session with no valid message for IDLE_TIMEOUT closes and records event 0x6021. -/
  | idleTimeout (t k : Nat)
  /-- R510. A READ request returns one entry's value. -/
  | read (t p ip port : Nat) (msg : Bytes) (nor : List NorErr := [])
  /-- R510. A WRITE request writes one entry, with the checks of R507. -/
  | write (t p ip port bad : Nat) (msg : Bytes)
  /-- R513. A READ_MULTI request returns several items from one snapshot. -/
  | readMulti (t p ip port : Nat) (msg : Bytes) (nor : List NorErr := [])
  /-- R513. A WRITE_MULTI request writes its items in order, each with its own result. -/
  | writeMulti (t p ip port bad : Nat) (msg : Bytes)
  /-- R515. A BLOCK_READ request returns part of a STR or BLOB entry with its VERSION and TOTAL. -/
  | blockRead (t p ip port : Nat) (msg : Bytes) (nor : List NorErr := [])
  /-- R516. A BLOCK_WRITE segment advances a transfer, and the entry is written when NEXT reaches TOTAL. -/
  | blockWrite (t p ip port : Nat) (msg : Bytes)
  /-- R517. An open write transfer is discarded after 600 s without a segment. -/
  | transferExpired (t number : Nat)
  /-- R518. A SUBSCRIBE request sets up or cancels a subscription to Landing pushes. -/
  | subscribe (t p ip port : Nat) (msg : Bytes)
  /-- R636. A Bamcon COMMIT starts a Parameter Store commit and is answered when every earlier staged record is written. -/
  | commit (t p ip port : Nat) (msg : Bytes)
  /-- R695. ACTIVATE with TARGET 1 activates staged firmware by reset or by a service pause. -/
  | activate (t p ip port : Nat) (b : BootIn) (msg : Bytes)
  /-- R508. A KEY_SEQ ARM write arms one RWK write to the named entry, directly after and within 10 s. -/
  | keySeqArm (t : Nat) (o : Origin) (idx sub : Nat)
  /-- R536. An armed write to ROLE_KEYS sets or removes a role key. -/
  | roleKeyWrite (t : Nat) (o : Origin) (role : Nat) (key : Bytes)
  /-- R523. An announce is sent every 100 ms on each Roselo port. -/
  | roseloAnnounceTx (t p : Nat)
  /-- R523. A received announce updates MINOR_USE and STATIONS, or counts a low station. -/
  | roseloAnnounceRx (t p mac major minorMax : Nat)
  /-- R558. A received CAN frame goes to Bamcon or through the mask/match pairs to an RXQ. -/
  | canFrameRx (t n bad : Nat) (b : BootIn) (f : CanFrame)
  /-- R561. The filter list takes a frame from an RXQ and routes it to a mailbox queue or rejects it. -/
  | canListFilter (t n : Nat)
  /-- R552. The head frame is sent, and the next frame becomes the head. -/
  | canTxDone (t n t0 ns : Nat)
  /-- R552. The head frame loses arbitration or meets an error, and is retransmitted, dropped or expired. -/
  | canTxFailed (t n kind : Nat) (spared : Bool)
  /-- R569. Recovery starts RECOVERY_DELAY after bus-off when RECOVERY = 1. -/
  | canRecoveryStart (t n : Nat)
  /-- R569. CMD 1 of CAN_STAT starts recovery from bus-off. -/
  | canRecoveryCmd (t : Nat) (o : Origin) (n : Nat)
  /-- R568. After 128 sequences of 11 recessive bits, the channel is error active with both counters 0. -/
  | canRecovered (t n : Nat)
  /-- R568. After 11 recessive bits, an integrating channel becomes error active. -/
  | canIntegrated (t n : Nat)
  /-- R571. A Bamcon segment is added to its client's reassembly, which yields a message at LAST. -/
  | canBamconSegment (t n bad : Nat) (b : BootIn) (f : CanFrame)
  /-- R572. A reassembly whose LAST does not arrive within 100 ms is discarded. -/
  | segmentTimeout (t n c : Nat)
  /-- R574. A response segment enters the transmit queue when a place is free, at most 8 standing. -/
  | canBamconTxSegment (t n c : Nat)
  /-- R592. A received KEEPALIVE disciplines the standby's time to pair time. -/
  | keepalive (t lane : Nat) (crc : Bool) (stamp : Nat)
  /-- R596. The standby processes each forwarded item on its timeline lagged by 3 µs. -/
  | forward (t : Nat) (crc : Bool) (seq stamp : Nat) (items : List (Nat × FwdItem))
  /-- R597. The standby applies each COMMAND record at its stamp on the lagged timeline. -/
  | commandRecord (t : Nat) (crc : Bool) (seq : Nat) (c : CmdRec) (stamp : Nat := 0)
  /-- R599. The standby applies a complete delta whole, in Landing order. -/
  | delta (t : Nat) (crc : Bool) (d : Delta)
  /-- R600. The standby compares a COMPARE record with its own five CRC values. -/
  | compare (t : Nat) (crc : Bool) (at_ : Nat) (crcs : List Word)
  /-- R601. After a divergence or gap, the standby loads a BULK snapshot of the lockstep class and resumes. -/
  | lockstepResync (t : Nat) (crc : Bool) (x : Lockstep)
  /-- R591. A SEQ gap in DELTA or BULK is answered with a NAK, and the sender repeats the missing frames. -/
  | corridorNak (t : Nat) (crc : Bool) (missing : List Nat)
  /-- R607. An ACK releases acknowledged deltas from the active module's buffer. -/
  | corridorAck (t : Nat) (crc : Bool) (seq verified : Nat)
  /-- R594. On link-up the modules exchange HELLO and agree the minor version or refuse pairing. -/
  | corridorHello (t : Nat) (crc : Bool) (h : CorHello)
  /-- R605. A joining module loads the BULK snapshot, applies buffered traffic and enters Standby. -/
  | join (t : Nat) (crc : Bool) (ask : Option Bool) (load : Option Snapshot)
  /-- R605. JOIN_DONE makes PAIR_STATE 4 on both modules and records event 0x7002. -/
  | partnerJoined (t : Nat) (crc : Bool)
  /-- R593. A lane with no valid frame for 20 µs goes down, or comes up, with event 0x7020. -/
  | laneChanged (t lane : Nat) (up : Bool)
  /-- R608. After 20 µs of silence, the standby declares a loss or waits, by PAIR_SENSE and pin evidence. -/
  | corridorSilence (t : Nat) (pin analog : Bool) (driven : Option Nat)
  /-- R608. Silence for SILENCE_CONFIRM with every paralleled output off declares the loss. -/
  | silenceConfirm (t : Nat) (allOff : Bool)
  /-- R588. PAIR_SENSE changes and powers the Corridor lanes on or off. -/
  | pairSenseChange (t : Nat) (sense : Bool)
  /-- R602. Every 100 µs the standby compares its shadow inputs with the forwarded ones. -/
  | shadowCheck (t : Nat)
  /-- R617. A standby driver self-test runs and sets LOOPBACK on failure. -/
  | driverTest (t : Nat) (pass : Bool)
  /-- R618. Every 1 s each module sends its SCORE and FINDINGS. -/
  | healthReport (t mv : Nat) (partner : Option (Nat × Nat))
  /-- R613. CMD 1 of 0x1400 requests a switchover at SWITCH_AT. -/
  | switchover (t : Nat) (o : Option Origin) (crc : Bool)
  /-- R622. CMD 2 of 0x1400 requests a lockstep resynchronisation. -/
  | pairResyncCmd (t : Nat) (o : Origin)
  /-- R622. CMD 3 of 0x1400 requests a rejoin. -/
  | pairRejoinCmd (t : Nat) (o : Origin)
  /-- R614. The standby, having applied the deltas up to SWITCH_AT, sends SWITCH_READY, and the roles change at the next frame start. -/
  | switchReady (t : Nat) (crc : Bool)
  /-- R614. At the first quiet position clock, the new active module runs live and the outputs hand over. -/
  | switchTSw (t : Nat)
  /-- R614. At T_sw + 1 ms the ramps end and event 0x7011 with phase 1 is recorded. -/
  | switchoverDone (t : Nat)
  /-- R616. A received HANDOVER makes the standby take over at once through steps 4 to 6 of R614. -/
  | handover (t : Nat) (crc : Bool)
  /-- R633. A write of a record's DATA stages it in the commit buffer. -/
  | psRecordWrite (t : Nat) (o : Origin) (data : Bytes)
  /-- R635. A commit writes its staged copies A and B and its summary block in staging order. -/
  | psCommit (t : Nat)
  /-- R635. In a mode with no major Landing, a commit starts 100 ms after the first write staged. -/
  | psCommitTimer (t : Nat)
  /-- R641. A PROTECT write changes Parameter Store block protection and records event 0x8004. -/
  | protect (t : Nat) (o : Origin) (level : Nat)
  /-- R668. CLEAR with 0x0000_C1EA deletes every ordinary record. -/
  | psCleared (t : Nat) (o : Origin) (v : Nat)
  /-- R661. A Raw Page write merges into a shadow page and appends a map entry, answered within 1 ms. -/
  | rawPageWrite (t : Nat) (o : Origin) (data : Bytes)
  /-- R664. An RP_PROTECT write changes Raw Page protection. -/
  | rpProtect (t : Nat) (o : Origin) (level : Nat)
  /-- R629. The Supervisor reclaims a sector in the background by copying live records forward and erasing. -/
  | reclaim (t addr live us erases : Nat) (nor : List NorErr := [])
  /-- R690. CMD 1 of 0x1800 starts verification of the staged firmware. -/
  | fwVerify (t : Nat) (o : Origin)
  /-- R703. CMD 2 of 0x1800 discards the staged firmware. -/
  | fwDiscard (t : Nat) (o : Origin)
  /-- R690. Verification of staged firmware ends verified or rejected within 150 ms. -/
  | fwVerified (t : Nat) (nor : List NorErr := [])
  /-- R697. At the first frame start after the restart, latches release, tasks resume and the module returns to Run. -/
  | pauseEnded (t : Nat) (fault : Bool)
  /-- R693. Trial firmware that meets every condition appends a confirmed record and records event 0xA007. -/
  | fwConfirmed (t : Nat)
  /-- R693. A Maintainer write of CONFIRM supplies the manual confirmation. -/
  | fwConfirm (t : Nat) (o : Origin)
  /-- R694. Without HEALTH_OK within 300 s, a rejected record is appended and event 0xA008 recorded. -/
  | fwConfirmExpired (t : Nat)
  /-- R322. CMD 1 of 0x2401 starts verification of the staged Plan, or of an edit Plan entering Edit. -/
  | planVerify (t : Nat) (o : Origin)
  /-- R343. CMD 2 of 0x2401 discards the staged Plan. -/
  | planDiscard (t : Nat) (o : Origin)
  /-- R323. CMD 3 of 0x2401 in Stop commits the activation pointer, swaps slots and restarts. -/
  | planActivate (t : Nat) (o : Origin) (bad : Nat)
  /-- R318. Plan verification ends verified, or rejected at its first failure with event 0xA010. -/
  | planVerified (t : Nat) (nor : List NorErr := [])
  /-- R336. A SWAP_AT write arms a verified edit for a named major Landing. -/
  | swapAt (t : Nat) (o : Origin) (landing : Nat)
  /-- R340. CANCEL returns the module to Run and records event 0xA015. -/
  | cancel (t : Nat) (o : Origin)
  /-- R309. An armed write of PUBLIC_KEY holds the Plan key to be registered. -/
  | publicKey (t : Nat) (o : Origin) (key : Bytes)
  /-- R310. CONFIRM checks the key digest and starts the fuse burn of the Plan key. -/
  | planKeyConfirm (t : Nat) (o : Origin) (digest : Nat)
  /-- R736. An armed BURN write starts the burn of the watchdog window fuse group. -/
  | windowFuseBurn (t : Nat) (o : Origin) (f : Nat)
  /-- R3. A fuse burn ends by burning its slot's commit fuse, and STATE reads 2. -/
  | fuseBurnDone (t : Nat) (key : Bool)
  /-- R711. C reaching PERIOD × 7/8 sets WARN, increments WARNINGS and wakes the Supervisor. -/
  | wdtWarning (t w : Nat)
  /-- R718. C reaching PERIOD captures the evidence and resets the module or fails the Gallery, by ACTION. -/
  | wdtExpired (t w : Nat)
  /-- R719. After any running NOR operation completes, the module resets and records events 0x9001 and 0x9006 at Boot. -/
  | wdtReset (t : Nat) (b : BootIn)
  /-- R710. A LOCK write of 1 forbids disabling until the next power-on reset. -/
  | wdtLock (t : Nat) (o : Origin) (w v : Nat)
  /-- R717. SUP_DISABLE = 1 in Stop disables the Supervisor watchdog. -/
  | supDisable (t : Nat) (o : Origin)
  /-- R734. CLEAR of 0x1710 sets the evidence record's VALID to 0. -/
  | evidenceClear (t : Nat) (o : Origin)
  /-- R729. An accepted SET write sets the calendar at the next 32.768 kHz tick and clears OSF. -/
  | rtcSet (t : Nat) (o : Origin) (v : Nat)
  /-- R730. Every 60 s with SYNC = 1 and PTP valid, the calendar is compared with PTP time and corrected. -/
  | rtcSync (t : Nat)
  /-- R731. At 2199-12-31 23:59:59 the calendar stops and sets END. -/
  | calendarEnd (t : Nat)
  /-- R725. The oscillator delivering no edge for 1 ms sets OSF. -/
  | rtcOsf (t : Nat)
  /-- R726. The backup domain voltage falling below 1.50 V resets the calendar, backup bytes and evidence. -/
  | backupLost (t : Nat)
  /-- R726. CMD 1 of 0x1720 clears BKP_LOST. -/
  | bkpLostClear (t : Nat) (o : Origin)
  /-- R724. Every 10 s VBAT is measured, setting or clearing VBAT_LOW. -/
  | vbatMeasure (t mv : Nat)
  /-- R727. A write of all 32 backup bytes stores them together and sets VALID. -/
  | backupBytesWrite (t : Nat) (o : Origin) (data : Bytes)
  /-- R739. Each operating hour, every quantity is sampled and its trend, crossing and STATE updated. -/
  | ledgerSample (t : Nat) (values : List Rat)
  /-- R743. PATH_SLACK below 60 ps for 10 s raises the core voltage one step. -/
  | avsStep (t : Nat) (slack : Rat)
  /-- R746. REFERENCE beyond 20 ppm for 10 s moves the trim and records event 0xB001. -/
  | marginAction (t : Nat) (ppm : Rat)
  /-- R744. A cold sector is refreshed by reclaim, at most one per 60 s. -/
  | sectorRefreshed (t addr live us erases : Nat) (nor : List NorErr := [])
  /-- R753. At each INTERVAL grid instant a bucket gains a token, and a pending suppressed count is summarised. -/
  | tokenAdd (t n : Nat)
  /-- R750. The recorder copies records in SEQ order to the archive, erasing the oldest sector when full. -/
  | archiveCopy (t : Nat)
  /-- R780. Once per second the heat-spreader temperature is measured and warnings are raised or cleared. -/
  | caseMeasure (t : Nat) (case_ junction : Int) (pVa pModule : Nat) (venc : List Nat)
  /-- R766. A VENC current limit acting for 1 ms switches that supply off and records event 0x9032. -/
  | vencOverload (t m fed reading : Nat)
  /-- R766. A VENC supply switched off is switched on again 1 s later. -/
  | vencRestore (t m : Nat)
  /-- R441. OPEN_LOAD clears after the output has carried 10 mA or more for 50 ms. -/
  | openLoadClear (t n : Nat)
  /-- R568. An error detected on the bus while receiving changes REC and may move the channel between error states or into bus-off. -/
  | canBusError (t n kind : Nat) (heavy : Bool)
  /-- R481. A received ARP request or reply is answered or updates the port's address resolution. -/
  | arpRx (t p ip mac target : Nat) (request : Bool)
  /-- R490. A received Announce feeds the best master clock algorithm, which may change port states, the grandmaster and VALID. -/
  | ptpAnnounceRx (t p state gm : Nat)
  /-- R486. A port in MASTER state sends Sync and Announce messages at each interval of LOG_SYNC. -/
  | ptpSyncTx (t p : Nat)
  /-- R590. A Corridor lane idle for 1 µs sends a KEEPALIVE carrying pair time. -/
  | keepaliveTx (t lane : Nat)
  /-- R600. Every 100 µs of pair time the active module forms its five CRC values and sends a COMPARE record. -/
  | compareTx (t : Nat)
  /-- R723. The backup domain changes its supply between VBAT and the main rail when V_R crosses the thresholds of R723. -/
  | backupSupplyChange (t vr vbat : Nat)
  /-- R685. When the hold-up store is exhausted after the power-fail save, the module enters Backup if VBAT is present. -/
  | holdupExhausted (t : Nat) (vbat : Bool)
  /-- R677. A mismatch between the two halves of the Supervisor pair moves the module to Fault with FAULT_CAUSE 3. -/
  | supervisorLockstepMismatch (t : Nat)
  /-- R706. A debug halt through the service port stops a Gallery while its watchdog keeps counting. -/
  | debugHalt (t g : Nat) (halt : Bool)
  /-- R484. A DHCP lease that runs out leaves the port without that address, falling back to IP_ADDR and closing its Bamcon sessions. -/
  | dhcpLeaseExpired (t p : Nat)
deriving DecidableEq, Repr

/-- The instant of a command: its first operand (log 1). -/
def Instr.instant : Instr → Nat
  | .powerOn t _ _ => t
  | .nreset t _ => t
  | .absStartLoaded t _ _ _ _ _ => t
  | .joinWaitExpired t => t
  | .stationBRetry t => t
  | .holdupReady t _ => t
  | .powerFail t _ _ _ _ => t
  | .modeRunEdge t _ _ => t
  | .modeStopLow t _ => t
  | .modeMres t _ => t
  | .modeCmdStop t _ => t
  | .modeCmdClearFault t _ _ => t
  | .modeCmdMres t _ => t
  | .restartCold t _ _ => t
  | .restartWarm t _ _ => t
  | .crossingResync t _ _ => t
  | .applyPoint t => t
  | .taskRelease t _ => t
  | .copyIn t .. => t
  | .alcoveStart t _ => t
  | .g3TaskStart t => t
  | .bundleIssue t _ _ _ => t
  | .land t _ => t
  | .majorLanding t => t
  | .substituteMajorLanding t => t
  | .taskNotLanded t _ => t
  | .selftestSequence t _ _ => t
  | .codeScrub t _ _ _ => t
  | .hallScrub t _ _ _ => t
  | .armfAct t => t
  | .evtDrain t => t
  | .encoderCount t _ _ _ => t
  | .zEdge t _ => t
  | .ssiRead t _ _ _ _ _ => t
  | .encLineFault t _ _ => t
  | .lineFaultClear t _ _ => t
  | .faultReadmit t _ => t
  | .readmit t _ _ _ => t
  | .estimatorTick t _ => t
  | .standstill t _ => t
  | .presetNow t _ _ => t
  | .presetAtZ t _ _ => t
  | .presetAtLanding t _ _ => t
  | .roseloPositionRx t _ _ _ _ _ _ _ _ _ _ _ => t
  | .importStale t _ => t
  | .importHoldover t _ => t
  | .roseloExport t _ => t
  | .treadDue t _ _ => t
  | .trgCommit t _ => t
  | .trgEdge t _ => t
  | .trgPulseEnd t _ => t
  | .trgIdleChange t _ => t
  | .delayLineSwap t _ => t
  | .dioPulseEnd t _ => t
  | .remoteFrameSend t _ => t
  | .flArm t _ _ => t
  | .flDisarm t _ _ => t
  | .flAbort t _ _ => t
  | .flAnchorNow t _ _ => t
  | .forceMask t _ _ => t
  | .forceValue t _ _ => t
  | .clearAll t _ => t
  | .hallWinWrite t _ _ _ => t
  | .hallWinRead t _ _ => t
  | .classTick t _ => t
  | .loopEvaluation t => t
  | .loopEnable t _ _ _ => t
  | .loopSpWrite t _ _ _ => t
  | .loopGroupWrite t _ _ _ _ => t
  | .gainDataWrite t _ _ => t
  | .dispatchEvalDone t => t
  | .dispatchOff t _ => t
  | .dispatchAuto t _ => t
  | .dispatchHold t _ => t
  | .vgState t _ _ => t
  | .vaState t _ => t
  | .supplyChecksResume t _ => t
  | .dioInputEdge t _ _ => t
  | .overrateClear t _ => t
  | .dioWireBreak t _ _ => t
  | .frequencyGate t _ => t
  | .dioOverload t _ _ => t
  | .dioRetry t _ => t
  | .dioOpenLoad t _ => t
  | .dioReadback t _ _ => t
  | .dioResetLatched t _ _ => t
  | .dioZeroCounter t _ _ => t
  | .aioSample t _ _ _ => t
  | .aioReadback t _ _ => t
  | .aioTrim t _ => t
  | .aioTrimNow t _ _ => t
  | .aioClearLatched t _ _ => t
  | .aioCompliance t _ _ _ => t
  | .aioSurge t _ => t
  | .surgeEnd t _ => t
  | .fskTxStart t _ _ _ => t
  | .fskTxDone t _ => t
  | .fskRxFrame t _ _ _ _ => t
  | .linkChange t _ _ => t
  | .ipAssigned t _ _ _ _ => t
  | .arpRefresh t _ _ => t
  | .icmpEcho t _ _ _ => t
  | .processFrameRx t _ _ _ _ => t
  | .ptpSync t _ _ _ => t
  | .ptpAnnounceTimeout t _ _ => t
  | .ppsIn t => t
  | .ppsOut t => t
  | .timeSet t _ _ => t
  | .helloPhase1 t _ _ _ _ => t
  | .helloPhase2 t _ _ _ _ => t
  | .helloPhase3 t _ _ _ _ => t
  | .idleTimeout t _ => t
  | .read t _ _ _ _ _ => t
  | .write t _ _ _ _ _ => t
  | .readMulti t _ _ _ _ _ => t
  | .writeMulti t _ _ _ _ _ => t
  | .blockRead t _ _ _ _ _ => t
  | .blockWrite t _ _ _ _ => t
  | .transferExpired t _ => t
  | .subscribe t _ _ _ _ => t
  | .commit t _ _ _ _ => t
  | .activate t _ _ _ _ _ => t
  | .keySeqArm t _ _ _ => t
  | .roleKeyWrite t _ _ _ => t
  | .roseloAnnounceTx t _ => t
  | .roseloAnnounceRx t _ _ _ _ => t
  | .canFrameRx t _ _ _ _ => t
  | .canListFilter t _ => t
  | .canTxDone t _ _ _ => t
  | .canTxFailed t _ _ _ => t
  | .canRecoveryStart t _ => t
  | .canRecoveryCmd t _ _ => t
  | .canRecovered t _ => t
  | .canIntegrated t _ => t
  | .canBamconSegment t _ _ _ _ => t
  | .segmentTimeout t _ _ => t
  | .canBamconTxSegment t _ _ => t
  | .keepalive t _ _ _ => t
  | .forward t _ _ _ _ => t
  | .commandRecord t _ _ _ _ => t
  | .delta t _ _ => t
  | .compare t _ _ _ => t
  | .lockstepResync t _ _ => t
  | .corridorNak t _ _ => t
  | .corridorAck t _ _ _ => t
  | .corridorHello t _ _ => t
  | .join t _ _ _ => t
  | .partnerJoined t _ => t
  | .laneChanged t _ _ => t
  | .corridorSilence t _ _ _ => t
  | .silenceConfirm t _ => t
  | .pairSenseChange t _ => t
  | .shadowCheck t => t
  | .driverTest t _ => t
  | .healthReport t _ _ => t
  | .switchover t _ _ => t
  | .pairResyncCmd t _ => t
  | .pairRejoinCmd t _ => t
  | .switchReady t _ => t
  | .switchTSw t => t
  | .switchoverDone t => t
  | .handover t _ => t
  | .psRecordWrite t _ _ => t
  | .psCommit t => t
  | .psCommitTimer t => t
  | .protect t _ _ => t
  | .psCleared t _ _ => t
  | .rawPageWrite t _ _ => t
  | .rpProtect t _ _ => t
  | .reclaim t _ _ _ _ _ => t
  | .fwVerify t _ => t
  | .fwDiscard t _ => t
  | .fwVerified t _ => t
  | .pauseEnded t _ => t
  | .fwConfirmed t => t
  | .fwConfirm t _ => t
  | .fwConfirmExpired t => t
  | .planVerify t _ => t
  | .planDiscard t _ => t
  | .planActivate t _ _ => t
  | .planVerified t _ => t
  | .swapAt t _ _ => t
  | .cancel t _ => t
  | .publicKey t _ _ => t
  | .planKeyConfirm t _ _ => t
  | .windowFuseBurn t _ _ => t
  | .fuseBurnDone t _ => t
  | .wdtWarning t _ => t
  | .wdtExpired t _ => t
  | .wdtReset t _ => t
  | .wdtLock t _ _ _ => t
  | .supDisable t _ => t
  | .evidenceClear t _ => t
  | .rtcSet t _ _ => t
  | .rtcSync t => t
  | .calendarEnd t => t
  | .rtcOsf t => t
  | .backupLost t => t
  | .bkpLostClear t _ => t
  | .vbatMeasure t _ => t
  | .backupBytesWrite t _ _ => t
  | .ledgerSample t _ => t
  | .avsStep t _ => t
  | .marginAction t _ => t
  | .sectorRefreshed t _ _ _ _ _ => t
  | .tokenAdd t _ => t
  | .archiveCopy t => t
  | .caseMeasure t _ _ _ _ _ => t
  | .vencOverload t _ _ _ => t
  | .vencRestore t _ => t
  | .openLoadClear t _ => t
  | .canBusError t _ _ _ => t
  | .arpRx t _ _ _ _ _ => t
  | .ptpAnnounceRx t _ _ _ => t
  | .ptpSyncTx t _ => t
  | .keepaliveTx t _ => t
  | .compareTx t => t
  | .backupSupplyChange t _ _ => t
  | .holdupExhausted t _ => t
  | .supervisorLockstepMismatch t => t
  | .debugHalt t _ _ => t
  | .dhcpLeaseExpired t _ => t

end Sys2Proof
end

