-- ==== Sys2Proof/Machine/Fp.lean ====
section
/-! DEFINITION. Rounded arithmetic: exact rationals rounded once (05 R269 to R273, 08, 07). -/
namespace Sys2Proof.Machine

/-- 2 to a signed power. -/
def pow2 (e : Int) : Rat := if 0 ≤ e then ((2 ^ e.toNat : Nat) : Rat) else 1 / ((2 ^ (-e).toNat : Nat) : Rat)

/-- The whole number nearest to `x`, ties to the even one. -/
def roundEven (x : Rat) : Int :=
  let f := x.floor
  let d := x - f
  if d < 1 / 2 then f else if 1 / 2 < d then f + 1 else if f % 2 = 0 then f else f + 1

/-- The whole number nearest to `x`, ties away from zero. -/
def roundAway (x : Rat) : Int :=
  if 0 ≤ x then (x + 1 / 2).floor else -((-x + 1 / 2).floor)

/-- `x` rounded towards zero. -/
def truncRat (x : Rat) : Int := if 0 ≤ x then x.floor else -((-x).floor)

/-- The magnitude of a rational. -/
def absRat (x : Rat) : Rat := if x < 0 then -x else x

/-- The exponent e with 2^e ≤ |x| < 2^(e+1), for x ≠ 0. -/
def exponentOf (x : Rat) : Int :=
  let e : Int := (Nat.log2 x.num.natAbs : Int) - (Nat.log2 x.den : Int)
  if absRat x < pow2 e then e - 1 else e

/-- `x` rounded to nearest even with `p` significant bits and no exponent below `emin`. -/
def roundTo (p : Nat) (emin : Int) (x : Rat) : Rat :=
  if x = 0 then 0
  else
    let e := max (exponentOf x) emin
    let q := pow2 (e - ((p : Int) - 1))
    (roundEven (x / q) : Rat) * q

/-- IEEE 754 binary64 rounding of a finite value (range is never reached by the values the spec gives). -/
def rnd64 (x : Rat) : Rat := roundTo 53 (-1022) x

/-- The root of `x` with sticky last bit, exact enough for one rounding to at most 53 bits. -/
def sqrtSticky (x : Rat) : Rat :=
  if x ≤ 0 then 0
  else
    let k : Int := 64 - exponentOf x / 2
    let y := x * pow2 (2 * k)
    let n := y.floor.toNat
    let r := Nat.sqrt n
    let exact : Bool := decide (((r * r : Nat) : Rat) = y)
    if exact then (r : Rat) * pow2 (-k) else ((2 * r + 1 : Nat) : Rat) * pow2 (-k - 1)

/-- √x in binary64. -/
def sqrt64 (x : Rat) : Rat := rnd64 (sqrtSticky x)

/-! binary32 -/

/-- The quiet NaN that operations return (05 R269). -/
def f32NaN : Word := 0x7FC00000#32
/-- +∞. -/
def f32Inf : Word := 0x7F800000#32

def f32Sign (w : Word) : Bool := w.getLsbD 31
def f32Exp (w : Word) : Nat := w.toNat / 2 ^ 23 % 256
def f32Frac (w : Word) : Nat := w.toNat % 2 ^ 23
def f32IsNaN (w : Word) : Bool := f32Exp w = 255 && f32Frac w ≠ 0
def f32IsInf (w : Word) : Bool := f32Exp w = 255 && f32Frac w = 0
/-- Zero or a subnormal, which every operation reads as zero of its sign (05 R269). -/
def f32IsZero (w : Word) : Bool := f32Exp w = 0

/-- The value of a finite word, subnormals read as zero. -/
def f32Val (w : Word) : Rat :=
  if f32Exp w = 0 then 0
  else
    let m : Rat := ((2 ^ 23 + f32Frac w : Nat) : Rat) * pow2 ((f32Exp w : Int) - 150)
    if f32Sign w then -m else m

/-- A signed zero. -/
def f32Zero (neg : Bool) : Word := if neg then 0x80000000#32 else 0#32
/-- A signed infinity. -/
def f32InfOf (neg : Bool) : Word := if neg then 0xFF800000#32 else f32Inf

/-- A rounded value as a word, with overflow and underflow told apart: a subnormal result is flushed to a zero of its sign. -/
structure F32Res where
  word  : Word
  above  : Bool
  under : Bool
deriving DecidableEq, Repr

/-- Round a value to binary32, nearest even; a result below 2^−126 once rounded to 24 bits, the exponent unbounded, is a zero
(05 R269); `neg` is the sign of a zero result. -/
def f32Round (x : Rat) (neg : Bool) : F32Res :=
  if x = 0 then ⟨f32Zero neg, false, false⟩
  else
    let s := decide (x < 0)
    let a := absRat (roundTo 24 (-1022) x)
    if a < pow2 (-126) then ⟨f32Zero s, false, true⟩
    else
      let e := exponentOf a
      if 127 < e then ⟨f32InfOf s, true, false⟩
      else
        let m := (a * pow2 (23 - e)).floor.toNat
        ⟨BitVec.ofNat 32 ((if s then 2 ^ 31 else 0) + (e + 127).toNat * 2 ^ 23 + (m - 2 ^ 23)), false, false⟩

/-- A real value as an F32 dictionary value: rounded to nearest even. -/
def f32Of (x : Rat) : Word := (f32Round x false).word

/-- An F32 is a number: neither NaN nor infinite. -/
def f32Finite (w : Word) : Bool := f32Exp w ≠ 255

end Sys2Proof.Machine
end

