-- ==== Sys2Proof/Machine/Bfp.lean ====
section
/-! DEFINITION. Block floating point (00 R14, R15; 07 R358 to R368). -/
namespace Sys2Proof.Machine

/-- A normalised BFP value: mantissa and exponent, value m·2^(e−23); m = 0 has e = 0. -/
structure Bfp where
  m : Int
  e : Int
deriving DecidableEq, Repr, Inhabited

def bfpVal (b : Bfp) : Rat := (b.m : Rat) * pow2 (b.e - 23)

/-- A kept result: value, saturated (OVF), flushed (UNF) (07 R366). -/
structure BfpRes where
  val : Bfp
  ovf : Bool
  unf : Bool
deriving DecidableEq, Repr, Inhabited

/-- The exponent that normalises x ≠ 0: 2^(e−1) ≤ x < 2^e, or 2^(e−1) < −x ≤ 2^e. -/
def bfpExp (x : Rat) : Int :=
  let e := exponentOf x
  if x < 0 ∧ absRat x = pow2 e then e else e + 1

/-- Normalise and round once to nearest even; saturate above exponent 127, flush below −128 (07 R365, R366). -/
def bfpRound (x : Rat) : BfpRes :=
  if x = 0 then ⟨⟨0, 0⟩, false, false⟩
  else
    let e := bfpExp x
    let m := roundEven (x * pow2 (23 - e))
    let (m, e) : Int × Int := if m = 2 ^ 23 then (2 ^ 22, e + 1) else if m = -(2 ^ 22) then (-(2 ^ 23), e - 1) else (m, e)
    if 127 < e then ⟨⟨if x < 0 then -(2 ^ 23) else 2 ^ 23 - 1, 127⟩, true, false⟩
    else if e < -128 then ⟨⟨0, 0⟩, false, true⟩
    else ⟨⟨m, e⟩, false, false⟩

/-- A BFP word read exactly and normalised (00 R15; 07 R358). -/
def bfpOfWord (w : Word) : Bfp :=
  let m := (w.sshiftRight 8).toInt
  let e := (w.setWidth 8).toInt
  (bfpRound ((m : Rat) * pow2 (e - 23))).val

def bfpWord (b : Bfp) : Word := BitVec.ofInt 24 b.m ++ BitVec.ofInt 8 b.e

/-- A mantissa aligned to exponent E: rounded to nearest even over the bits shifted out, exact when shifted left (07 R363, R367). -/
def bfpAlign (E : Int) (b : Bfp) : Int := roundEven ((b.m : Rat) * pow2 (b.e - E))

/-- The largest exponent of the addends that are not zero (07 R362). -/
def bfpStage (l : List Bfp) : Option Int :=
  l.foldl (fun (acc : Option Int) (b : Bfp) =>
    if b.m = 0 then acc else match acc with | none => some b.e | some e => some (max e b.e)) none

/-- A product, exact and rounded once (07 R364). -/
def bfpMul (a b : Bfp) : BfpRes := bfpRound (bfpVal a * bfpVal b)

/-- An aligned sum at exponent E as a value. -/
def bfpAt (E : Int) (n : Int) : Rat := (n : Rat) * pow2 (E - 23)

/-- A BFP value as F32: exact, below 2^−126 zero of its sign (07 R368). -/
def bfpToF32 (b : Bfp) : Word := (f32Round (bfpVal b) (b.m < 0)).word

/-- A BFP value as I32: nearest even, clamped (07 R368). -/
def bfpToI32 (b : Bfp) : Word := BitVec.ofInt 32 (clampInt (-(2 ^ 31)) (2 ^ 31 - 1) (roundEven (bfpVal b)))

end Sys2Proof.Machine
end

