-- ==== Sys2Proof/Machine/Crypto.lean ====
section
/-! DEFINITION. The check values the spec names: CRC-32 and CRC-32C (16 R747, 06, 14), SHA-256 and HMAC-SHA-256 (10 R498 to R502), SHA-512 and Ed25519 verification (06 R309, R310, 14 R690). Each follows its public standard, to which the spec refers by name. -/
namespace Sys2Proof.Machine

/-! Reflected CRCs -/

/-- `n` shifts of a reflected 32-bit CRC register. -/
def crcShift (poly : Word) : Nat → Word → Word
  | 0, r => r
  | n + 1, r => crcShift poly n (if r.getLsbD 0 then (r >>> 1) ^^^ poly else r >>> 1)

/-- A reflected 32-bit CRC over bytes, register preset to all ones and inverted at the end. -/
def crcReflected (poly : Word) (bs : Bytes) : Word :=
  ~~~ bs.foldl (fun r b => crcShift poly 8 (r ^^^ b.setWidth 32)) 0xFFFFFFFF#32

/-- CRC-32 of IEEE 802.3. -/
def crc32 (bs : Bytes) : Word := crcReflected 0xEDB88320#32 bs

/-- CRC-32C (Castagnoli). -/
def crc32c (bs : Bytes) : Word := crcReflected 0x82F63B78#32 bs

/-! SHA-256 -/

def sha256K : List Word :=
  [0x428a2f98#32, 0x71374491#32, 0xb5c0fbcf#32, 0xe9b5dba5#32, 0x3956c25b#32, 0x59f111f1#32, 0x923f82a4#32, 0xab1c5ed5#32,
   0xd807aa98#32, 0x12835b01#32, 0x243185be#32, 0x550c7dc3#32, 0x72be5d74#32, 0x80deb1fe#32, 0x9bdc06a7#32, 0xc19bf174#32]
  ++ [0xe49b69c1#32, 0xefbe4786#32, 0x0fc19dc6#32, 0x240ca1cc#32, 0x2de92c6f#32, 0x4a7484aa#32, 0x5cb0a9dc#32, 0x76f988da#32,
   0x983e5152#32, 0xa831c66d#32, 0xb00327c8#32, 0xbf597fc7#32, 0xc6e00bf3#32, 0xd5a79147#32, 0x06ca6351#32, 0x14292967#32]
  ++ [0x27b70a85#32, 0x2e1b2138#32, 0x4d2c6dfc#32, 0x53380d13#32, 0x650a7354#32, 0x766a0abb#32, 0x81c2c92e#32, 0x92722c85#32,
   0xa2bfe8a1#32, 0xa81a664b#32, 0xc24b8b70#32, 0xc76c51a3#32, 0xd192e819#32, 0xd6990624#32, 0xf40e3585#32, 0x106aa070#32]
  ++ [0x19a4c116#32, 0x1e376c08#32, 0x2748774c#32, 0x34b0bcb5#32, 0x391c0cb3#32, 0x4ed8aa4a#32, 0x5b9cca4f#32, 0x682e6ff3#32,
   0x748f82ee#32, 0x78a5636f#32, 0x84c87814#32, 0x8cc70208#32, 0x90befffa#32, 0xa4506ceb#32, 0xbef9a3f7#32, 0xc67178f2#32]

/-- The eight working words of SHA-2. -/
structure Sha2 (w : Nat) where
  a : BitVec w
  b : BitVec w
  c : BitVec w
  d : BitVec w
  e : BitVec w
  f : BitVec w
  g : BitVec w
  h : BitVec w
deriving DecidableEq, Repr

def sha256Init : Sha2 32 :=
  ⟨0x6a09e667#32, 0xbb67ae85#32, 0x3c6ef372#32, 0xa54ff53a#32, 0x510e527f#32, 0x9b05688c#32, 0x1f83d9ab#32, 0x5be0cd19#32⟩

/-- One round of SHA-2, with the six rotations of its two sums. -/
def sha2Round {w : Nat} (r : Nat × Nat × Nat × Nat × Nat × Nat) (s : Sha2 w) (kw : BitVec w) : Sha2 w :=
  let s1 := s.e.rotateRight r.2.2.2.1 ^^^ s.e.rotateRight r.2.2.2.2.1 ^^^ s.e.rotateRight r.2.2.2.2.2
  let ch := (s.e &&& s.f) ^^^ (~~~ s.e &&& s.g)
  let t1 := s.h + s1 + ch + kw
  let s0 := s.a.rotateRight r.1 ^^^ s.a.rotateRight r.2.1 ^^^ s.a.rotateRight r.2.2.1
  let mj := (s.a &&& s.b) ^^^ (s.a &&& s.c) ^^^ (s.b &&& s.c)
  ⟨t1 + (s0 + mj), s.a, s.b, s.c, s.d + t1, s.e, s.f, s.g⟩

/-- The message schedule: `n` more words after the reversed list `ws` of those made so far. -/
def sha2Schedule {w : Nat} (r : (Nat × Nat × Nat) × Nat × Nat × Nat) : Nat → List (BitVec w) → List (BitVec w)
  | 0, ws => ws.reverse
  | n + 1, ws =>
    let x (k : Nat) : BitVec w := ws.getD (k - 1) 0
    let s0 := (x 15).rotateRight r.1.1 ^^^ (x 15).rotateRight r.1.2.1 ^^^ (x 15) >>> r.1.2.2
    let s1 := (x 2).rotateRight r.2.1 ^^^ (x 2).rotateRight r.2.2.1 ^^^ (x 2) >>> r.2.2.2
    sha2Schedule r n ((x 16 + s0 + x 7 + s1) :: ws)

/-- Add the working words of a block to the state before it. -/
def sha2Add {w : Nat} (p q : Sha2 w) : Sha2 w :=
  ⟨p.a + q.a, p.b + q.b, p.c + q.c, p.d + q.d, p.e + q.e, p.f + q.f, p.g + q.g, p.h + q.h⟩

/-- One 64-byte block of SHA-256. -/
def sha256Block (s : Sha2 32) (ws : List Word) : Sha2 32 :=
  let sched := sha2Schedule ((7, 18, 3), 17, 19, 10) 48 ws.reverse
  sha2Add s ((List.zipWith (· + ·) sha256K sched).foldl (sha2Round (2, 13, 22, 6, 11, 25)) s)

/-- Big-endian words of `k` bytes each; `n` bounds the count. -/
def beWords (w k : Nat) : Nat → Bytes → List (BitVec w)
  | 0, _ => []
  | n + 1, bs => if bs.isEmpty then [] else BitVec.ofNat w (beNat (bs.take k)) :: beWords w k n (bs.drop k)

/-- Fold a block function over groups of 16 words. -/
def sha2Fold {w : Nat} (f : Sha2 w → List (BitVec w) → Sha2 w) : Nat → Sha2 w → List (BitVec w) → Sha2 w
  | 0, s, _ => s
  | n + 1, s, ws => if ws.isEmpty then s else sha2Fold f n (f s (ws.take 16)) (ws.drop 16)

/-- The message padded with one bit, zeros and its bit length in `l` bytes, to a multiple of `b` bytes. -/
def sha2Pad (b l : Nat) (m : Bytes) : Bytes :=
  let z := (b - (m.length + 1 + l) % b) % b
  m ++ 0x80#8 :: (List.replicate z 0#8 ++ beBytes l (8 * m.length))

/-- The digest bytes of a state of eight words of `k` bytes. -/
def sha2Out {w : Nat} (k : Nat) (s : Sha2 w) : Bytes :=
  [s.a, s.b, s.c, s.d, s.e, s.f, s.g, s.h].flatMap fun x => beBytes k x.toNat

/-- SHA-256. -/
def sha256 (m : Bytes) : Bytes :=
  let p := sha2Pad 64 8 m
  sha2Out 4 (sha2Fold sha256Block p.length sha256Init (beWords 32 4 p.length p))

/-- HMAC-SHA-256. -/
def hmacSha256 (key m : Bytes) : Bytes :=
  let k0 := if 64 < key.length then sha256 key else key
  let k := k0 ++ List.replicate (64 - k0.length) 0#8
  sha256 (k.map (· ^^^ 0x5C#8) ++ sha256 (k.map (· ^^^ 0x36#8) ++ m))

/-! SHA-512 -/

def sha512K : List Dword :=
  [0x428a2f98d728ae22#64, 0x7137449123ef65cd#64, 0xb5c0fbcfec4d3b2f#64, 0xe9b5dba58189dbbc#64, 0x3956c25bf348b538#64,
   0x59f111f1b605d019#64, 0x923f82a4af194f9b#64, 0xab1c5ed5da6d8118#64, 0xd807aa98a3030242#64, 0x12835b0145706fbe#64,
   0x243185be4ee4b28c#64, 0x550c7dc3d5ffb4e2#64, 0x72be5d74f27b896f#64, 0x80deb1fe3b1696b1#64, 0x9bdc06a725c71235#64,
   0xc19bf174cf692694#64]
  ++ [0xe49b69c19ef14ad2#64, 0xefbe4786384f25e3#64, 0x0fc19dc68b8cd5b5#64, 0x240ca1cc77ac9c65#64, 0x2de92c6f592b0275#64,
   0x4a7484aa6ea6e483#64, 0x5cb0a9dcbd41fbd4#64, 0x76f988da831153b5#64, 0x983e5152ee66dfab#64, 0xa831c66d2db43210#64,
   0xb00327c898fb213f#64, 0xbf597fc7beef0ee4#64, 0xc6e00bf33da88fc2#64, 0xd5a79147930aa725#64, 0x06ca6351e003826f#64,
   0x142929670a0e6e70#64]
  ++ [0x27b70a8546d22ffc#64, 0x2e1b21385c26c926#64, 0x4d2c6dfc5ac42aed#64, 0x53380d139d95b3df#64, 0x650a73548baf63de#64,
   0x766a0abb3c77b2a8#64, 0x81c2c92e47edaee6#64, 0x92722c851482353b#64, 0xa2bfe8a14cf10364#64, 0xa81a664bbc423001#64,
   0xc24b8b70d0f89791#64, 0xc76c51a30654be30#64, 0xd192e819d6ef5218#64, 0xd69906245565a910#64, 0xf40e35855771202a#64,
   0x106aa07032bbd1b8#64]
  ++ [0x19a4c116b8d2d0c8#64, 0x1e376c085141ab53#64, 0x2748774cdf8eeb99#64, 0x34b0bcb5e19b48a8#64, 0x391c0cb3c5c95a63#64,
   0x4ed8aa4ae3418acb#64, 0x5b9cca4f7763e373#64, 0x682e6ff3d6b2b8a3#64, 0x748f82ee5defb2fc#64, 0x78a5636f43172f60#64,
   0x84c87814a1f0ab72#64, 0x8cc702081a6439ec#64, 0x90befffa23631e28#64, 0xa4506cebde82bde9#64, 0xbef9a3f7b2c67915#64,
   0xc67178f2e372532b#64]
  ++ [0xca273eceea26619c#64, 0xd186b8c721c0c207#64, 0xeada7dd6cde0eb1e#64, 0xf57d4f7fee6ed178#64, 0x06f067aa72176fba#64,
   0x0a637dc5a2c898a6#64, 0x113f9804bef90dae#64, 0x1b710b35131c471b#64, 0x28db77f523047d84#64, 0x32caab7b40c72493#64,
   0x3c9ebe0a15c9bebc#64, 0x431d67c49c100d4c#64, 0x4cc5d4becb3e42b6#64, 0x597f299cfc657e2a#64, 0x5fcb6fab3ad6faec#64,
   0x6c44198c4a475817#64]

def sha512Init : Sha2 64 :=
  ⟨0x6a09e667f3bcc908#64, 0xbb67ae8584caa73b#64, 0x3c6ef372fe94f82b#64, 0xa54ff53a5f1d36f1#64,
   0x510e527fade682d1#64, 0x9b05688c2b3e6c1f#64, 0x1f83d9abfb41bd6b#64, 0x5be0cd19137e2179#64⟩

/-- One 128-byte block of SHA-512. -/
def sha512Block (s : Sha2 64) (ws : List Dword) : Sha2 64 :=
  let sched := sha2Schedule ((1, 8, 7), 19, 61, 6) 64 ws.reverse
  sha2Add s ((List.zipWith (· + ·) sha512K sched).foldl (sha2Round (28, 34, 39, 14, 18, 41)) s)

/-- SHA-512. -/
def sha512 (m : Bytes) : Bytes :=
  let p := sha2Pad 128 16 m
  sha2Out 8 (sha2Fold sha512Block p.length sha512Init (beWords 64 8 p.length p))

/-! Ed25519 -/

/-- The field prime 2^255 − 19. -/
def edP : Nat := 2 ^ 255 - 19
/-- The order of the base point. -/
def edL : Nat := 2 ^ 252 + 27742317777372353535851937790883648493

/-- b^e mod m, the exponent read from its low bit with `n` bits left. -/
def powMod (m : Nat) : Nat → Nat → Nat → Nat
  | 0, _, _ => 1 % m
  | n + 1, b, e =>
    let h := powMod m n (b * b % m) (e / 2)
    if e % 2 = 1 then h * b % m else h

/-- The inverse in the field, 0 for 0. -/
def edInv (x : Nat) : Nat := powMod edP 256 x (edP - 2)
/-- The curve constant d = −121665/121666. -/
def edD : Nat := 0x52036cee2b6ffe738cc740797779e89800700a4d4141d8ab75eb4dca135978a3
/-- A root of −1. -/
def edI : Nat := powMod edP 256 2 ((edP - 1) / 4)

/-- A point in affine coordinates. -/
structure EdPt where
  x : Nat
  y : Nat
deriving DecidableEq, Repr

/-- The sum of two points of the twisted Edwards curve (complete for every pair). -/
def edAdd (p q : EdPt) : EdPt :=
  let k := edD * p.x % edP * q.x % edP * p.y % edP * q.y % edP
  let xn := (p.x * q.y + q.x * p.y) % edP
  let yn := (p.y * q.y + p.x * q.x) % edP
  ⟨xn * edInv ((1 + k) % edP) % edP, yn * edInv ((1 + edP - k) % edP) % edP⟩

/-- A point in projective coordinates: (x/z, y/z). -/
structure EdProj where
  x : Nat
  y : Nat
  z : Nat
deriving DecidableEq, Repr

/-- The sum of two points in projective coordinates (complete, no inverse taken). -/
def edAddProj (p q : EdProj) : EdProj :=
  let a := p.z * q.z % edP
  let b := a * a % edP
  let c := p.x * q.x % edP
  let d := p.y * q.y % edP
  let e := edD * c % edP * d % edP
  let f := b + edP - e
  let g := b + e
  let m := (p.x + p.y) * (q.x + q.y) + 2 * edP - c - d
  ⟨a * f % edP * m % edP, a * g % edP * (d + c) % edP, f * g % edP⟩

/-- k times a point in projective coordinates, with `n` bits of k left. -/
def edMulProj : Nat → Nat → EdProj → EdProj
  | 0, _, _ => ⟨0, 1, 1⟩
  | n + 1, k, p =>
    let h := edMulProj n (k / 2) (edAddProj p p)
    if k % 2 = 1 then edAddProj h p else h

/-- k times a point, k read to `n` bits. -/
def edMul (n k : Nat) (p : EdPt) : EdPt :=
  let q := edMulProj n k ⟨p.x, p.y, 1⟩
  let i := edInv q.z
  ⟨q.x * i % edP, q.y * i % edP⟩

/-- A point from its 32-byte encoding: none when y is not below the prime or no x exists. -/
def edDecode (bs : Bytes) : Option EdPt :=
  let n := leNat bs
  let s := n / 2 ^ 255 % 2
  let y := n % 2 ^ 255
  if bs.length ≠ 32 ∨ edP ≤ y then none
  else
    let u := (y * y + edP - 1) % edP
    let v := (edD * (y * y % edP) + 1) % edP
    let xx := u * edInv v % edP
    let r := powMod edP 256 xx ((edP + 3) / 8)
    let x := if r * r % edP = xx then r else r * edI % edP
    if x * x % edP ≠ xx then none
    else if x = 0 then (if s = 1 then none else some ⟨0, y⟩)
    else some ⟨if x % 2 = s then x else edP - x, y⟩

/-- The base point: y = 4/5, x even. -/
def edBase : EdPt :=
  (edDecode (leBytes 32 (4 * edInv 5 % edP))).getD ⟨0, 1⟩

/-- The key is a point of the prime-order subgroup and not its identity (06 R310). -/
def edPrimeOrder (key : Bytes) : Bool :=
  match edDecode key with
  | none => false
  | some p => decide (edMul 256 edL p = ⟨0, 1⟩) && decide (p ≠ ⟨0, 1⟩)

/-- Ed25519 verification of RFC 8032, with the cofactored equation (DESIGN CHOICE, log 7). -/
def edVerify (key msg sig : Bytes) : Bool :=
  let rb := sig.take 32
  let sn := leNat (sig.drop 32)
  match edDecode key, edDecode rb with
  | some a, some r =>
    if sig.length ≠ 64 ∨ edL ≤ sn then false
    else
      let k := leNat (sha512 (rb ++ key ++ msg)) % edL
      decide (edMul 256 (8 * sn % (8 * edL)) edBase = edMul 4 8 (edAdd r (edMul 256 k a)))
  | _, _ => false

end Sys2Proof.Machine
end

