-- ==== Sys2Proof/Machine/DictTable.lean ====
section
/-! DEFINITION. The object dictionary: every entry family with its sub-indices, types, access classes, defaults and ranges, from the entry tables of the chapters (00 R10, R19 and the entry rule that each family names). A default of "Plan" is 0 or empty until a Plan gives it (log 3); a default of — or "factory" stands for a value that the machine computes. -/
namespace Sys2Proof.Machine

/-- R10: 0x1000 IDENTITY — module. -/
def rowsIdentity : List Row :=
  [⟨0, 0, .u8, .ro, .num 9, .any, false⟩,
   ⟨1, 1, .str, .ro, .bytes [], .any, false⟩,
   ⟨2, 2, .str, .ro, .bytes [], .any, false⟩,
   ⟨3, 3, .u16, .ro, .num 0, .any, false⟩,
   ⟨4, 4, .u32, .ro, .num 0, .any, false⟩,
   ⟨5, 5, .u8, .ro, .num 0, .any, false⟩,
   ⟨6, 6, .u8, .ro, .num 0, .any, false⟩,
   ⟨7, 7, .u32, .ro, .num 0, .any, false⟩]
  ++ [⟨8, 8, .u64, .ro, .num 0, .any, false⟩,
   ⟨9, 9, .u64, .ro, .num 0, .any, false⟩]

/-- R38: 0x1010 CROSSINGS — module. -/
def rowsCrossings : List Row :=
  [⟨0, 0, .u8, .ro, .num 13, .any, false⟩,
   ⟨1, 1, .u32, .ro, .num 0, .any, false⟩,
   ⟨2, 2, .u32, .ro, .num 0, .any, false⟩,
   ⟨3, 3, .u32, .ro, .num 0, .any, false⟩,
   ⟨4, 4, .u32, .ro, .num 0, .any, false⟩,
   ⟨5, 5, .u32, .ro, .num 0, .any, false⟩,
   ⟨6, 6, .u32, .ro, .num 0, .any, false⟩,
   ⟨7, 7, .u32, .ro, .num 0, .any, false⟩]
  ++ [⟨8, 8, .u32, .ro, .num 0, .any, false⟩,
   ⟨9, 9, .u32, .ro, .num 0, .any, false⟩,
   ⟨10, 10, .u32, .ro, .num 0, .any, false⟩,
   ⟨11, 11, .u32, .ro, .num 0, .any, false⟩,
   ⟨12, 12, .u32, .ro, .num 0, .any, false⟩,
   ⟨13, 13, .u32, .ro, .num 0, .any, false⟩]

/-- R114: 0x2000 POS_ENGINE — module. -/
def rowsPosEngine : List Row :=
  [⟨0, 0, .u8, .ro, .num 3, .any, false⟩,
   ⟨1, 1, .u8, .rwa, .num 0, .any, true⟩,
   ⟨2, 2, .u8, .rwa, .num 0, .upto 15, true⟩,
   ⟨3, 3, .u32, .ro, .num 0, .any, false⟩]

/-- R115: 0x2010 to 0x2017 ENC_CFG — encoder n. -/
def rowsEncCfg : List Row :=
  [⟨0, 0, .u8, .ro, .num 15, .any, false⟩,
   ⟨1, 1, .u8, .rwa, .num 0, .upto 2, false⟩,
   ⟨2, 2, .u8, .rwa, .num 4, .oneOf [1, 2, 4], false⟩,
   ⟨3, 3, .u8, .rwa, .num 0, .any, false⟩,
   ⟨4, 4, .u32, .rwa, .num 1024, .between (1) (16777216), false⟩,
   ⟨5, 5, .u32, .rwa, .num 256, .between (1) (4294967295), false⟩,
   ⟨6, 6, .u32, .rwa, .num 1, .between (1) (4294967295), false⟩,
   ⟨7, 7, .bool, .rwa, .num 0, .any, false⟩]
  ++ [⟨8, 8, .u8, .rwa, .num 0, .upto 2, false⟩,
   ⟨9, 9, .u8, .rwa, .num 0, .upto 7, false⟩,
   ⟨10, 10, .u32, .rwa, .num 1000000, .between (100000) (2000000), false⟩,
   ⟨11, 11, .u8, .rwa, .num 25, .between (8) (32), false⟩,
   ⟨12, 12, .u8, .rwa, .num 1, .upto 1, false⟩,
   ⟨13, 13, .u16, .rwa, .num 100, .between (5) (1000), false⟩,
   ⟨14, 14, .u8, .rwa, .num 20, .between (2) (64), false⟩,
   ⟨15, 15, .u8, .rwa, .num 0, .upto 3, false⟩]

/-- R116: 0x2020 to 0x2027 ENC_STAT — encoder n. -/
def rowsEncStat : List Row :=
  [⟨0, 0, .u8, .ro, .num 9, .any, false⟩,
   ⟨1, 1, .i64, .ro, .num 0, .any, false⟩,
   ⟨2, 2, .i64, .ro, .num 0, .any, false⟩,
   ⟨3, 3, .u32, .ro, .num 0, .any, false⟩,
   ⟨4, 4, .u32, .ro, .num 0, .any, false⟩,
   ⟨5, 5, .u32, .ro, .num 0, .any, false⟩,
   ⟨6, 6, .u32, .ro, .num 0, .any, false⟩,
   ⟨7, 7, .u8, .ro, .num 0, .any, false⟩]
  ++ [⟨8, 8, .u8, .ro, .num 0, .any, false⟩,
   ⟨9, 9, .f32, .ro, .num 0x00000000, .any, false⟩]

/-- R117: 0x2040 to 0x2043 PS_CFG — position source s. -/
def rowsPsCfg : List Row :=
  [⟨0, 0, .u8, .ro, .num 31, .any, false⟩,
   ⟨1, 1, .u8, .rwa, .num 0, .upto 1, false⟩,
   ⟨2, 2, .u8, .rwa, .num 0, .any, false⟩,
   ⟨3, 3, .pos, .rwa, .num 0, .any, false⟩,
   ⟨4, 4, .pos, .rwa, .num 0, .any, false⟩,
   ⟨5, 5, .u8, .rwa, .num 0, .upto 1, false⟩,
   ⟨6, 6, .u16, .rwa, .num 50, .between (1) (10000), false⟩,
   ⟨7, 7, .pos, .rwa, .num 25600, .any, false⟩]
  ++ [⟨8, 8, .f32, .ro, .num 0, .any, true⟩,
   ⟨9, 9, .u16, .ro, .num 0, .any, true⟩,
   ⟨10, 10, .f32, .ro, .num 0, .any, true⟩,
   ⟨11, 11, .f32, .ro, .num 0, .any, true⟩,
   ⟨12, 12, .f32, .ro, .num 0, .any, true⟩,
   ⟨13, 13, .u8, .rwa, .num 0, .upto 2, false⟩,
   ⟨14, 14, .pos, .rwa, .num 0, .any, false⟩,
   ⟨15, 15, .u8, .rw, .num 0, .upto 7, false⟩]
  ++ [⟨16, 23, .u32, .rwa, .num 0, .upto 65536, false⟩,
   ⟨24, 24, .u8, .rwa, .num 0, .any, false⟩,
   ⟨25, 25, .u16, .rwa, .num 300, .between (100) (10000), false⟩,
   ⟨26, 26, .u16, .rwa, .num 2000, .between (0) (60000), false⟩,
   ⟨27, 27, .bool, .rwa, .num 0, .any, false⟩,
   ⟨28, 28, .u8, .rwa, .num 0, .any, false⟩,
   ⟨29, 29, .pos, .rw, .num 0, .any, false⟩,
   ⟨30, 30, .u8, .wo, .num 0, .between (1) (3), false⟩]
  ++ [⟨31, 31, .u8, .wo, .num 0, .any, false⟩]

/-- R118: 0x2050 to 0x2053 PS_STAT — position source s. -/
def rowsPsStat : List Row :=
  [⟨0, 0, .u8, .ro, .num 10, .any, false⟩,
   ⟨1, 1, .pos, .ro, .num 0, .any, false⟩,
   ⟨2, 2, .f32, .ro, .num 0x00000000, .any, false⟩,
   ⟨3, 3, .f32, .ro, .num 0x00000000, .any, false⟩,
   ⟨4, 4, .u32, .ro, .num 0, .any, false⟩,
   ⟨5, 5, .time, .ro, .num 0, .any, false⟩,
   ⟨6, 6, .u8, .ro, .num 0, .any, false⟩,
   ⟨7, 7, .pos, .ro, .num 0, .any, false⟩]
  ++ [⟨8, 8, .u32, .ro, .num 0, .any, false⟩,
   ⟨9, 9, .u32, .ro, .num 0, .any, false⟩,
   ⟨10, 10, .pos, .ro, .num 0, .any, false⟩]

/-- R169: 0x2100 TREAD_ENGINE — module. -/
def rowsTreadEngine : List Row :=
  [⟨0, 0, .u8, .ro, .num 9, .any, false⟩,
   ⟨1, 1, .bool, .rwa, .num 0, .any, true⟩,
   ⟨2, 2, .u16, .ro, .num 0, .any, true⟩,
   ⟨3, 3, .u32, .ro, .num 0, .any, false⟩,
   ⟨4, 4, .u32, .ro, .num 0, .any, false⟩,
   ⟨5, 5, .u32, .ro, .num 0, .any, false⟩,
   ⟨6, 6, .u32, .ro, .num 0, .any, false⟩,
   ⟨7, 7, .u32, .ro, .num 0, .any, false⟩]
  ++ [⟨8, 8, .u32, .ro, .num 0, .any, false⟩,
   ⟨9, 9, .u64, .ro, .num 0, .any, false⟩]

/-- R170: 0x2104 to 0x2107 TREAD_SRC — source s. -/
def rowsTreadSrc : List Row :=
  [⟨0, 0, .u8, .ro, .num 8, .any, false⟩,
   ⟨1, 1, .u8, .rwa, .num 0, .upto 1, false⟩,
   ⟨2, 2, .u16, .rwa, .num 200, .between (50) (10000), false⟩,
   ⟨3, 3, .u16, .rwa, .num 100, .between (20) (65535), false⟩,
   ⟨4, 4, .u16, .ro, .num 65535, .any, false⟩,
   ⟨5, 5, .u8, .ro, .num 0, .any, false⟩,
   ⟨6, 6, .u16, .ro, .num 65535, .any, false⟩,
   ⟨7, 7, .u8, .ro, .num 0, .any, false⟩]
  ++ [⟨8, 8, .pos, .ro, .num 0, .any, false⟩]

/-- R171: 0x2110 to 0x211F TRG_CFG — trigger channel c. -/
def rowsTrgCfg : List Row :=
  [⟨0, 0, .u8, .ro, .num 7, .any, false⟩,
   ⟨1, 1, .bool, .rwa, .num 0, .any, false⟩,
   ⟨2, 2, .u8, .rwa, .num 0, .upto 1, false⟩,
   ⟨3, 3, .u16, .rwa, .num 20, .between (10) (10000), false⟩,
   ⟨4, 4, .i32, .rwa, .num 0, .between (-200) (1000), false⟩,
   ⟨5, 5, .u32, .ro, .num 0, .any, false⟩,
   ⟨6, 6, .u32, .ro, .num 0, .any, false⟩,
   ⟨7, 7, .u16, .ro, .num 0, .any, false⟩]

/-- R172: 0x2120 to 0x215F TRG_SHAPE — shape k. -/
def rowsTrgShape : List Row :=
  [⟨0, 0, .u8, .ro, .num 3, .any, false⟩,
   ⟨1, 1, .u8, .rwa, .num 0, .upto 3, false⟩,
   ⟨2, 2, .u32, .rwa, .num 1000, .between (10) (1000000), false⟩,
   ⟨3, 3, .u32, .rwa, .num 0, .upto 1000000, false⟩]

/-- R173: 0x2180 to 0x2199 FLIGHT — Flight f. -/
def rowsFlFirst : List Row :=
  [⟨0, 0, .u8, .ro, .num 128, .any, false⟩,
   ⟨1, 128, .u16, .rwa, .num 0, .upto 16383, true⟩]

/-- R173: 0x2180 to 0x2199 FLIGHT — Flight f. -/
def rowsFlLength : List Row :=
  [⟨0, 0, .u8, .ro, .num 128, .any, false⟩,
   ⟨1, 128, .u16, .rwa, .num 0, .any, true⟩]

/-- R173: 0x2180 to 0x2199 FLIGHT — Flight f. -/
def rowsFlAnchor : List Row :=
  [⟨0, 0, .u8, .ro, .num 128, .any, false⟩,
   ⟨1, 128, .u8, .rwa, .num 0, .upto 5, false⟩]

/-- R173: 0x2180 to 0x2199 FLIGHT — Flight f. -/
def rowsFlAnchorArg : List Row :=
  [⟨0, 0, .u8, .ro, .num 128, .any, false⟩,
   ⟨1, 128, .u16, .rwa, .num 0, .any, false⟩]

/-- R173: 0x2180 to 0x2199 FLIGHT — Flight f. -/
def rowsFlOffset : List Row :=
  [⟨0, 0, .u8, .ro, .num 128, .any, false⟩,
   ⟨1, 128, .pos, .rwa, .num 0, .any, false⟩]

/-- R173: 0x2180 to 0x2199 FLIGHT — Flight f. -/
def rowsFlPolicy : List Row :=
  [⟨0, 0, .u8, .ro, .num 128, .any, false⟩,
   ⟨1, 128, .u8, .rwa, .num 0, .policy, false⟩]

/-- R173: 0x2180 to 0x2199 FLIGHT — Flight f. -/
def rowsFlCmd : List Row :=
  [⟨0, 0, .u8, .ro, .num 128, .any, false⟩,
   ⟨1, 128, .u8, .wo, .num 0, .between (1) (4), false⟩]

/-- R173: 0x2180 to 0x2199 FLIGHT — Flight f. -/
def rowsFlState : List Row :=
  [⟨0, 0, .u8, .ro, .num 128, .any, false⟩,
   ⟨1, 128, .u8, .ro, .num 0, .any, false⟩]

/-- R173: 0x2180 to 0x2199 FLIGHT — Flight f. -/
def rowsFlAnchorPos : List Row :=
  [⟨0, 0, .u8, .ro, .num 128, .any, false⟩,
   ⟨1, 128, .pos, .ro, .num 0, .any, false⟩]

/-- R173: 0x2180 to 0x2199 FLIGHT — Flight f. -/
def rowsFlDoneCount : List Row :=
  [⟨0, 0, .u8, .ro, .num 128, .any, false⟩,
   ⟨1, 128, .u32, .ro, .num 0, .any, false⟩]

/-- R173: 0x2180 to 0x2199 FLIGHT — Flight f. -/
def rowsFlLate : List Row :=
  [⟨0, 0, .u8, .ro, .num 128, .any, false⟩,
   ⟨1, 128, .u32, .ro, .num 0, .any, false⟩]

/-- R173: 0x2180 to 0x2199 FLIGHT — Flight f. -/
def rowsFlMissed : List Row :=
  [⟨0, 0, .u8, .ro, .num 128, .any, false⟩,
   ⟨1, 128, .u32, .ro, .num 0, .any, false⟩]

/-- R173: 0x2180 to 0x2199 FLIGHT — Flight f. -/
def rowsFlSkipped : List Row :=
  [⟨0, 0, .u8, .ro, .num 128, .any, false⟩,
   ⟨1, 128, .u32, .ro, .num 0, .any, false⟩]

/-- R174: 0x5000 to 0x8FFF TREAD — Tread i. -/
def rowsTread : List Row :=
  [⟨0, 0, .u8, .ro, .num 10, .any, false⟩,
   ⟨1, 1, .pos, .rwa, .num 0, .any, true⟩,
   ⟨2, 2, .u32, .rwa, .num 0, .upto 2147483647, true⟩,
   ⟨3, 3, .bool, .rwa, .num 0, .any, true⟩,
   ⟨4, 4, .u16, .rwa, .num 0, .any, true⟩,
   ⟨5, 5, .u8, .rwa, .num 0, .upto 3, true⟩,
   ⟨6, 6, .u8, .rwa, .num 0, .upto 7, true⟩,
   ⟨7, 7, .u16, .rwa, .num 0, .upto 2047, true⟩]
  ++ [⟨8, 8, .blob, .rwa, .bytes [], .len 16, true⟩,
   ⟨9, 9, .u8, .ro, .num 0, .any, false⟩,
   ⟨10, 10, .u16, .ro, .num 0, .any, false⟩]

/-- R232: 0x1110 RESTART — module. -/
def rowsRestart : List Row :=
  [⟨0, 0, .u8, .ro, .num 7, .any, false⟩,
   ⟨1, 1, .u8, .wo, .num 0, .between (1) (2), false⟩,
   ⟨2, 2, .u8, .ro, .num 0, .any, false⟩,
   ⟨3, 3, .bool, .ro, .num 0, .any, false⟩,
   ⟨4, 4, .u32, .ro, .num 0, .any, false⟩,
   ⟨5, 5, .u32, .ro, .num 0, .any, true⟩,
   ⟨6, 6, .u32, .ro, .num 0, .any, true⟩,
   ⟨7, 7, .u32, .ro, .num 0, .any, true⟩]

/-- R233: 0x1120 FORCING — module. -/
def rowsForcing : List Row :=
  [⟨0, 0, .u8, .ro, .num 6, .any, false⟩,
   ⟨1, 1, .bool, .ro, .num 0, .any, false⟩,
   ⟨2, 2, .u32, .ro, .num 0, .any, false⟩,
   ⟨3, 3, .u32, .ro, .num 0, .any, false⟩,
   ⟨4, 4, .time, .ro, .num 0, .any, false⟩,
   ⟨5, 5, .u8, .wo, .num 0, .between (1) (1), false⟩,
   ⟨6, 6, .bool, .ro, .num 0, .any, false⟩]

/-- R234: 0x2200 TASKS — module. -/
def rowsTasks : List Row :=
  [⟨0, 0, .u8, .ro, .num 6, .any, false⟩,
   ⟨1, 1, .u8, .ro, .num 0, .any, true⟩,
   ⟨2, 2, .u32, .ro, .num 0, .any, true⟩,
   ⟨3, 3, .u16, .ro, .num 25, .any, false⟩,
   ⟨4, 4, .u32, .ro, .num 0, .any, true⟩,
   ⟨5, 5, .u8, .ro, .num 0, .any, false⟩,
   ⟨6, 6, .u16, .ro, .num 0, .any, false⟩]

/-- R235: 0x2210 to 0x2213 GALLERY — Gallery g. -/
def rowsGallery : List Row :=
  [⟨0, 0, .u8, .ro, .num 6, .any, false⟩,
   ⟨1, 1, .u8, .ro, .num 0, .any, false⟩,
   ⟨2, 2, .f32, .ro, .num 0, .any, true⟩,
   ⟨3, 3, .u64, .ro, .num 0, .any, false⟩,
   ⟨4, 4, .u32, .ro, .num 0, .any, true⟩,
   ⟨5, 5, .u32, .ro, .num 0, .any, true⟩,
   ⟨6, 6, .u32, .ro, .num 0, .any, false⟩]

/-- R236: 0x2240 to 0x227F TASK — task k. -/
def rowsTask : List Row :=
  [⟨0, 0, .u8, .ro, .num 14, .any, false⟩,
   ⟨1, 1, .u8, .ro, .num 0, .any, true⟩,
   ⟨2, 2, .u8, .ro, .num 0, .any, true⟩,
   ⟨3, 3, .u32, .ro, .num 0, .any, true⟩,
   ⟨4, 4, .u32, .ro, .num 0, .any, true⟩,
   ⟨5, 5, .u8, .ro, .num 0, .any, true⟩,
   ⟨6, 6, .u16, .ro, .num 0, .any, true⟩,
   ⟨7, 7, .u32, .ro, .num 0, .any, true⟩]
  ++ [⟨8, 8, .u32, .ro, .num 0, .any, false⟩,
   ⟨9, 9, .u32, .ro, .num 0, .any, false⟩,
   ⟨10, 10, .u64, .ro, .num 0, .any, false⟩,
   ⟨11, 11, .u32, .ro, .num 0, .any, false⟩,
   ⟨12, 12, .u16, .ro, .num 0, .any, true⟩,
   ⟨13, 13, .u32, .ro, .num 0, .any, true⟩,
   ⟨14, 14, .u32, .ro, .num 0, .any, true⟩]

/-- R237: 0x2300 HALL — module. -/
def rowsHall : List Row :=
  [⟨0, 0, .u8, .ro, .num 8, .any, false⟩,
   ⟨1, 1, .u32, .ro, .num 262144, .any, false⟩,
   ⟨2, 2, .u32, .ro, .num 262144, .any, false⟩,
   ⟨3, 3, .u32, .ro, .num 524288, .any, false⟩,
   ⟨4, 4, .u32, .ro, .num 65536, .any, false⟩,
   ⟨5, 5, .u32, .ro, .num 65536, .any, false⟩,
   ⟨6, 6, .u32, .ro, .num 131072, .any, false⟩,
   ⟨7, 7, .u32, .ro, .num 4096, .any, false⟩]
  ++ [⟨8, 8, .u32, .ro, .num 0, .any, false⟩]

/-- R240: 0x2310 to 0x231F HALL_WIN — window w. -/
def rowsHallWin : List Row :=
  [⟨0, 0, .u8, .ro, .num 6, .any, false⟩,
   ⟨1, 1, .u8, .rw, .num 0, .upto 6, false⟩,
   ⟨2, 2, .u32, .rw, .num 0, .any, false⟩,
   ⟨3, 3, .u16, .rw, .num 0, .any, false⟩,
   ⟨4, 4, .u8, .rw, .num 0, .upto 1, false⟩,
   ⟨5, 5, .blob, .rw, .bytes [], .any, false⟩,
   ⟨6, 6, .time, .ro, .num 0, .any, false⟩]

/-- R241: 0x2340 FORCE_TABLE — module. -/
def rowsForceTable : List Row :=
  [⟨0, 0, .u8, .ro, .num 6, .any, false⟩,
   ⟨1, 1, .u8, .rw, .num 0, .oneOf [0, 1, 3, 4], false⟩,
   ⟨2, 2, .u32, .rw, .num 0, .any, false⟩,
   ⟨3, 3, .blob, .rwa, .bytes [], .lenUpto 1024, false⟩,
   ⟨4, 4, .blob, .rwa, .bytes [], .lenUpto 1024, false⟩,
   ⟨5, 5, .blob, .ro, .bytes [], .any, false⟩,
   ⟨6, 6, .blob, .ro, .bytes [], .any, false⟩]

/-- R301: 0x2220 to 0x2223 GALLERY_EXEC — Gallery g. -/
def rowsGalleryExec : List Row :=
  [⟨0, 0, .u8, .ro, .num 7, .any, false⟩,
   ⟨1, 1, .u64, .ro, .num 0, .any, false⟩,
   ⟨2, 2, .u8, .ro, .num 0, .any, false⟩,
   ⟨3, 3, .u32, .ro, .num 0, .any, false⟩,
   ⟨4, 4, .u32, .ro, .num 0, .any, false⟩,
   ⟨5, 5, .u32, .ro, .num 0, .any, false⟩,
   ⟨6, 6, .u32, .ro, .num 0, .any, false⟩,
   ⟨7, 7, .u32, .ro, .num 0, .any, false⟩]

/-- R342: 0x2400 PLAN_ACTIVE — module. -/
def rowsPlanActive : List Row :=
  [⟨0, 0, .u8, .ro, .num 8, .any, false⟩,
   ⟨1, 1, .u8, .ro, .num 0, .any, false⟩,
   ⟨2, 2, .u64, .ro, .num 0, .any, false⟩,
   ⟨3, 3, .u64, .ro, .num 0, .any, false⟩,
   ⟨4, 4, .u64, .ro, .num 0, .any, false⟩,
   ⟨5, 5, .u16, .ro, .num 0, .any, false⟩,
   ⟨6, 6, .u8, .ro, .num 0, .any, false⟩,
   ⟨7, 7, .u32, .ro, .num 0, .any, false⟩]
  ++ [⟨8, 8, .u64, .ro, .num 0, .any, false⟩]

/-- R343: 0x2401 PLAN_STAGE — module. -/
def rowsPlanStage : List Row :=
  [⟨0, 0, .u8, .ro, .num 8, .any, false⟩,
   ⟨1, 1, .blob, .wo, .bytes [], .any, false⟩,
   ⟨2, 2, .u32, .ro, .num 0, .any, false⟩,
   ⟨3, 3, .u8, .ro, .num 0, .any, false⟩,
   ⟨4, 4, .u8, .wo, .num 0, .between (1) (3), false⟩,
   ⟨5, 5, .u8, .rw, .num 1, .between (1) (2), false⟩,
   ⟨6, 6, .u64, .ro, .num 0, .any, false⟩,
   ⟨7, 7, .u16, .ro, .num 0, .any, false⟩]
  ++ [⟨8, 8, .u32, .ro, .num 0, .any, false⟩]

/-- R344: 0x2402 EDIT — module. -/
def rowsEdit : List Row :=
  [⟨0, 0, .u8, .ro, .num 5, .any, false⟩,
   ⟨1, 1, .u8, .ro, .num 0, .any, false⟩,
   ⟨2, 2, .u64, .rw, .num 0, .any, false⟩,
   ⟨3, 3, .u64, .ro, .num 0, .any, false⟩,
   ⟨4, 4, .u8, .wo, .num 0, .between (1) (1), false⟩,
   ⟨5, 5, .bool, .ro, .num 0, .any, false⟩]

/-- R345: 0x2403 PLAN_KEY — module. -/
def rowsPlanKey : List Row :=
  [⟨0, 0, .u8, .ro, .num 3, .any, false⟩,
   ⟨1, 1, .blob, .rwk, .bytes [], .len 32, false⟩,
   ⟨2, 2, .u32, .wo, .num 0, .any, false⟩,
   ⟨3, 3, .u8, .ro, .num 0, .any, false⟩]

/-- R346: 0x2405 FALLBACK — module. -/
def rowsFallback : List Row :=
  [⟨0, 0, .u8, .ro, .num 3, .any, false⟩,
   ⟨1, 1, .u8, .ro, .num 0, .any, true⟩,
   ⟨2, 2, .u8, .ro, .num 0, .any, false⟩,
   ⟨3, 3, .u8, .ro, .num 0, .any, true⟩]

/-- R389: 0x4000 to 0x47FF LOOP — loop n. -/
def rowsLoop : List Row :=
  [⟨0, 0, .u8, .ro, .num 30, .any, false⟩,
   ⟨1, 1, .bool, .rw, .num 0, .any, true⟩,
   ⟨2, 2, .bfp, .rw, .num 0, .any, true⟩,
   ⟨3, 3, .bfp, .rwa, .num 0, .bfpPos, true⟩,
   ⟨4, 4, .u8, .rwa, .num 0, .any, true⟩,
   ⟨5, 5, .bfp, .rwa, .num 0, .any, true⟩,
   ⟨6, 6, .bfp, .rwa, .num 0, .any, true⟩,
   ⟨7, 7, .bfp, .rwa, .num 0, .any, true⟩]
  ++ [⟨8, 8, .bfp, .rwa, .num 0, .bfpUnit, true⟩,
   ⟨9, 9, .bfp, .rwa, .num 0, .any, true⟩,
   ⟨10, 10, .bfp, .rwa, .num 0, .any, true⟩,
   ⟨11, 11, .bfp, .rwa, .num 0, .any, true⟩,
   ⟨12, 12, .bfp, .rwa, .num 0, .any, true⟩,
   ⟨13, 13, .bfp, .rwa, .num 0, .bfpPos, true⟩,
   ⟨14, 14, .u8, .ro, .num 0, .any, true⟩,
   ⟨15, 15, .u8, .ro, .num 0, .any, true⟩]
  ++ [⟨16, 16, .u32, .ro, .num 0, .any, true⟩,
   ⟨17, 17, .u32, .ro, .num 0, .any, true⟩,
   ⟨18, 18, .u32, .ro, .num 0, .any, true⟩,
   ⟨19, 19, .bfp, .ro, .num 0, .any, false⟩,
   ⟨20, 20, .bfp, .ro, .num 0, .any, false⟩,
   ⟨21, 21, .bfp, .ro, .num 0, .any, false⟩,
   ⟨22, 22, .bfp, .ro, .num 0, .any, false⟩,
   ⟨23, 23, .bfp, .ro, .num 0, .any, false⟩]
  ++ [⟨24, 24, .bfp, .ro, .num 0, .any, false⟩,
   ⟨25, 25, .bfp, .ro, .num 0, .any, false⟩,
   ⟨26, 26, .bfp, .ro, .num 0, .any, false⟩,
   ⟨27, 27, .u16, .ro, .num 0, .any, false⟩,
   ⟨28, 28, .u32, .ro, .num 0, .any, false⟩,
   ⟨29, 29, .u32, .ro, .num 0, .any, false⟩,
   ⟨30, 30, .time, .ro, .num 0, .any, false⟩]

/-- R390: 0x3E00 to 0x3E3F LOOP_GROUP — group g. -/
def rowsLoopGroup : List Row :=
  [⟨0, 0, .u8, .ro, .num 14, .any, false⟩,
   ⟨1, 1, .bool, .wo, .num 0, .any, false⟩,
   ⟨2, 2, .bfp, .wo, .num 0, .any, false⟩,
   ⟨3, 3, .bfp, .wo, .num 0, .bfpPos, false⟩,
   ⟨4, 4, .u8, .wo, .num 0, .any, false⟩,
   ⟨5, 5, .bfp, .wo, .num 0, .any, false⟩,
   ⟨6, 6, .bfp, .wo, .num 0, .any, false⟩,
   ⟨7, 7, .bfp, .wo, .num 0, .any, false⟩]
  ++ [⟨8, 8, .bfp, .wo, .num 0, .bfpUnit, false⟩,
   ⟨9, 9, .bfp, .wo, .num 0, .any, false⟩,
   ⟨10, 10, .bfp, .wo, .num 0, .any, false⟩,
   ⟨11, 11, .bfp, .wo, .num 0, .any, false⟩,
   ⟨12, 12, .bfp, .wo, .num 0, .any, false⟩,
   ⟨13, 13, .bfp, .wo, .num 0, .bfpPos, false⟩,
   ⟨14, 14, .u16, .ro, .num 0, .any, true⟩]

/-- R391: 0x3EFF LOOP_ALL — engine and broadcast. -/
def rowsLoopAll : List Row :=
  [⟨0, 0, .u8, .ro, .num 47, .any, false⟩,
   ⟨1, 1, .bool, .wo, .num 0, .any, false⟩,
   ⟨2, 2, .bfp, .wo, .num 0, .any, false⟩,
   ⟨3, 3, .bfp, .wo, .num 0, .bfpPos, false⟩,
   ⟨4, 4, .u8, .wo, .num 0, .any, false⟩,
   ⟨5, 5, .bfp, .wo, .num 0, .any, false⟩,
   ⟨6, 6, .bfp, .wo, .num 0, .any, false⟩,
   ⟨7, 7, .bfp, .wo, .num 0, .any, false⟩]
  ++ [⟨8, 8, .bfp, .wo, .num 0, .bfpUnit, false⟩,
   ⟨9, 9, .bfp, .wo, .num 0, .any, false⟩,
   ⟨10, 10, .bfp, .wo, .num 0, .any, false⟩,
   ⟨11, 11, .bfp, .wo, .num 0, .any, false⟩,
   ⟨12, 12, .bfp, .wo, .num 0, .any, false⟩,
   ⟨13, 13, .bfp, .wo, .num 0, .bfpPos, false⟩,
   ⟨32, 32, .u16, .ro, .num 0, .any, true⟩,
   ⟨33, 33, .u32, .ro, .num 0, .any, true⟩]
  ++ [⟨34, 34, .u64, .ro, .num 0, .any, false⟩,
   ⟨35, 35, .u32, .ro, .num 0, .any, false⟩,
   ⟨36, 36, .f32, .ro, .num 0x00000000, .any, false⟩,
   ⟨37, 37, .u8, .rw, .num 0, .any, false⟩,
   ⟨38, 38, .blob, .rwa, .bytes [], .any, true⟩,
   ⟨39, 39, .u16, .ro, .num 0, .any, true⟩,
   ⟨40, 47, .u32, .ro, .num 0, .any, true⟩]

/-- R417: 0x2800 DISPATCH — module. -/
def rowsDispatch : List Row :=
  [⟨0, 0, .u8, .ro, .num 23, .any, false⟩,
   ⟨1, 1, .u8, .rw, .num 0, .upto 2, true⟩,
   ⟨2, 2, .u32, .rwa, .num 0, .between (100) (60000), true⟩,
   ⟨3, 3, .f32, .rwa, .num 0, .f32 0 1000000, true⟩,
   ⟨4, 4, .f32, .rwa, .num 0, .f32Min 0, true⟩,
   ⟨5, 5, .u32, .ro, .num 0, .any, true⟩,
   ⟨6, 6, .f32, .ro, .num 0, .any, true⟩,
   ⟨7, 7, .f32, .ro, .num 0, .any, true⟩]
  ++ [⟨8, 8, .f32, .ro, .num 0, .any, true⟩,
   ⟨9, 9, .u32, .ro, .num 3600, .any, false⟩,
   ⟨10, 10, .u32, .ro, .num 0, .any, false⟩,
   ⟨11, 11, .u64, .ro, .num 0, .any, false⟩,
   ⟨12, 12, .u32, .ro, .num 0, .any, false⟩,
   ⟨13, 13, .f32, .ro, .num 0x00000000, .any, false⟩,
   ⟨14, 14, .f32, .ro, .num 0x00000000, .any, false⟩,
   ⟨15, 15, .f32, .ro, .num 0x00000000, .any, false⟩]
  ++ [⟨16, 16, .f32, .ro, .num 0x00000000, .any, false⟩,
   ⟨17, 20, .f32, .ro, .num 0x00000000, .any, false⟩,
   ⟨21, 21, .f32, .ro, .num 0x00000000, .any, false⟩,
   ⟨22, 22, .u8, .ro, .num 0, .any, false⟩,
   ⟨23, 23, .u8, .ro, .num 0, .any, true⟩]

/-- R418: 0x2900 to 0x293F DSP_SOURCE — source s. -/
def rowsDspSource : List Row :=
  [⟨0, 0, .u8, .ro, .num 14, .any, false⟩,
   ⟨1, 1, .u8, .ro, .num 0, .any, true⟩,
   ⟨2, 2, .u32, .ro, .num 0, .any, true⟩,
   ⟨3, 3, .u32, .ro, .num 0, .any, true⟩,
   ⟨4, 4, .f32, .rwa, .num 0, .any, true⟩,
   ⟨5, 5, .f32, .rwa, .num 0, .any, true⟩,
   ⟨6, 6, .f32, .rwa, .num 0, .any, true⟩,
   ⟨7, 7, .f32, .rwa, .num 0, .any, true⟩]
  ++ [⟨8, 8, .f32, .rwa, .num 0, .any, true⟩,
   ⟨9, 9, .blob, .rwa, .bytes [], .len 128, true⟩,
   ⟨10, 10, .f32, .rwa, .num 0, .any, true⟩,
   ⟨11, 11, .f32, .rwa, .num 0, .any, true⟩,
   ⟨12, 12, .f32, .ro, .num 0x00000000, .any, false⟩,
   ⟨13, 13, .u8, .ro, .num 0, .any, false⟩,
   ⟨14, 14, .bool, .ro, .num 0, .any, false⟩]

/-- R419: 0x2940 to 0x294F DSP_STORE — store k. -/
def rowsDspStore : List Row :=
  [⟨0, 0, .u8, .ro, .num 14, .any, false⟩,
   ⟨1, 1, .u8, .ro, .num 0, .any, true⟩,
   ⟨2, 2, .u32, .ro, .num 0, .any, true⟩,
   ⟨3, 3, .u32, .ro, .num 0, .any, true⟩,
   ⟨4, 4, .f32, .rwa, .num 0, .any, true⟩,
   ⟨5, 5, .f32, .rwa, .num 0, .any, true⟩,
   ⟨6, 6, .f32, .rwa, .num 0, .any, true⟩,
   ⟨7, 7, .f32, .rwa, .num 0, .any, true⟩]
  ++ [⟨8, 8, .f32, .rwa, .num 0, .any, true⟩,
   ⟨9, 9, .f32, .rwa, .num 0, .any, true⟩,
   ⟨10, 10, .f32, .rwa, .num 0, .any, true⟩,
   ⟨11, 11, .blob, .rwa, .bytes [], .len 672, true⟩,
   ⟨12, 12, .f32, .ro, .num 0x00000000, .any, false⟩,
   ⟨13, 13, .f32, .ro, .num 0x00000000, .any, false⟩,
   ⟨14, 14, .f32, .ro, .num 0x00000000, .any, false⟩]

/-- R420: 0x3000 to 0x33FF DSP_CONSUMER — consumer c. -/
def rowsDspConsumer : List Row :=
  [⟨0, 0, .u8, .ro, .num 12, .any, false⟩,
   ⟨1, 1, .u8, .ro, .num 0, .any, true⟩,
   ⟨2, 2, .u32, .ro, .num 0, .any, true⟩,
   ⟨3, 3, .u16, .ro, .num 0, .any, true⟩,
   ⟨4, 4, .u8, .rwa, .num 0, .upto 15, true⟩,
   ⟨5, 5, .f32, .rwa, .num 0, .any, true⟩,
   ⟨6, 6, .f32, .rwa, .num 0, .any, true⟩,
   ⟨7, 7, .f32, .rwa, .num 0, .any, true⟩]
  ++ [⟨8, 8, .f32, .rwa, .num 0, .any, true⟩,
   ⟨9, 9, .f32, .ro, .num 0x00000000, .any, false⟩,
   ⟨10, 10, .f32, .ro, .num 0x00000000, .any, false⟩,
   ⟨11, 11, .f32, .ro, .num 0x00000000, .any, false⟩,
   ⟨12, 12, .f32, .ro, .num 0x00000000, .any, false⟩]

/-- R476: 0x2600 to 0x262F DIO — digital channel n. -/
def rowsDio : List Row :=
  [⟨0, 0, .u8, .ro, .num 20, .any, false⟩,
   ⟨1, 1, .u8, .ro, .num 0, .any, true⟩,
   ⟨2, 2, .u8, .rwa, .num 3, .oneOf [1, 3], false⟩,
   ⟨3, 3, .u16, .rwa, .num 3, .upto 20000, false⟩,
   ⟨4, 4, .bool, .rwa, .num 0, .any, false⟩,
   ⟨5, 5, .u8, .rwa, .num 0, .upto 1, false⟩,
   ⟨6, 6, .u8, .rwa, .num 0, .upto 2, false⟩,
   ⟨7, 7, .u8, .rwa, .num 1, .between (1) (3), false⟩]
  ++ [⟨8, 8, .u16, .rwa, .num 100, .between (1) (1000), false⟩,
   ⟨9, 9, .u8, .ro, .num 0, .any, true⟩,
   ⟨10, 10, .u8, .rwa, .num 0, .upto 2, false⟩,
   ⟨11, 11, .u8, .rwa, .num 1, .upto 1, false⟩,
   ⟨12, 12, .u32, .ro, .num 0, .any, true⟩,
   ⟨13, 13, .u32, .ro, .num 0, .any, true⟩,
   ⟨14, 14, .u32, .ro, .num 0, .any, true⟩,
   ⟨15, 15, .bool, .ro, .num 0, .any, false⟩]
  ++ [⟨16, 16, .u32, .ro, .num 0, .any, false⟩,
   ⟨17, 17, .f32, .ro, .num 0x00000000, .any, false⟩,
   ⟨18, 18, .u16, .ro, .num 0, .any, false⟩,
   ⟨19, 19, .u8, .wo, .num 0, .between (1) (2), false⟩,
   ⟨20, 20, .u32, .ro, .num 0, .any, false⟩]

/-- R477: 0x2640 to 0x2645 DIO_GROUP — group g. -/
def rowsDioGroup : List Row :=
  [⟨0, 0, .u8, .ro, .num 5, .any, false⟩,
   ⟨1, 1, .f32, .ro, .num 0x00000000, .any, false⟩,
   ⟨2, 2, .u8, .ro, .num 0, .any, false⟩,
   ⟨3, 3, .f32, .ro, .num 0x00000000, .any, false⟩,
   ⟨4, 4, .f32, .ro, .num 0x00000000, .any, false⟩,
   ⟨5, 5, .f32, .ro, .num 0x00000000, .any, false⟩]

/-- R478: 0x2700 to 0x2707 AIO — analogue channel n. -/
def rowsAio : List Row :=
  [⟨0, 0, .u8, .ro, .num 24, .any, false⟩,
   ⟨1, 1, .u8, .ro, .num 0, .any, true⟩,
   ⟨2, 2, .u8, .rwa, .num 0, .upto 2, false⟩,
   ⟨3, 3, .f32, .rwa, .num 0x00000000, .any, false⟩,
   ⟨4, 4, .f32, .rwa, .num 0x42C80000, .any, false⟩,
   ⟨5, 5, .f32, .rwa, .num 0x00000000, .f32 0 (1/5), false⟩,
   ⟨6, 6, .blob, .rwa, .bytes [], .any, true⟩,
   ⟨7, 7, .u32, .rwa, .num 1000, .between (100) (100000), false⟩]
  ++ [⟨8, 8, .u8, .rwa, .num 0, .upto 100, false⟩,
   ⟨9, 9, .u8, .rwa, .num 0, .any, false⟩,
   ⟨10, 10, .u8, .rwa, .num 0, .upto 1, false⟩,
   ⟨11, 11, .f32, .rwa, .num 0x40666666, .f32 0 22, false⟩,
   ⟨12, 12, .f32, .rwa, .num 0x40733333, .any, false⟩,
   ⟨13, 13, .f32, .rwa, .num 0x41A40000, .any, false⟩,
   ⟨14, 14, .bool, .rwa, .num 0, .any, false⟩,
   ⟨15, 15, .f32, .rwa, .num 0x3DCCCCCD, .f32 (1/50) 2, false⟩]
  ++ [⟨16, 16, .u16, .rwa, .num 50, .between (5) (10000), false⟩,
   ⟨17, 17, .u32, .ro, .num 0, .any, true⟩,
   ⟨18, 18, .f32, .ro, .num 0x00000000, .any, false⟩,
   ⟨19, 19, .f32, .ro, .num 0x00000000, .any, false⟩,
   ⟨20, 20, .f32, .ro, .num 0x00000000, .any, false⟩,
   ⟨21, 21, .f32, .ro, .num 0x00000000, .any, false⟩,
   ⟨22, 22, .f32, .ro, .num 0x00000000, .any, false⟩,
   ⟨23, 23, .u16, .ro, .num 0, .any, false⟩]
  ++ [⟨24, 24, .u8, .wo, .num 0, .between (1) (2), false⟩]

/-- R479: 0x2720 to 0x2727 AIO_FSK — analogue channel n. -/
def rowsAioFsk : List Row :=
  [⟨0, 0, .u8, .ro, .num 5, .any, false⟩,
   ⟨1, 1, .u8, .ro, .num 0, .any, true⟩,
   ⟨2, 2, .u8, .ro, .num 0, .any, true⟩,
   ⟨3, 3, .u32, .ro, .num 0, .any, false⟩,
   ⟨4, 4, .u32, .ro, .num 0, .any, false⟩,
   ⟨5, 5, .u32, .ro, .num 0, .any, false⟩]

/-- R534: 0x1200 to 0x1201 ETH_PORT — port p. -/
def rowsEthPort : List Row :=
  [⟨0, 0, .u8, .ro, .num 16, .any, false⟩,
   ⟨1, 1, .bool, .rwa, .num 1, .any, true⟩,
   ⟨2, 2, .u8, .rwa, .num 0, .upto 2, false⟩,
   ⟨3, 3, .u8, .rwa, .num 0, .upto 1, false⟩,
   ⟨4, 4, .u32, .rwa, .num 0, .any, false⟩,
   ⟨5, 5, .u32, .rwa, .num 4294967040, .netmask, false⟩,
   ⟨6, 6, .u32, .rwa, .num 0, .any, false⟩,
   ⟨7, 7, .u16, .rwa, .num 0, .upto 4094, false⟩]
  ++ [⟨8, 8, .u8, .rwa, .num 4, .upto 5, false⟩,
   ⟨9, 9, .u8, .ro, .num 0, .any, false⟩,
   ⟨10, 10, .u32, .ro, .num 0, .any, false⟩,
   ⟨11, 11, .u32, .ro, .num 0, .any, false⟩,
   ⟨12, 12, .u32, .ro, .num 0, .any, false⟩,
   ⟨13, 13, .u32, .ro, .num 0, .any, false⟩,
   ⟨14, 14, .u32, .ro, .num 0, .any, false⟩,
   ⟨15, 15, .u32, .ro, .num 0, .any, false⟩]
  ++ [⟨16, 16, .u64, .ro, .num 0, .any, false⟩]

/-- R535: 0x1210 PTP — module. -/
def rowsPtp : List Row :=
  [⟨0, 0, .u8, .ro, .num 18, .any, false⟩,
   ⟨1, 1, .u8, .rwa, .num 0, .upto 3, false⟩,
   ⟨2, 2, .u8, .rwa, .num 0, .upto 1, false⟩,
   ⟨3, 3, .u8, .rwa, .num 0, .upto 1, false⟩,
   ⟨4, 4, .u8, .rwa, .num 0, .upto 127, false⟩,
   ⟨5, 5, .u8, .rwa, .num 128, .any, false⟩,
   ⟨6, 6, .u8, .rwa, .num 128, .any, false⟩,
   ⟨7, 7, .i32, .rwa, .num 4294967293, .between (-7) (1), false⟩]
  ++ [⟨8, 8, .u32, .rwa, .num 1000, .between (10) (100000), false⟩,
   ⟨9, 9, .u32, .rwa, .num 100000, .between (0) (1000000000), false⟩,
   ⟨10, 10, .i32, .rwa, .num 37, .any, false⟩,
   ⟨11, 11, .u8, .rwa, .num 0, .upto 1, false⟩,
   ⟨12, 12, .u16, .ro, .num 0, .any, false⟩,
   ⟨13, 13, .bool, .ro, .num 0, .any, false⟩,
   ⟨14, 14, .i64, .ro, .num 0, .any, false⟩,
   ⟨15, 15, .u32, .ro, .num 0, .any, false⟩]
  ++ [⟨16, 16, .u64, .ro, .num 0, .any, false⟩,
   ⟨17, 17, .u32, .ro, .num 0, .any, false⟩,
   ⟨18, 18, .time, .wo, .num 0, .any, false⟩]

/-- R536: 0x1220 BAMCON — module. -/
def rowsBamcon : List Row :=
  [⟨0, 0, .u8, .ro, .num 8, .any, false⟩,
   ⟨1, 1, .u8, .ro, .num 3, .any, false⟩,
   ⟨2, 2, .u8, .ro, .num 0, .any, false⟩,
   ⟨3, 3, .u16, .rwa, .num 60, .between (5) (3600), false⟩,
   ⟨4, 4, .u32, .ro, .num 0, .any, false⟩,
   ⟨5, 5, .u32, .ro, .num 0, .any, false⟩,
   ⟨6, 6, .u32, .ro, .num 0, .any, false⟩,
   ⟨7, 7, .u32, .ro, .num 0, .any, false⟩]
  ++ [⟨8, 8, .bool, .ro, .num 1, .any, false⟩]

/-- R536: 0x1221 ROLE_KEYS — module. -/
def rowsRoleKeys : List Row :=
  [⟨0, 0, .u8, .ro, .num 4, .any, false⟩,
   ⟨1, 4, .blob, .rwk, .bytes [], .keyLenM, false⟩]

/-- R536: 0x1222 KEY_SEQ — module. -/
def rowsKeySeq : List Row :=
  [⟨0, 0, .u8, .ro, .num 1, .any, false⟩,
   ⟨1, 1, .u32, .wo, .num 0, .any, false⟩]

/-- R537: 0x1230 to 0x123F SESSION — slot k. -/
def rowsSession : List Row :=
  [⟨0, 0, .u8, .ro, .num 7, .any, false⟩,
   ⟨1, 1, .u8, .ro, .num 0, .any, false⟩,
   ⟨2, 2, .u8, .ro, .num 0, .any, false⟩,
   ⟨3, 3, .u32, .ro, .num 0, .any, false⟩,
   ⟨4, 4, .u16, .ro, .num 0, .any, false⟩,
   ⟨5, 5, .u8, .ro, .num 0, .any, false⟩,
   ⟨6, 6, .u8, .ro, .num 0, .any, false⟩,
   ⟨7, 7, .u32, .ro, .num 0, .any, false⟩]

/-- R538: 0x1240 NETMAP — module. -/
def rowsNetmap : List Row :=
  [⟨0, 0, .u8, .ro, .num 5, .any, false⟩,
   ⟨1, 1, .u16, .ro, .num 0, .any, true⟩,
   ⟨2, 2, .u16, .ro, .num 0, .any, true⟩,
   ⟨3, 3, .u8, .ro, .num 0, .any, true⟩,
   ⟨4, 4, .u32, .ro, .num 0, .any, false⟩,
   ⟨5, 5, .u64, .ro, .num 0, .any, false⟩]

/-- R539: 0x2500 ROSELO — module. -/
def rowsRoselo : List Row :=
  [⟨0, 0, .u8, .ro, .num 9, .any, false⟩,
   ⟨1, 1, .u8, .rwa, .num 0, .upto 3, true⟩,
   ⟨2, 2, .u8, .ro, .num 2, .any, false⟩,
   ⟨3, 3, .u8, .ro, .num 2, .any, false⟩,
   ⟨4, 4, .u32, .ro, .num 0, .any, false⟩,
   ⟨5, 5, .u32, .ro, .num 0, .any, false⟩,
   ⟨6, 6, .u32, .ro, .num 0, .any, false⟩,
   ⟨7, 7, .u32, .ro, .num 0, .any, false⟩]
  ++ [⟨8, 8, .u16, .ro, .num 0, .any, false⟩,
   ⟨9, 9, .u32, .ro, .num 0, .any, false⟩]

/-- R540: 0x2504 to 0x2507 ROSELO_EXPORT — source s. -/
def rowsRoseloExport : List Row :=
  [⟨0, 0, .u8, .ro, .num 3, .any, false⟩,
   ⟨1, 1, .u8, .rwa, .num 1, .upto 3, false⟩,
   ⟨2, 2, .u16, .ro, .num 0, .any, false⟩,
   ⟨3, 3, .u32, .ro, .num 0, .any, false⟩]

/-- R540: 0x2510 to 0x2513 ROSELO_IMPORT — source s. -/
def rowsRoseloImport : List Row :=
  [⟨0, 0, .u8, .ro, .num 6, .any, false⟩,
   ⟨1, 1, .u64, .ro, .num 0, .any, false⟩,
   ⟨2, 2, .u32, .ro, .num 4294967295, .any, false⟩,
   ⟨3, 3, .u32, .ro, .num 0, .any, false⟩,
   ⟨4, 4, .u32, .ro, .num 0, .any, false⟩,
   ⟨5, 5, .u32, .ro, .num 0, .any, false⟩,
   ⟨6, 6, .u32, .ro, .num 0, .any, false⟩]

/-- R541: 0x2520 to 0x2523 TRIGGER — trigger ID i. -/
def rowsTriggerPorts : List Row :=
  [⟨0, 0, .u8, .ro, .num 128, .any, false⟩,
   ⟨1, 128, .u8, .rwa, .num 0, .upto 3, true⟩]

/-- R541: 0x2520 to 0x2523 TRIGGER — trigger ID i. -/
def rowsTriggerSent : List Row :=
  [⟨0, 0, .u8, .ro, .num 128, .any, false⟩,
   ⟨1, 128, .u32, .ro, .num 0, .any, false⟩]

/-- R580: 0x1300, 0x1340, 0x1380, 0x13C0 CAN_CFG — channel n. -/
def rowsCanCfg : List Row :=
  [⟨0, 0, .u8, .ro, .num 17, .any, false⟩,
   ⟨1, 1, .bool, .rwa, .num 0, .any, true⟩,
   ⟨2, 2, .u8, .rwa, .num 1, .between (1) (2), false⟩,
   ⟨3, 3, .u16, .rwa, .num 2, .between (1) (256), false⟩,
   ⟨4, 4, .u16, .rwa, .num 63, .between (2) (256), false⟩,
   ⟨5, 5, .u8, .rwa, .num 16, .between (1) (128), false⟩,
   ⟨6, 6, .u8, .rwa, .num 16, .between (1) (128), false⟩,
   ⟨7, 7, .bool, .rwa, .num 0, .any, false⟩]
  ++ [⟨8, 8, .u8, .rwa, .num 1, .between (1) (32), false⟩,
   ⟨9, 9, .u8, .rwa, .num 15, .between (1) (32), false⟩,
   ⟨10, 10, .u8, .rwa, .num 4, .between (1) (16), false⟩,
   ⟨11, 11, .u8, .rwa, .num 4, .between (1) (16), false⟩,
   ⟨12, 12, .u8, .rwa, .num 1, .upto 1, false⟩,
   ⟨13, 13, .u8, .rwa, .num 16, .upto 127, false⟩,
   ⟨14, 14, .bool, .rwa, .num 0, .any, false⟩,
   ⟨15, 15, .u16, .rwa, .num 0, .any, false⟩]
  ++ [⟨16, 16, .u8, .rwa, .num 1, .upto 1, false⟩,
   ⟨17, 17, .u16, .rwa, .num 100, .upto 60000, false⟩]

/-- R581: 0x1301, 0x1341, 0x1381, 0x13C1 CAN_STAT — channel n. -/
def rowsCanStat : List Row :=
  [⟨0, 0, .u8, .ro, .num 15, .any, false⟩,
   ⟨1, 1, .u8, .ro, .num 0, .any, false⟩,
   ⟨2, 2, .bool, .ro, .num 0, .any, false⟩,
   ⟨3, 3, .u16, .ro, .num 0, .any, false⟩,
   ⟨4, 4, .u16, .ro, .num 0, .any, false⟩,
   ⟨5, 5, .u32, .ro, .num 0, .any, false⟩,
   ⟨6, 6, .u32, .ro, .num 0, .any, false⟩,
   ⟨7, 7, .f32, .ro, .num 0x00000000, .any, false⟩]
  ++ [⟨8, 8, .u8, .ro, .num 0, .any, false⟩,
   ⟨9, 9, .u8, .ro, .num 0, .any, false⟩,
   ⟨10, 10, .u32, .ro, .num 0, .any, false⟩,
   ⟨11, 11, .u32, .ro, .num 0, .any, false⟩,
   ⟨12, 12, .u32, .ro, .num 0, .any, false⟩,
   ⟨13, 13, .u32, .ro, .num 0, .any, false⟩,
   ⟨14, 14, .u8, .ro, .num 0, .any, false⟩,
   ⟨15, 15, .u8, .wo, .num 0, .between (1) (1), false⟩]

/-- R582: 0x1302, 0x1342, 0x1382, 0x13C2 CAN_TX — channel n. -/
def rowsCanTx : List Row :=
  [⟨0, 0, .u8, .ro, .num 8, .any, false⟩,
   ⟨1, 1, .u8, .ro, .num 0, .any, false⟩,
   ⟨2, 2, .u16, .ro, .num 0, .any, true⟩,
   ⟨3, 3, .u32, .ro, .num 0, .any, false⟩,
   ⟨4, 4, .u32, .ro, .num 0, .any, false⟩,
   ⟨5, 5, .u32, .ro, .num 0, .any, false⟩,
   ⟨6, 6, .u32, .ro, .num 0, .any, false⟩,
   ⟨7, 7, .u32, .ro, .num 0, .any, false⟩]
  ++ [⟨8, 8, .u32, .ro, .num 0, .any, false⟩]

/-- R583: 0x1303, 0x1343, 0x1383, 0x13C3 CAN_FILTER — channel n. -/
def rowsCanFilter : List Row :=
  [⟨0, 0, .u8, .ro, .num 12, .any, false⟩,
   ⟨1, 8, .u64, .rwa, .num 0, .any, true⟩,
   ⟨9, 9, .u8, .rwa, .num 2, .upto 2, false⟩,
   ⟨10, 10, .blob, .rwa, .bytes [], .any, true⟩,
   ⟨11, 11, .u8, .rwa, .num 16, .upto 16, false⟩,
   ⟨12, 12, .u16, .ro, .num 0, .any, true⟩]

/-- R584: 0x1304, 0x1344, 0x1384, 0x13C4 CAN_BAMCON — channel n. -/
def rowsCanBamcon : List Row :=
  [⟨0, 0, .u8, .ro, .num 6, .any, false⟩,
   ⟨1, 1, .bool, .rwa, .num 0, .any, true⟩,
   ⟨2, 2, .u16, .rwa, .num 1920, .mult128, false⟩,
   ⟨3, 3, .u8, .rwa, .num 1, .upto 1, false⟩,
   ⟨4, 4, .u32, .ro, .num 0, .any, false⟩,
   ⟨5, 5, .u32, .ro, .num 0, .any, false⟩,
   ⟨6, 6, .u32, .ro, .num 0, .any, false⟩]

/-- R585: 0x1310 to 0x131F, 0x1350 to 0x135F, 0x1390 to 0x139F, 0x13D0 to 0x13DF CAN_MBOX — queue q. -/
def rowsCanMbox : List Row :=
  [⟨0, 0, .u8, .ro, .num 9, .any, false⟩,
   ⟨1, 1, .u16, .ro, .num 0, .any, true⟩,
   ⟨2, 2, .u8, .ro, .num 0, .any, true⟩,
   ⟨3, 3, .u32, .ro, .num 0, .any, true⟩,
   ⟨4, 4, .u32, .ro, .num 0, .any, true⟩,
   ⟨5, 5, .bool, .ro, .num 0, .any, true⟩,
   ⟨6, 6, .u8, .ro, .num 0, .any, true⟩,
   ⟨7, 7, .u16, .ro, .num 0, .any, false⟩]
  ++ [⟨8, 8, .u32, .ro, .num 0, .any, false⟩,
   ⟨9, 9, .u32, .ro, .num 0, .any, false⟩]

/-- R622: 0x1400 PAIR — module. -/
def rowsPair : List Row :=
  [⟨0, 0, .u8, .ro, .num 20, .any, false⟩,
   ⟨1, 1, .bool, .ro, .num 0, .any, true⟩,
   ⟨2, 2, .u8, .ro, .num 0, .any, false⟩,
   ⟨3, 3, .u8, .ro, .num 0, .any, false⟩,
   ⟨4, 4, .bool, .ro, .num 0, .any, false⟩,
   ⟨5, 5, .u8, .ro, .num 0, .any, false⟩,
   ⟨6, 6, .bool, .ro, .num 0, .any, false⟩,
   ⟨7, 7, .u32, .ro, .num 0, .any, false⟩]
  ++ [⟨8, 8, .u16, .rwa, .num 3000, .between (500) (60000), false⟩,
   ⟨9, 9, .u16, .rwa, .num 50, .between (1) (1000), false⟩,
   ⟨10, 10, .u8, .rwa, .num 0, .upto 1, false⟩,
   ⟨11, 11, .u8, .rwa, .num 30, .between (10) (100), false⟩,
   ⟨12, 12, .u8, .rwa, .num 60, .upto 100, false⟩,
   ⟨13, 13, .u8, .wo, .num 0, .between (1) (3), false⟩,
   ⟨14, 14, .u64, .ro, .num 0, .any, false⟩,
   ⟨15, 15, .u32, .ro, .num 0, .any, false⟩]
  ++ [⟨16, 16, .u32, .ro, .num 0, .any, false⟩,
   ⟨17, 17, .u32, .ro, .num 0, .any, false⟩,
   ⟨18, 18, .time, .ro, .num 0, .any, false⟩,
   ⟨19, 19, .u32, .rwa, .num 0, .any, false⟩,
   ⟨20, 20, .u32, .rwa, .num 0, .any, false⟩]

/-- R623: 0x1401 PARTNER — module. -/
def rowsPartner : List Row :=
  [⟨0, 0, .u8, .ro, .num 7, .any, false⟩,
   ⟨1, 1, .str, .ro, .bytes [], .any, false⟩,
   ⟨2, 2, .u32, .ro, .num 0, .any, false⟩,
   ⟨3, 3, .u64, .ro, .num 0, .any, false⟩,
   ⟨4, 4, .u64, .ro, .num 0, .any, false⟩,
   ⟨5, 5, .u8, .ro, .num 0, .any, false⟩,
   ⟨6, 6, .u8, .ro, .num 0, .any, false⟩,
   ⟨7, 7, .u32, .ro, .num 0, .any, false⟩]

/-- R624: 0x1410 CORRIDOR — module. -/
def rowsCorridor : List Row :=
  [⟨0, 0, .u8, .ro, .num 13, .any, false⟩,
   ⟨1, 1, .u8, .ro, .num 0, .any, false⟩,
   ⟨2, 2, .u8, .ro, .num 1, .any, false⟩,
   ⟨3, 3, .u8, .ro, .num 0, .any, false⟩,
   ⟨4, 4, .u16, .ro, .num 3000, .any, false⟩,
   ⟨5, 5, .u64, .ro, .num 0, .any, false⟩,
   ⟨6, 6, .u64, .ro, .num 0, .any, false⟩,
   ⟨7, 7, .u32, .ro, .num 0, .any, false⟩]
  ++ [⟨8, 8, .u32, .ro, .num 0, .any, false⟩,
   ⟨9, 9, .u32, .ro, .num 0, .any, false⟩,
   ⟨10, 10, .u32, .ro, .num 0, .any, false⟩,
   ⟨11, 11, .f32, .ro, .num 0x00000000, .any, false⟩,
   ⟨12, 12, .f32, .ro, .num 0x00000000, .any, false⟩,
   ⟨13, 13, .u32, .ro, .num 0, .any, false⟩]

/-- R625: 0x1420 HEALTH — module. -/
def rowsHealth : List Row :=
  [⟨0, 0, .u8, .ro, .num 4, .any, false⟩,
   ⟨1, 1, .u8, .ro, .num 100, .any, false⟩,
   ⟨2, 2, .u32, .ro, .num 0, .any, false⟩,
   ⟨3, 3, .time, .ro, .num 0, .any, false⟩,
   ⟨4, 4, .bool, .ro, .num 0, .any, false⟩]

/-- R625: 0x1430 COMPARE — module. -/
def rowsCompare : List Row :=
  [⟨0, 0, .u8, .ro, .num 6, .any, false⟩,
   ⟨1, 1, .u64, .ro, .num 0, .any, false⟩,
   ⟨2, 2, .u32, .ro, .num 0, .any, false⟩,
   ⟨3, 3, .u8, .ro, .num 0, .any, false⟩,
   ⟨4, 4, .u32, .ro, .num 0, .any, false⟩,
   ⟨5, 5, .u32, .ro, .num 0, .any, false⟩,
   ⟨6, 6, .u32, .ro, .num 0, .any, false⟩]

/-- R668: 0x1500 PSTORE — module. -/
def rowsPstore : List Row :=
  [⟨0, 0, .u8, .ro, .num 11, .any, false⟩,
   ⟨1, 1, .u8, .ro, .num 0, .any, false⟩,
   ⟨2, 2, .u16, .ro, .num 0, .any, false⟩,
   ⟨3, 3, .u32, .ro, .num 0, .any, false⟩,
   ⟨4, 4, .u32, .ro, .num 0, .any, false⟩,
   ⟨5, 5, .u64, .ro, .num 0, .any, false⟩,
   ⟨6, 6, .time, .ro, .num 0, .any, false⟩,
   ⟨7, 7, .u8, .rwk, .num 0, .upto 3, false⟩]
  ++ [⟨8, 8, .u32, .ro, .num 0, .any, false⟩,
   ⟨9, 9, .u32, .ro, .num 0, .any, false⟩,
   ⟨10, 10, .u32, .ro, .num 0, .any, false⟩,
   ⟨11, 11, .u32, .rwk, .num 0, .between (49642) (49642), false⟩]

/-- R669: 0x1510 PS_RECORD — module. -/
def rowsPsRecord : List Row :=
  [⟨0, 0, .u8, .ro, .num 6, .any, false⟩,
   ⟨1, 1, .u16, .rw, .num 0, .upto 32767, false⟩,
   ⟨2, 2, .blob, .rw, .bytes [], .lenUpto 256, false⟩,
   ⟨3, 3, .u8, .ro, .num 0, .any, false⟩,
   ⟨4, 4, .u8, .ro, .num 0, .any, false⟩,
   ⟨5, 5, .bool, .ro, .num 0, .any, false⟩,
   ⟨6, 6, .u32, .ro, .num 0, .any, false⟩]

/-- R670: 0x1520 RAW_PAGES — module. -/
def rowsRawPages : List Row :=
  [⟨0, 0, .u8, .ro, .num 7, .any, false⟩,
   ⟨1, 1, .u32, .rw, .num 0, .upto 16777215, false⟩,
   ⟨2, 2, .u16, .rw, .num 0, .upto 1396, false⟩,
   ⟨3, 3, .blob, .rw, .bytes [], .any, false⟩,
   ⟨4, 4, .u8, .rwk, .num 0, .upto 3, false⟩,
   ⟨5, 5, .u64, .ro, .num 0, .any, false⟩,
   ⟨6, 6, .u16, .ro, .num 0, .any, false⟩,
   ⟨7, 7, .u32, .ro, .num 0, .any, false⟩]

/-- R671: 0x1530 RETAIN_STORE — module. -/
def rowsRetainStore : List Row :=
  [⟨0, 0, .u8, .ro, .num 7, .any, false⟩,
   ⟨1, 1, .u16, .ro, .num 0, .any, true⟩,
   ⟨2, 2, .u16, .ro, .num 0, .any, false⟩,
   ⟨3, 3, .u32, .ro, .num 0, .any, false⟩,
   ⟨4, 4, .u32, .ro, .num 0, .any, false⟩,
   ⟨5, 5, .time, .ro, .num 0, .any, false⟩,
   ⟨6, 6, .u32, .ro, .num 0, .any, false⟩,
   ⟨7, 7, .u64, .ro, .num 0, .any, false⟩]

/-- R700: 0x1100 MODE — module. -/
def rowsMode : List Row :=
  [⟨0, 0, .u8, .ro, .num 9, .any, false⟩,
   ⟨1, 1, .u8, .ro, .num 1, .any, false⟩,
   ⟨2, 2, .u8, .ro, .num 0, .any, false⟩,
   ⟨3, 3, .time, .ro, .num 0, .any, false⟩,
   ⟨4, 4, .u8, .wo, .num 0, .between (1) (3), false⟩,
   ⟨5, 5, .u8, .rwa, .num 0, .upto 2, true⟩,
   ⟨6, 6, .u8, .rwa, .num 2, .between (1) (2), false⟩,
   ⟨7, 7, .u8, .ro, .num 0, .any, false⟩]
  ++ [⟨8, 8, .u16, .ro, .num 0, .any, false⟩,
   ⟨9, 9, .u32, .ro, .num 0, .any, false⟩]

/-- R701: 0x1020 POWER — module. -/
def rowsPower : List Row :=
  [⟨0, 0, .u8, .ro, .num 6, .any, false⟩,
   ⟨1, 1, .f32, .ro, .num 0x00000000, .any, false⟩,
   ⟨2, 2, .bool, .ro, .num 0, .any, false⟩,
   ⟨3, 3, .f32, .ro, .num 0x00000000, .any, false⟩,
   ⟨4, 4, .u32, .ro, .num 0, .any, false⟩,
   ⟨5, 5, .time, .ro, .num 0, .any, false⟩,
   ⟨6, 6, .u32, .ro, .num 0, .any, false⟩]

/-- R702: 0x1030 BOOT — module. -/
def rowsBoot : List Row :=
  [⟨0, 0, .u8, .ro, .num 6, .any, false⟩,
   ⟨1, 1, .u8, .ro, .num 0, .any, false⟩,
   ⟨2, 2, .u8, .ro, .num 0, .any, false⟩,
   ⟨3, 3, .u32, .ro, .num 0, .any, false⟩,
   ⟨4, 4, .u32, .ro, .num 0, .any, false⟩,
   ⟨5, 5, .u32, .ro, .num 0, .any, false⟩,
   ⟨6, 6, .u32, .ro, .num 0, .any, false⟩]

/-- R703: 0x1800 FW_STAGE — module. -/
def rowsFwStage : List Row :=
  [⟨0, 0, .u8, .ro, .num 9, .any, false⟩,
   ⟨1, 1, .blob, .wo, .bytes [], .any, false⟩,
   ⟨2, 2, .u32, .ro, .num 0, .any, false⟩,
   ⟨3, 3, .u32, .ro, .num 0, .any, false⟩,
   ⟨4, 4, .u8, .ro, .num 0, .any, false⟩,
   ⟨5, 5, .u8, .wo, .num 0, .between (1) (2), false⟩,
   ⟨6, 6, .u32, .ro, .num 0, .any, false⟩,
   ⟨7, 7, .u16, .ro, .num 0, .any, false⟩]
  ++ [⟨8, 8, .u8, .ro, .num 0, .any, false⟩,
   ⟨9, 9, .u16, .ro, .num 0, .any, false⟩]

/-- R704: 0x1801 FW_ACTIVE — module. -/
def rowsFwActive : List Row :=
  [⟨0, 0, .u8, .ro, .num 8, .any, false⟩,
   ⟨1, 1, .u8, .ro, .num 2, .any, false⟩,
   ⟨2, 2, .bool, .ro, .num 1, .any, false⟩,
   ⟨3, 3, .u32, .ro, .num 0, .any, false⟩,
   ⟨4, 4, .bool, .rwa, .num 0, .any, false⟩,
   ⟨5, 5, .u8, .wo, .num 0, .between (1) (1), false⟩,
   ⟨6, 6, .u32, .ro, .num 0, .any, false⟩,
   ⟨7, 7, .u32, .ro, .num 0, .any, false⟩]
  ++ [⟨8, 8, .u32, .ro, .num 0, .any, false⟩]

/-- R733: 0x1700 to 0x1704 WDT — watchdog w. -/
def rowsWdt : List Row :=
  [⟨0, 0, .u8, .ro, .num 14, .any, false⟩,
   ⟨1, 1, .bool, .ro, .num 0, .any, true⟩,
   ⟨2, 2, .u8, .ro, .num 0, .any, false⟩,
   ⟨3, 3, .u32, .rwa, .num 0, .any, true⟩,
   ⟨4, 4, .u8, .ro, .num 0, .any, true⟩,
   ⟨5, 5, .bool, .rwk, .num 0, .any, false⟩,
   ⟨6, 6, .u32, .ro, .num 0, .any, false⟩,
   ⟨7, 7, .u32, .ro, .num 0, .any, false⟩]
  ++ [⟨8, 8, .time, .ro, .num 0, .any, false⟩,
   ⟨9, 9, .u32, .ro, .num 0, .any, false⟩,
   ⟨10, 10, .u32, .ro, .num 0, .any, false⟩,
   ⟨11, 11, .u32, .ro, .num 0, .any, false⟩,
   ⟨12, 12, .u32, .ro, .num 0, .any, false⟩,
   ⟨13, 13, .u8, .wo, .num 0, .between (1) (1), false⟩,
   ⟨14, 14, .u8, .ro, .num 0, .any, true⟩]

/-- R734: 0x1710 WDT_EVIDENCE — module. -/
def rowsWdtEvidence : List Row :=
  [⟨0, 0, .u8, .ro, .num 14, .any, false⟩,
   ⟨1, 1, .u8, .ro, .num 0, .any, false⟩,
   ⟨2, 2, .u8, .ro, .num 0, .any, false⟩,
   ⟨3, 3, .u8, .ro, .num 0, .any, false⟩,
   ⟨4, 4, .u8, .ro, .num 0, .any, false⟩,
   ⟨5, 8, .u32, .ro, .num 0, .any, false⟩,
   ⟨9, 9, .u32, .ro, .num 0, .any, false⟩,
   ⟨10, 10, .u64, .ro, .num 0, .any, false⟩]
  ++ [⟨11, 11, .u64, .ro, .num 0, .any, false⟩,
   ⟨12, 12, .u64, .ro, .num 0, .any, false⟩,
   ⟨13, 13, .u32, .ro, .num 0, .any, false⟩,
   ⟨14, 14, .u8, .wo, .num 0, .between (1) (1), false⟩]

/-- R735: 0x1720 RTC — module. -/
def rowsRtc : List Row :=
  [⟨0, 0, .u8, .ro, .num 7, .any, false⟩,
   ⟨1, 1, .u64, .ro, .num 0, .any, false⟩,
   ⟨2, 2, .u64, .wo, .num 0, .any, false⟩,
   ⟨3, 3, .u8, .ro, .num 0, .any, false⟩,
   ⟨4, 4, .u8, .rwa, .num 0, .upto 1, false⟩,
   ⟨5, 5, .u64, .ro, .num 0, .any, false⟩,
   ⟨6, 6, .time, .ro, .num 0, .any, false⟩,
   ⟨7, 7, .u8, .wo, .num 0, .between (1) (1), false⟩]

/-- R735: 0x1721 BACKUP — module. -/
def rowsBackup : List Row :=
  [⟨0, 0, .u8, .ro, .num 5, .any, false⟩,
   ⟨1, 1, .blob, .rw, .bytes [], .len 32, false⟩,
   ⟨2, 2, .bool, .ro, .num 0, .any, false⟩,
   ⟨3, 3, .f32, .ro, .num 0x00000000, .any, false⟩,
   ⟨4, 4, .u64, .ro, .num 0, .any, false⟩,
   ⟨5, 5, .u32, .ro, .num 0, .any, false⟩]

/-- R736: 0x1722 WINDOW_FUSE — module. -/
def rowsWindowFuse : List Row :=
  [⟨0, 0, .u8, .ro, .num 3, .any, false⟩,
   ⟨1, 1, .u8, .rwk, .num 0, .upto 3, false⟩,
   ⟨2, 2, .u8, .ro, .num 0, .any, false⟩,
   ⟨3, 3, .u8, .ro, .num 0, .any, false⟩]

/-- R758: 0x1600 RECORDER — module. -/
def rowsRecorder : List Row :=
  [⟨0, 0, .u8, .ro, .num 10, .any, false⟩,
   ⟨1, 1, .u32, .ro, .num 0, .any, false⟩,
   ⟨2, 2, .u32, .ro, .num 0, .any, false⟩,
   ⟨3, 3, .u32, .ro, .num 0, .any, false⟩,
   ⟨4, 4, .u32, .ro, .num 0, .any, false⟩,
   ⟨5, 5, .u32, .rw, .num 0, .any, false⟩,
   ⟨6, 6, .u8, .rw, .num 0, .upto 21, false⟩,
   ⟨7, 7, .blob, .ro, .bytes [], .any, false⟩]
  ++ [⟨8, 8, .u64, .ro, .num 0, .any, false⟩,
   ⟨9, 9, .u32, .ro, .num 0, .any, false⟩,
   ⟨10, 10, .u32, .ro, .num 0, .any, false⟩]

/-- R759: 0x1610 RATE_LIMIT — module. -/
def rowsRateLimit : List Row :=
  [⟨0, 0, .u8, .ro, .num 7, .any, false⟩,
   ⟨1, 1, .u8, .rw, .num 0, .any, false⟩,
   ⟨2, 2, .u16, .rwa, .num 0, .any, true⟩,
   ⟨3, 3, .u8, .rwa, .num 0, .any, true⟩,
   ⟨4, 4, .u16, .rwa, .num 0, .between (1) (60000), true⟩,
   ⟨5, 5, .u8, .ro, .num 0, .any, false⟩,
   ⟨6, 6, .u32, .ro, .num 0, .any, false⟩,
   ⟨7, 7, .u16, .ro, .num 0, .any, true⟩]

/-- R760: 0x1900 LEDGER — module. -/
def rowsLedger : List Row :=
  [⟨0, 0, .u8, .ro, .num 6, .any, false⟩,
   ⟨1, 1, .u8, .ro, .num 0, .any, false⟩,
   ⟨2, 2, .u8, .ro, .num 255, .any, false⟩,
   ⟨3, 3, .u64, .ro, .num 0, .any, false⟩,
   ⟨4, 4, .u8, .ro, .num 0, .any, false⟩,
   ⟨5, 5, .u16, .ro, .num 0, .any, false⟩,
   ⟨6, 6, .u32, .ro, .num 0, .any, false⟩]

/-- R760: 0x1910 to 0x191F MARGIN — quantity q. -/
def rowsMargin : List Row :=
  [⟨0, 0, .u8, .ro, .num 9, .any, false⟩,
   ⟨1, 1, .f32, .ro, .num 0x00000000, .any, false⟩,
   ⟨2, 2, .f32, .ro, .num 0, .any, false⟩,
   ⟨3, 3, .f32, .ro, .num 0x00000000, .any, false⟩,
   ⟨4, 4, .u64, .ro, .num 0, .any, false⟩,
   ⟨5, 5, .u64, .ro, .num 0, .any, false⟩,
   ⟨6, 6, .u8, .ro, .num 0, .any, false⟩,
   ⟨7, 7, .u32, .ro, .num 0, .any, false⟩]
  ++ [⟨8, 8, .time, .ro, .num 0, .any, false⟩,
   ⟨9, 9, .u32, .ro, .num 0, .any, false⟩]

/-- R783: 0x1730 THERMAL — module. -/
def rowsThermal : List Row :=
  [⟨0, 0, .u8, .ro, .num 12, .any, false⟩,
   ⟨1, 1, .f32, .ro, .num 0x00000000, .any, false⟩,
   ⟨2, 2, .f32, .ro, .num 0, .any, false⟩,
   ⟨3, 3, .f32, .ro, .num 0x00000000, .any, false⟩,
   ⟨4, 4, .f32, .ro, .num 0x00000000, .any, false⟩,
   ⟨5, 5, .f32, .ro, .num 0x00000000, .any, false⟩,
   ⟨6, 6, .f32, .ro, .num 0x00000000, .any, false⟩,
   ⟨7, 7, .f32, .ro, .num 0x00000000, .any, false⟩]
  ++ [⟨8, 11, .f32, .ro, .num 0x00000000, .any, false⟩,
   ⟨12, 12, .u8, .ro, .num 0, .any, false⟩]

/-- Every family, in ascending index (00 R19). -/
def families : List Fam :=
  [⟨0x1000, 0x1000, rowsIdentity⟩, ⟨0x1010, 0x1010, rowsCrossings⟩, ⟨0x1020, 0x1020, rowsPower⟩, ⟨0x1030, 0x1030, rowsBoot⟩, ⟨0x1100, 0x1100, rowsMode⟩, ⟨0x1110, 0x1110, rowsRestart⟩, ⟨0x1120, 0x1120, rowsForcing⟩, ⟨0x1200, 0x1201, rowsEthPort⟩, ⟨0x1210, 0x1210, rowsPtp⟩, ⟨0x1220, 0x1220, rowsBamcon⟩]
  ++ [⟨0x1221, 0x1221, rowsRoleKeys⟩, ⟨0x1222, 0x1222, rowsKeySeq⟩, ⟨0x1230, 0x123F, rowsSession⟩, ⟨0x1240, 0x1240, rowsNetmap⟩, ⟨0x1300, 0x1300, rowsCanCfg⟩, ⟨0x1301, 0x1301, rowsCanStat⟩, ⟨0x1302, 0x1302, rowsCanTx⟩, ⟨0x1303, 0x1303, rowsCanFilter⟩, ⟨0x1304, 0x1304, rowsCanBamcon⟩, ⟨0x1310, 0x131F, rowsCanMbox⟩]
  ++ [⟨0x1340, 0x1340, rowsCanCfg⟩, ⟨0x1341, 0x1341, rowsCanStat⟩, ⟨0x1342, 0x1342, rowsCanTx⟩, ⟨0x1343, 0x1343, rowsCanFilter⟩, ⟨0x1344, 0x1344, rowsCanBamcon⟩, ⟨0x1350, 0x135F, rowsCanMbox⟩, ⟨0x1380, 0x1380, rowsCanCfg⟩, ⟨0x1381, 0x1381, rowsCanStat⟩, ⟨0x1382, 0x1382, rowsCanTx⟩, ⟨0x1383, 0x1383, rowsCanFilter⟩]
  ++ [⟨0x1384, 0x1384, rowsCanBamcon⟩, ⟨0x1390, 0x139F, rowsCanMbox⟩, ⟨0x13C0, 0x13C0, rowsCanCfg⟩, ⟨0x13C1, 0x13C1, rowsCanStat⟩, ⟨0x13C2, 0x13C2, rowsCanTx⟩, ⟨0x13C3, 0x13C3, rowsCanFilter⟩, ⟨0x13C4, 0x13C4, rowsCanBamcon⟩, ⟨0x13D0, 0x13DF, rowsCanMbox⟩, ⟨0x1400, 0x1400, rowsPair⟩, ⟨0x1401, 0x1401, rowsPartner⟩]
  ++ [⟨0x1410, 0x1410, rowsCorridor⟩, ⟨0x1420, 0x1420, rowsHealth⟩, ⟨0x1430, 0x1430, rowsCompare⟩, ⟨0x1500, 0x1500, rowsPstore⟩, ⟨0x1510, 0x1510, rowsPsRecord⟩, ⟨0x1520, 0x1520, rowsRawPages⟩, ⟨0x1530, 0x1530, rowsRetainStore⟩, ⟨0x1600, 0x1600, rowsRecorder⟩, ⟨0x1610, 0x1610, rowsRateLimit⟩, ⟨0x1700, 0x1704, rowsWdt⟩]
  ++ [⟨0x1710, 0x1710, rowsWdtEvidence⟩, ⟨0x1720, 0x1720, rowsRtc⟩, ⟨0x1721, 0x1721, rowsBackup⟩, ⟨0x1722, 0x1722, rowsWindowFuse⟩, ⟨0x1730, 0x1730, rowsThermal⟩, ⟨0x1800, 0x1800, rowsFwStage⟩, ⟨0x1801, 0x1801, rowsFwActive⟩, ⟨0x1900, 0x1900, rowsLedger⟩, ⟨0x1910, 0x191F, rowsMargin⟩, ⟨0x2000, 0x2000, rowsPosEngine⟩]
  ++ [⟨0x2010, 0x2017, rowsEncCfg⟩, ⟨0x2020, 0x2027, rowsEncStat⟩, ⟨0x2040, 0x2043, rowsPsCfg⟩, ⟨0x2050, 0x2053, rowsPsStat⟩, ⟨0x2100, 0x2100, rowsTreadEngine⟩, ⟨0x2104, 0x2107, rowsTreadSrc⟩, ⟨0x2110, 0x211F, rowsTrgCfg⟩, ⟨0x2120, 0x215F, rowsTrgShape⟩, ⟨0x2180, 0x2181, rowsFlFirst⟩, ⟨0x2182, 0x2183, rowsFlLength⟩]
  ++ [⟨0x2184, 0x2185, rowsFlAnchor⟩, ⟨0x2186, 0x2187, rowsFlAnchorArg⟩, ⟨0x2188, 0x2189, rowsFlOffset⟩, ⟨0x218A, 0x218B, rowsFlPolicy⟩, ⟨0x218C, 0x218D, rowsFlCmd⟩, ⟨0x218E, 0x218F, rowsFlState⟩, ⟨0x2190, 0x2191, rowsFlAnchorPos⟩, ⟨0x2192, 0x2193, rowsFlDoneCount⟩, ⟨0x2194, 0x2195, rowsFlLate⟩, ⟨0x2196, 0x2197, rowsFlMissed⟩]
  ++ [⟨0x2198, 0x2199, rowsFlSkipped⟩, ⟨0x2200, 0x2200, rowsTasks⟩, ⟨0x2210, 0x2213, rowsGallery⟩, ⟨0x2220, 0x2223, rowsGalleryExec⟩, ⟨0x2240, 0x227F, rowsTask⟩, ⟨0x2300, 0x2300, rowsHall⟩, ⟨0x2310, 0x231F, rowsHallWin⟩, ⟨0x2340, 0x2340, rowsForceTable⟩, ⟨0x2400, 0x2400, rowsPlanActive⟩, ⟨0x2401, 0x2401, rowsPlanStage⟩]
  ++ [⟨0x2402, 0x2402, rowsEdit⟩, ⟨0x2403, 0x2403, rowsPlanKey⟩, ⟨0x2405, 0x2405, rowsFallback⟩, ⟨0x2500, 0x2500, rowsRoselo⟩, ⟨0x2504, 0x2507, rowsRoseloExport⟩, ⟨0x2510, 0x2513, rowsRoseloImport⟩, ⟨0x2520, 0x2521, rowsTriggerPorts⟩, ⟨0x2522, 0x2523, rowsTriggerSent⟩, ⟨0x2600, 0x262F, rowsDio⟩, ⟨0x2640, 0x2645, rowsDioGroup⟩]
  ++ [⟨0x2700, 0x2707, rowsAio⟩, ⟨0x2720, 0x2727, rowsAioFsk⟩, ⟨0x2800, 0x2800, rowsDispatch⟩, ⟨0x2900, 0x293F, rowsDspSource⟩, ⟨0x2940, 0x294F, rowsDspStore⟩, ⟨0x3000, 0x33FF, rowsDspConsumer⟩, ⟨0x3E00, 0x3E3F, rowsLoopGroup⟩, ⟨0x3EFF, 0x3EFF, rowsLoopAll⟩, ⟨0x4000, 0x47FF, rowsLoop⟩, ⟨0x5000, 0x8FFF, rowsTread⟩]

end Sys2Proof.Machine
end

