-- ==== Sys2Proof/Config.lean ====
section
/-! DEFINITION. What one module or one implementation fixes and the values the spec leaves open: constants without a body, so that no proof can see them. -/
namespace Sys2Proof.Config

/-- The `n`-th free value, in `w` bits: what the spec leaves undefined or does not state (log 4). -/
opaque freeValue : Nat → (w : Nat) → BitVec w

/-- Factory identity (00 R10, log 5). -/
opaque gradeX : Bool
/-- The 12 characters of SERIAL. -/
opaque serialChar : Fin 12 → Byte
opaque hwIssue : Nat
opaque macEth : Nat → Nat
/-- Receiver delay of an encoder input, in ns, measured at calibration (02 R49). -/
opaque receiverDelay : Nat → Nat
/-- Whether a value between two points of the 2^-32 grid goes to the upper one; the spec gives the format and no direction (00 R12, log 8). -/
opaque roundsUp : Rat → Bool
/-- The word that holds a velocity outside the signed 32.32 format; the spec states none (00 R12, log 8). -/
opaque velocityBeyond : Rat → BitVec 64
/-- The content that the Planner's section bytes spell: the spec gives no byte layout for the sections but CODE (06 R305, log 9). -/
opaque planBody : Bytes → Plan
/-- Fuses burned at the factory: the window fraction in quarters and the Plan key, none where the ordering code leaves them for the field (00 R1, log 5). -/
opaque factoryFuseWindow : Option (Fin 4)
opaque factoryFuseKey : Option Bytes
/-- MODULE_NONCE of the n-th phase 1 HELLO (10 R499). -/
opaque moduleNonce : Nat → Bytes
/-- Session numbers (10 R499). -/
opaque sessionNumber : Nat → Nat
/-- TRANSFER numbers of block writes (10 R516). -/
opaque transferNumber : Nat → Nat
/-- Factory role key of the Maintainer (10 R536). -/
opaque factoryKey : Bytes
/-- What verification finds of a firmware image: 0 good, or the reason of 14 R690; and its FW_VERSION. The spec gives no image layout (log 19). -/
opaque fwVerdict : Bytes → Nat
opaque fwVersion : Bytes → Nat

/-- Whether an edge time between two points of the 1 ns grain goes to the later one; the spec gives the grain and no direction (03 R145, log 15). -/
opaque edgeLater : Rat → Bool

/-- The module's PTP clock identity (10 R521, log 5). -/
opaque clockIdentity : Nat

end Sys2Proof.Config
end

