-- ==== Sys2Proof/Types/Sup.lean ====
section
/-! DEFINITION. The Supervisor: clocks, power, modes, firmware, fuses, watchdogs, the backup domain, the Margin Ledger and the thermal monitor (00, 14 to 17). -/
namespace Sys2Proof

/-- Time bases. PTP time is `refTime` at the instant `refNow`, running at 1 + ppb·10^-9 (00 R13, 10 R489);
the calendar counts 1/32,768 s from 2000-01-01 and stood at `rtcBase` at the instant `rtcAt` (15 R728);
operating seconds stood at `hoursBase` at `hoursAt` (13 R649). -/
structure Clock where
  ptpValid : Bool
  refNow   : Nat
  refTime  : Nat
  ppb      : Int
  rtcBase  : Nat
  rtcAt    : Nat
  /-- what the calendar reads until `rtcAt`, while a SET waits for its tick (15 R729) -/
  rtcWas   : Nat
  /-- the last comparison with PTP, or SET since (15 R730, R732) -/
  syncAt   : Option Nat
  rtcEnd   : Bool
  osf      : Bool
  hoursBase : Nat
  hoursAt  : Nat
  cycles   : Nat
deriving DecidableEq, Repr, Inhabited

/-- One watchdog (15 R706 to R718). C counts from `startAt`. -/
structure Wdt where
  /-- 0 disarmed, 1 armed, 2 disabled -/
  state   : Nat
  startAt : Nat
  /-- the previous key write was 0x1DEA -/
  disArm  : Bool
  lock    : Bool
  warned  : Bool
  expired : Bool
  lastService : Nat
  lastHours : Nat
  lastRtc : Nat
  services : Nat
  premature : Nat
  warnings : Nat
  refused : Nat
deriving DecidableEq, Repr, Inhabited

/-- The evidence record (15 R722). -/
structure Evidence where
  valid  : Bool
  wdt    : Nat
  cause  : Nat
  mode   : Nat
  pcs    : List Nat
  pcSup  : Nat
  lastHours : Nat
  lastRtc : Nat
  expiryRtc : Nat
  count  : Nat
  /-- ACTION at the expiry, and whether the next start still reports it (15 R719, R732) -/
  action : Nat
  report : Bool
deriving DecidableEq, Repr, Inhabited

/-- The backup domain beside the calendar (15 R723 to R727). -/
structure Backup where
  onBattery : Bool
  bytes   : Bytes
  valid   : Bool
  lost    : Bool
  /-- the loss is still to be recorded at the next start (R726) -/
  tell    : Bool
  vbatLow : Bool
  /-- VBAT, last measured, in mV -/
  vbat    : Nat
  vbatAt  : Option Nat
  lastSet : Nat
  evidence : Evidence
  /-- working copies of HOURS and POWER_CYCLES (13 R649), none once the domain was lost -/
  hours   : Option Nat
  cycles  : Option Nat
  actPending : Bool
deriving DecidableEq, Repr, Inhabited

/-- Firmware staging and confirmation (14 R688 to R704). -/
structure Firmware where
  stage    : Nat
  reject   : Nat
  booted   : Nat
  /-- 1 trial, 2 confirmed; when the activation was, and since when the module has run without Fault -/
  state    : Nat
  healthOk : Bool
  actAt    : Nat
  steadyAt : Nat
  hotSeen  : Bool
  confirm  : Bool
  expired  : Bool
  rollbacks : Nat
  lastPause : Nat
  /-- the service pause: ACTIVATE accepted, and its start -/
  pauseNext : Bool
  pauseAt  : Option Nat
  /-- mode that Update was entered from for staging -/
  from_    : Mode
  verifyAt : Nat
deriving DecidableEq, Repr, Inhabited

/-- Power and boot reports (14 R684 to R687, R701, R702). Voltages in mV. -/
structure Power where
  vl       : Nat
  holdReady : Bool
  holdMs   : Rat
  fails    : Nat
  lastFail : Nat
  pinResets : Nat
  cause    : Nat
  /-- RESET_CAUSE of the boot that follows the present reset; 0 stands for 1 -/
  nextCause : Nat
  bootMs   : Nat
  selftestMs : Nat
  planMs   : Nat
  fwMs     : Nat
  /-- instant at which the save of the last power failure ended (R685) -/
  saveEnd  : Nat
deriving DecidableEq, Repr, Inhabited

/-- A one-time fuse group: slots used, value in force, burn state and the value being burned (00 R1 to R8). -/
structure Fuse where
  used  : Nat
  /-- value in a slot whose commit fuse is burned, and the value in force since the last power-on reset (00 R4); empty for none -/
  committed : Bytes
  value : Bytes
  burn  : Nat
  next  : Bytes
deriving DecidableEq, Repr, Inhabited

/-- The two fuse groups: watchdog window and Plan key (00 R1). -/
structure Fuses where
  win : Fuse
  key : Fuse
deriving DecidableEq, Repr, Inhabited

/-- A quantity of the Margin Ledger (16 R738 to R746); samples are (operating seconds, value), newest first. -/
structure Margin where
  value   : Rat
  limit   : Rat
  samples : List (Nat × Rat)
  trend   : Rat
  state   : Nat
  actions : Nat
  lastAction : Nat
  cross   : Option Rat
deriving DecidableEq, Repr, Inhabited

/-- The Margin Ledger (16 R760). -/
structure Ledger where
  items   : List Margin
  avsStep : Nat
  /-- instant of the last AVS step, and of the last refresh (R743, R744) -/
  avsAt   : Option Nat
  refTrim : Rat
  /-- retired sectors of the nine partitions of 13 R627 -/
  retired : List Nat
  refreshed : Nat
  refreshAt : Option Nat
  /-- the operating hour last sampled (R739) -/
  hour    : Nat
  /-- time spent in Run and Edit up to the last entry to them, and that entry (R745) -/
  runNs   : Nat
  runFrom : Nat
  /-- changes of retained chunks, for D(I) of R745: instant, time of Run, chunk -/
  dirtied : List (Nat × Nat × Nat)
  /-- retained image at the last major Landing -/
  seen    : Bytes
  ckptInt : Nat
  ckptNext : Option Nat
deriving DecidableEq, Repr, Inhabited

/-- The thermal monitor and the encoder supplies (17 R766, R780, R783); temperatures in mK above 0 °C. -/
structure Thermal where
  case_   : Int
  caseAt  : Option Nat
  /-- highest CASE since power-on reset -/
  peak    : Option Int
  hotAt   : Option Nat
  warned  : Bool
  above    : Bool
  vencOff : Nat
  vencAt  : List Nat
  /-- last measurements: hottest die sensor in mK above 0 °C, P_VA and P_MODULE in mW, VENC currents in mA -/
  junction : Int
  pVa     : Nat
  pModule : Nat
  venc    : List Nat
deriving DecidableEq, Repr, Inhabited

/-- The Supervisor (14 to 17). -/
structure Sup where
  prevMode : Nat
  since    : Nat
  transitions : Nat
  cause    : Nat
  /-- debounced levels: MODE_RUN, MODE_STOP, MODE_MRES low -/
  pinRun   : Bool
  pinStop  : Bool
  pinMres  : Bool
  /-- since when MODE_MRES is low, and whether its memory reset has been done (14 R678) -/
  mresAt   : Nat
  mresDone : Bool
  power    : Power
  fw       : Firmware
  wdts     : List Wdt
  backup   : Backup
  ledger   : Ledger
  thermal  : Thermal
deriving DecidableEq, Repr, Inhabited

end Sys2Proof
end

