-- ==== Sys2Proof/Machine/State.lean ====
section
/-! DEFINITION. The state of the module, what may stop a command, and the state after reset. -/
namespace Sys2Proof.Machine

/-- Why a command faults. -/
inductive Fault where
  /-- The command names a unit (an encoder input, a channel, a task) that the module does not have. Raised by `actUnit`. Safe:
  the spec gives such a command no effect, and no such unit exists to act on. -/
  | noUnit (what : String) (n : Nat)
deriving DecidableEq, Repr

/-- Why the model refuses a command. -/
inductive Refusal where
  /-- The command has no meaning in the model yet; raised by the dispatch alone. Safe: nothing is claimed of it. -/
  | notModelled (mnemonic : String)
deriving DecidableEq, Repr

/-- The module. `pending`, `now`, `fresh` and `outbox` are the model's own (logs 1, 2, 4, 6); the rest is the spec's. -/
structure State where
  /-- commands that wait, first in first out -/
  pending : List Instr
  /-- the present instant in ns, and the instant of the last power-on reset -/
  now     : Nat
  bootAt  : Nat
  /-- free values used so far -/
  fresh   : Nat
  /-- what has left the module, newest first -/
  outbox  : List Emission
  mode    : Mode
  /-- held in reset or without logic supply -/
  inReset : Bool
  clock   : Clock
  /-- dictionary values that differ from their defaults, by key -/
  params  : List (Nat × Val)
  staged  : List Staged
  recorder : Recorder
  /-- entries discarded per crossing, 1 to 12, and resynchronisations (01 R38, R39) -/
  crossings : List Nat
  /-- entries discarded by a handshake that a further reset restarts, per crossing (01 R37) -/
  carried : List Nat
  resyncs : Nat
  line    : Line
  treads  : Treads
  hall    : Hall
  tasks   : Tasks
  plans   : Plans
  loops   : Loops
  dsp     : Dsp
  field   : FieldIo
  net     : Net
  cans    : List Can
  pair    : Pair
  nvm     : Nvm
  sup     : Sup
  fuses   : Fuses
deriving DecidableEq, Repr, Inhabited

/-! Reset. Values that the spec does not state are 0, empty or false (log 3) unless a line says otherwise. -/

/-- Two ports, down; 16 free sessions; the Maintainer key at its factory value (10 R536). -/
def resetNet : Net :=
  { (default : Net) with
    ports := List.replicate 2 default
    bamcon := { (default : Bamcon) with
      sessions := List.replicate 16 default, keys := [[], [], [], Config.factoryKey], keyFactory := true }
    roselo := { (default : Roselo) with
      minor := [2, 2], exports := List.replicate 4 0, accepted := List.replicate 4 0, gaps := List.replicate 4 0
      dups := List.replicate 4 0, invalid := List.replicate 4 0 } }

/-- A Gallery with its registers at 0. -/
def resetGallery : Gallery := { (default : Gallery) with words := List.replicate 64 0 }

/-- 64 tasks, four Galleries, 64 message queues. -/
def resetTasks : Tasks :=
  { (default : Tasks) with
    tasks := List.replicate 64 default, galleries := List.replicate 4 resetGallery, queues := List.replicate 64 [] }

/-- The pair: no lane up, PAIR_STATE 0 (12 R622, R624). -/
def resetPair : Pair :=
  { (default : Pair) with
    lanes := List.replicate 2 default, seqTx := List.replicate 10 0, seqRx := List.replicate 10 0
    shadowDio := List.replicate 48 false, dioDiff := List.replicate 48 none }

/-- The NOR as it leaves the factory: nothing written, the reserves of 13 R629 whole. -/
def resetNvm : Nvm :=
  { (default : Nvm) with
    gens := [0, 0], totals := [0, 0], fwSlots := [[], []], reserve := 262144, privReserve := 262144, rpReserve := 4096 }

/-- A fuse group as the factory left it: its first slot burned and committed, or unprogrammed (00 R1 to R4). -/
def factoryFuse (v : Option Bytes) : Fuse :=
  match v with
  | some b => { (default : Fuse) with used := 1, committed := b, value := b }
  | none => default

/-- The Supervisor: firmware confirmed and healthy (14 R704), watchdogs disarmed, no evidence, 16 quantities. -/
def resetSup : Sup :=
  { (default : Sup) with
    fw := { (default : Firmware) with state := 2, healthOk := true, from_ := .stop }
    wdts := List.replicate 5 default
    backup := { (default : Backup) with
      bytes := List.replicate 32 0#8, hours := some 0, cycles := some 0
      evidence := { (default : Evidence) with pcs := List.replicate 4 0 } }
    ledger := { (default : Ledger) with items := List.replicate 16 default, retired := List.replicate 9 0 }
    thermal := { (default : Thermal) with vencAt := List.replicate 8 0, venc := List.replicate 8 0 } }

/-- The fuse groups as the factory left them. -/
def resetFuses : Fuses := ⟨factoryFuse (Config.factoryFuseWindow.map fun f => leBytes 1 f.val), factoryFuse Config.factoryFuseKey⟩

/-- The module in reset, before logic supply is valid: Boot follows (14 R673 row 1). -/
def State.reset : State :=
  { pending := [], now := 0, bootAt := 0, fresh := 0, outbox := []
    mode := .boot, inReset := true
    clock := { (default : Clock) with osf := true }
    params := [], staged := []
    recorder := { (default : Recorder) with buckets := List.replicate 256 default }
    crossings := List.replicate 12 0, carried := List.replicate 12 0, resyncs := 0
    line := { (default : Line) with encs := List.replicate 8 default, srcs := List.replicate 4 default }
    treads := { (default : Treads) with
      flights := List.replicate 256 default, srcs := List.replicate 4 default, trgs := List.replicate 16 default }
    hall := { (default : Hall) with windows := List.replicate 16 default, blocks := List.replicate 256 default }
    tasks := resetTasks
    plans := { (default : Plans) with slots := [[], []], actKind := 1 }
    loops := default, dsp := default
    field := { (default : FieldIo) with
      dio := List.replicate 48 default, groups := List.replicate 6 default, aio := List.replicate 8 default }
    net := resetNet
    cans := List.replicate 4 { (default : Can) with boxes := List.replicate 16 default }
    pair := resetPair, nvm := resetNvm, sup := resetSup, fuses := resetFuses }

end Sys2Proof.Machine
end

