-- ==== Sys2Proof/Machine/Store.lean ====
section
/-! DEFINITION. Sparse stores: sorted lists of key and value in which no entry equals what an unlisted key reads as. -/
namespace Sys2Proof.Machine
universe u
variable {α : Type u}

/-- The value at a key; an unlisted key reads `d`. -/
def sget (d : α) : List (Nat × α) → Nat → α
  | [], _ => d
  | (j, x) :: m, k => if j = k then x else sget d m k

/-- Remove a key. -/
def sdel : List (Nat × α) → Nat → List (Nat × α)
  | [], _ => []
  | (j, x) :: m, k => if j = k then m else if j < k then (j, x) :: sdel m k else (j, x) :: m

/-- Insert or replace a value, in order of keys. -/
def sins : List (Nat × α) → Nat → α → List (Nat × α)
  | [], k, v => [(k, v)]
  | (j, x) :: m, k, v =>
    if j < k then (j, x) :: sins m k v else if j = k then (k, v) :: m else (k, v) :: (j, x) :: m

/-- Write a value: the value that unlisted keys read removes the entry. -/
def sput [DecidableEq α] (d : α) (m : List (Nat × α)) (k : Nat) (v : α) : List (Nat × α) :=
  if v = d then sdel m k else sins m k v

/-- Write consecutive values from a key on. -/
def sputs [DecidableEq α] (d : α) : List (Nat × α) → Nat → List α → List (Nat × α)
  | m, _, [] => m
  | m, k, v :: vs => sputs d (sput d m k v) (k + 1) vs

/-- Read `n` consecutive values from a key on. -/
def sgets (d : α) (m : List (Nat × α)) : Nat → Nat → List α
  | _, 0 => []
  | k, n + 1 => sget d m k :: sgets d m (k + 1) n

/-- Copy `n` values at `src` of one store to `dst` of another; everything else of the second stands. -/
def sblit (into from_ : List (Nat × α)) (dst src n : Nat) : List (Nat × α) :=
  into.filter (fun e => e.1 < dst)
    ++ (from_.filter (fun e => src ≤ e.1 && e.1 < src + n)).map (fun e => (e.1 - src + dst, e.2))
    ++ into.filter (fun e => dst + n ≤ e.1)

/-- Apply every entry of one store to another. -/
def soverlay [DecidableEq α] (d : α) (m above : List (Nat × α)) (f : α → Nat → α → α) : List (Nat × α) :=
  above.foldl (fun acc e => sput d acc e.1 (f (sget d acc e.1) e.1 e.2)) m

/-- The canonical store that reads as a list of keys and values does, where the first entry of a key counts. -/
def snorm [DecidableEq α] (d : α) (m : List (Nat × α)) : List (Nat × α) := m.foldr (fun e acc => sput d acc e.1 e.2) []

/-- The canonical form: keys strictly rising, no entry equal to the default. -/
def swf [DecidableEq α] (d : α) : List (Nat × α) → Bool
  | [] => true
  | [(_, x)] => decide (x ≠ d)
  | (j, x) :: (k, y) :: m => decide (x ≠ d) && decide (j < k) && swf d ((k, y) :: m)

end Sys2Proof.Machine
end

