-- ==== Sys2Proof/Machine/Ops.lean ====
section
/-! DEFINITION. The operations that every meaning shares: the instant of a command, times and the calendar, the dictionary's values in force, free values and the event recorder. -/
namespace Sys2Proof.Machine

/-- What a meaning answers. -/
abbrev Outcome := Host.Outcome State Fault Refusal

/-- Run a meaning at instant `t`: time never goes back, and no meaning changes the instant or the queue (log 1). -/
def perform (t : Nat) (f : State → Outcome) (s : State) : Outcome :=
  match f { s with now := max s.now t } with
  | .next s' => .next { s' with now := max s.now t, pending := s.pending }
  | .fault r => .fault r
  | .refused r => .refused r

/-- A meaning that always answers a next state. -/
def act (t : Nat) (f : State → State) (s : State) : Outcome := perform t (fun s => .next (f s)) s

/-- A meaning for unit `n` of `count`: a command that names no unit of the module faults. -/
def actUnit (t : Nat) (what : String) (n count : Nat) (f : State → State) (s : State) : Outcome :=
  perform t (fun s => if n < count then .next (f s) else .fault (.noUnit what n)) s

/-- Apply `f` when the condition holds. -/
def State.when (s : State) (c : Bool) (f : State → State) : State := if c then f s else s

/-- The module is powered, out of reset and not in Backup. -/
def State.live (s : State) : Bool := !s.inReset && s.mode ≠ .backup

/-- The mode whose rules hold: in Update, the mode it was entered from (14 R673, rows 14 to 16; 01 R30). -/
def State.base (s : State) : Mode := if s.mode = .update then s.sup.fw.from_ else s.mode

/-- The activation pause of an update is in progress (14 R697). -/
def State.pausing (s : State) : Bool := s.sup.fw.pauseAt.isSome

/-- Hold latches keep the field outputs in the activation pause (14 R697); those of a power failure stand within POWER_FAIL. -/
def State.held (s : State) : Bool := s.pausing

/-! Values between two points of a grid -/

/-- A value on a grid of whole units: itself, or one of its two neighbours, which the spec leaves open. -/
def toGrid (up : Rat → Bool) (r : Rat) : Int := if r.den = 1 then r.num else if up r then r.ceil else r.floor

/-- A position or acceleration of an estimator on its 2^-32 grid (00 R12, log 8). -/
def estRound (r : Rat) : Int := toGrid Config.roundsUp r

/-- A velocity as held: a signed 32.32 word in pu/µs (00 R12, log 8). -/
def velRound (r : Rat) : Int :=
  let n := estRound r
  if -(2 ^ 63) ≤ n ∧ n < 2 ^ 63 then n else (Config.velocityBeyond r).toInt

/-- An edge time at the 1 ns grain (03 R145, log 15). -/
def edgeRound (r : Rat) : Int := toGrid Config.edgeLater r

/-- SERIAL: 12 characters (00 R10, log 5). -/
def moduleSerial : Bytes := (List.finRange 12).map Config.serialChar

/-! Commands of one clock (log 137) -/

/-- The position clock of an instant: 4 ns; the core clock: 2 ns; the encoder clock: 5 ns (01, Clock domains). -/
def posClock (t : Nat) : Nat := t / 4
def coreClock (t : Nat) : Nat := t / 2
def encClock (t : Nat) : Nat := t / 5

/-- A command that waits in the queue and falls in the present clock, of those that `p` picks. A rule that orders coinciding
events looks here for one that it puts first (02 R112, 03 R168, 04 R221; log 137). -/
def State.coming (s : State) (clock : Nat → Nat) (p : Instr → Bool) : Bool :=
  s.pending.any fun c => p c && clock (max s.now c.instant) = clock s.now

/-! Times -/

/-- Monotonic time: ns since the last power-on reset, which a watchdog or activation reset is not (05 R247, 15 R720). -/
def State.mono (s : State) : Nat := s.now - s.bootAt

/-- TIME: PTP time, or the free-running time of the same clock while PTP is not valid (00 R13). -/
def State.time (s : State) : Nat :=
  let c := s.clock
  (c.refTime + (((s.now - c.refNow : Nat) : Int) * (1000000000 + c.ppb) / 1000000000)).toNat

/-- The instant at which TIME read, or reads, `x`. -/
def State.instantOf (s : State) (x : Nat) : Nat := ((s.now : Int) + ((x : Int) - (s.time : Int))).toNat

/-- The last second of the calendar, in ticks of 1/32,768 s (15 R731). -/
def calendarEnd : Nat := (73049 * 86400 - 1) * 32768

/-- Calendar ticks since 2000-01-01 (15 R728). -/
def State.rtcTicks (s : State) : Nat :=
  if s.clock.rtcEnd then calendarEnd
  else if s.now < s.clock.rtcAt then s.clock.rtcWas
  else min calendarEnd (s.clock.rtcBase + (s.now - s.clock.rtcAt) * 32768 / 1000000000)

/-- Days of a year after 2000 (15 R728: no leap year in 2100). -/
def yearDays (y : Nat) : Nat := if y % 4 = 0 && y ≠ 100 then 366 else 365

/-- Days of month `m`, 1 to 12, of a year after 2000. -/
def monthDays (y m : Nat) : Nat :=
  if m = 2 then yearDays y - 337 else if m = 4 ∨ m = 6 ∨ m = 9 ∨ m = 11 then 30 else 31

/-- Split days since 2000-01-01 into year and day of the year. -/
def splitYear : Nat → Nat → Nat → Nat × Nat
  | 0, y, d => (y, d)
  | n + 1, y, d => if d < yearDays y then (y, d) else splitYear n (y + 1) (d - yearDays y)

/-- Split a day of the year into month and day, both from 1. -/
def splitMonth (y : Nat) : Nat → Nat → Nat → Nat × Nat
  | 0, m, d => (m, d + 1)
  | n + 1, m, d => if d < monthDays y m then (m, d + 1) else splitMonth y n (m + 1) (d - monthDays y m)

/-- The calendar word of 15 R728 for a count of ticks. -/
def calendarWord (ticks : Nat) : Nat :=
  let secs := ticks / 32768
  let d := secs / 86400
  let (y, dy) := splitYear 200 0 d
  let (m, dm) := splitMonth y 12 1 dy
  secs % 60 + secs / 60 % 60 * 2 ^ 8 + secs / 3600 % 24 * 2 ^ 16 + dm * 2 ^ 24 + (d + 5) % 7 * 2 ^ 29
    + m * 2 ^ 32 + y * 2 ^ 40 + ticks % 32768 * 2 ^ 48

/-- Days from 2000-01-01 to the first day of a year. -/
def daysToYear : Nat → Nat
  | 0 => 0
  | y + 1 => daysToYear y + yearDays y

/-- Days of a year before its month `m + 1`. -/
def daysToMonth (y : Nat) : Nat → Nat
  | 0 => 0
  | m + 1 => daysToMonth y m + monthDays y (m + 1)

/-- Ticks of a calendar word, or none where it is no calendar value (15 R729): a field outside its range, a day that
does not exist, a reserved bit of 1. WEEKDAY and SUBSEC are ignored. -/
def calendarTicks (w : Nat) : Option Nat :=
  let sec := field w 5 0; let mn := field w 13 8; let hr := field w 20 16
  let day := field w 28 24; let mon := field w 35 32; let yr := field w 47 40
  let reserved := field w 7 6 + field w 15 14 + field w 23 21 + field w 39 36 + field w 63 63
  if reserved = 0 ∧ sec < 60 ∧ mn < 60 ∧ hr < 24 ∧ 1 ≤ mon ∧ mon ≤ 12 ∧ yr < 200 ∧ 1 ≤ day ∧ day ≤ monthDays yr mon then
    some ((((daysToYear yr + daysToMonth yr (mon - 1) + (day - 1)) * 24 + hr) * 60 + mn) * 60 * 32768 + sec * 32768)
  else none

/-- Operating seconds in force (13 R649). -/
def State.hours (s : State) : Nat := s.clock.hoursBase + (s.now - s.clock.hoursAt) / 1000000000

/-! The dictionary's values in force -/

/-- The key of an entry's sub-index in the value store. -/
def key (idx sub : Nat) : Nat := idx * 256 + sub

def findFam : List Fam → Nat → Option Fam
  | [], _ => none
  | f :: fs, idx => if f.lo ≤ idx ∧ idx ≤ f.hi then some f else findFam fs idx

def findRow : List Row → Nat → Option Row
  | [], _ => none
  | r :: rs, sub => if r.lo ≤ sub ∧ sub ≤ r.hi then some r else findRow rs sub

/-- The family of an index (00 R19, R20). -/
def famOf (idx : Nat) : Option Fam := findFam families idx

/-- The row of a sub-index. -/
def rowOf (idx sub : Nat) : Option Row := (famOf idx).bind fun f => findRow f.rows sub

/-- The default of an entry's table. -/
def dfltVal (idx sub : Nat) : Val := ((rowOf idx sub).map (·.dflt)).getD (.num 0)

/-- Look a key up in the value store. -/
def findVal : List (Nat × Val) → Nat → Option Val
  | [], _ => none
  | (j, v) :: m, k => if j = k then some v else findVal m k

/-- The configuration value in force: the stored value, or the table's default. -/
def State.val (s : State) (idx sub : Nat) : Val := (findVal s.params (key idx sub)).getD (dfltVal idx sub)

/-- The number of a configuration value. -/
def valNat : Val → Nat
  | .num n => n
  | .bytes b => leNat b

/-- The bytes of a value. -/
def valRaw : Val → Bytes
  | .num _ => []
  | .bytes b => b

def State.cfg (s : State) (idx sub : Nat) : Nat := valNat (s.val idx sub)
def State.cfgBytes (s : State) (idx sub : Nat) : Bytes := valRaw (s.val idx sub)
/-- A configuration value read as signed in `w` bits. -/
def State.cfgInt (s : State) (w idx sub : Nat) : Int := signed w (s.cfg idx sub)
/-- A configuration value read as F32. -/
def State.cfgF (s : State) (idx sub : Nat) : Rat := f32Val (BitVec.ofNat 32 (s.cfg idx sub))
def State.cfgOn (s : State) (idx sub : Nat) : Bool := s.cfg idx sub ≠ 0

/-- Reserved bits that an element of a CAN filter list holds as 0: ID1, ID2 and CTRL (11 R561). -/
def listMask : List Byte := [0xFF, 0xFF, 0xFF, 0x1F, 0xFF, 0xFF, 0xFF, 0x1F, 0x1F, 0x1F, 0, 0]

/-- The value that an entry holds: reserved bits of the CAN pairs and lists and reserved bytes of a characteristic's table read 0, and a BFP value is normalised; one too small for a normalised
value is zero (00 R16; 07 R358; 09 R458; 11 R559, R561; the zero is the model's reading, log 147). -/
def heldVal (idx sub : Nat) (v : Val) : Val :=
  if 0x1300 ≤ idx ∧ idx < 0x1400 ∧ idx % 0x40 = 3 ∧ 1 ≤ sub ∧ sub ≤ 10 ∧ sub ≠ 9 then
    match v with
    | .num n => .num (if sub ≤ 8 then Nat.land n 0x7FFFFFFFBFFFFFFF else n)
    | .bytes b => .bytes (b.mapIdx fun i x => x &&& listMask.getD (i % 12) 0)
  else if 0x2700 ≤ idx ∧ idx ≤ 0x2707 ∧ sub = 6 then
    match v with | .bytes b => .bytes (b.take 1 ++ (b.drop 1).mapIdx fun i x => if i < 3 then 0 else x) | v => v
  else if (rowOf idx sub).map (·.ty) = some .bfp then .num (bfpWord (bfpOfWord (BitVec.ofNat 32 (valNat v)))).toNat
  else v

/-- Put a configuration value in force; a value equal to the table's default leaves no entry. -/
def State.setVal (s : State) (idx sub : Nat) (v : Val) : State :=
  { s with params := sput (dfltVal idx sub) s.params (key idx sub) (heldVal idx sub v) }

/-- The field `j` of a Flight in the tables at 0x2180 (03 R173). -/
def State.fl (s : State) (j f : Nat) : Nat := s.cfg (0x2180 + 2 * j + f / 128) (f % 128 + 1)

/-! Free values -/

/-- A fresh free value of `w` bits (log 4). -/
def State.free (s : State) (w : Nat) : BitVec w := Config.freeValue s.fresh w
/-- The free value is used up. -/
def State.spend (s : State) : State := { s with fresh := s.fresh + 1 }

/-! The event recorder -/

/-- An event's data: 16 bytes, those beyond the definition 0 (16 R747). -/
def eventData (b : Bytes) : Bytes := (b ++ List.replicate (16 - b.length) 0#8).take 16

/-- The stamps of a record, taken at the occurrence (16 R747, R749). -/
def State.stampEvent (s : State) (code : Nat) (data : Bytes) : EventRec :=
  { seq := 0, code := code, flags := ofBool s.clock.ptpValid + 2 * ofBool s.clock.osf, hours := s.hours,
    cycles := s.clock.cycles, rtc := calendarWord s.rtcTicks, time := s.time, data := eventData data }

/-- Enter a record in the ring, with the next SEQ; answers how many records were overwritten before they were archived (16 R749, R750). -/
def pushRecord (r : Recorder) (e : EventRec) : Recorder × Nat :=
  let full := 65536 ≤ r.ring.length
  let lost := full && r.archNext + 65536 ≤ r.next
  ({ r with
      ring := { e with seq := r.next % 2 ^ 32 } :: (if full then r.ring.take 65535 else r.ring)
      next := r.next + 1
      recorded := r.recorded + 1
      archNext := if lost then r.archNext + 1 else r.archNext
      lost := holdMax 32 (r.lost + ofBool lost) }, ofBool lost)

/-- Record without regard to buckets; a loss records event 0xF002 (16 R750). -/
def State.enter (s : State) (e : EventRec) : State :=
  let first := s.recorder.archNext
  let (r, l) := pushRecord s.recorder e
  if l = 0 then { s with recorder := r }
  else
    let (r', l') := pushRecord r (s.stampEvent 0xF002 (leBytes 4 first ++ leBytes 4 2))
    { s with recorder := { r' with lost := holdMax 32 (r'.lost + (1 - l')) } }

/-- The bucket of a code. -/
def bucketOf : List Bucket → Nat → Nat → Option Nat
  | [], _, _ => none
  | b :: bs, code, i => if b.code = code ∧ code ≠ 0 then some i else bucketOf bs code (i + 1)

/-- A grid instant of a bucket that has had no token for it: a whole multiple of INTERVAL in monotonic time (16 R753). -/
def State.tokenDue (s : State) (b : Bucket) : Bool :=
  b.code ≠ 0 && b.interval ≠ 0 && s.mono % (b.interval * 1000000) < 2 && b.added + 2 ≤ s.mono

/-- A grid instant adds a token to bucket n unless it is full; a pending count is summarised past all buckets (16 R753, R754). -/
def State.tokenAdd (s : State) (n : Nat) : State :=
  let b := s.recorder.buckets.getD n default
  if !s.tokenDue b then s
  else
    let grows : Bool := b.tokens < b.burst
    let told : Bool := grows && b.suppressed ≠ 0
    let s := { s with recorder := { s.recorder with buckets := s.recorder.buckets.modify n fun b => { b with
      added := s.mono, tokens := b.tokens + ofBool grows, suppressed := if told then 0 else b.suppressed, first := if told then 0 else b.first } } }
    if told then s.enter (s.stampEvent 0xF001 (leBytes 2 b.code ++ leBytes 4 b.suppressed ++ leBytes 8 b.first)) else s

/-- Bucket i's token of this clock comes before an occurrence of its code (16 R757; log 137). -/
def State.tokenFirst (s : State) (i : Nat) : State :=
  if s.coming coreClock fun c => match c with | .tokenAdd _ n => n = i | _ => false then s.tokenAdd i else s

/-- An occurrence enters the recorder or is suppressed by its bucket (16 R752, R753, R755). -/
def State.occur (s : State) (e : EventRec) : State :=
  match bucketOf s.recorder.buckets e.code 0 with
  | none => s.enter e
  | some i =>
    let s := s.tokenFirst i
    let b := s.recorder.buckets.getD i default
    if b.tokens = 0 then
      { s with recorder := { s.recorder with
          buckets := s.recorder.buckets.modify i fun b =>
            { b with suppressed := holdMax 32 (b.suppressed + 1), first := if b.suppressed = 0 then e.time else b.first }
          suppressed := holdMax 32 (s.recorder.suppressed + 1) } }
    else
      { s with recorder := { s.recorder with
          buckets := s.recorder.buckets.modify i fun b => { b with tokens := b.tokens - 1 } } }.enter e

/-- Record event `code` now, with the bytes that its definition gives. -/
def State.ev (s : State) (code : Nat) (data : Bytes) : State := s.occur (s.stampEvent code data)

/-- The 64 bytes of a record (16 R747). -/
def recordBytes (e : EventRec) : Bytes :=
  let b := leBytes 4 e.seq ++ leBytes 2 e.code ++ leBytes 1 e.flags ++ [0#8] ++ leBytes 8 (e.hours % 2 ^ 40)
    ++ leBytes 4 e.cycles ++ leBytes 4 0 ++ leBytes 8 e.rtc ++ leBytes 8 e.time ++ eventData e.data
  b ++ leBytes 4 (crc32c b).toNat ++ leBytes 4 0

/-! The pair (12) -/

/-- The Corridor carries frames: a lane is up. -/
def State.corridorUp (s : State) : Bool := s.pair.lanes.any (·.up)

/-- Update element `i` of a list of units. -/
def upd {α : Type} (l : List α) (i : Nat) (f : α → α) : List α := l.modify i f

/-- Send something: the outbox holds it, newest first (log 2). -/
def State.emit (s : State) (e : Emission) : State := { s with outbox := e :: s.outbox }

/-- Send a Corridor frame of a class, with the next SEQ of that class; FORWARD and COMMAND leave on every lane that is up (12 R589, R590). -/
def State.send (s : State) (cls : Nat) (m : CorMsg) : State :=
  if s.corridorUp then
    let n := if cls = 2 || cls = 3 then s.pair.lanes.countP (·.up) else 1
    { s with pair := { s.pair with
        seqTx := upd s.pair.seqTx cls fun n => (n + 1) % 2 ^ 32, framesTx := holdMax 64 (s.pair.framesTx + n) } }.emit (.corridor s.time m)
  else s

/-- The active module of a pair forwards what its lockstep class reads (12 R595). -/
def State.forward (s : State) (i : FwdItem) : State :=
  if s.pair.role = 1 && s.pair.state ≠ 6 then s.send 2 (.forward i) else s

/-- A result that COMPARE covers: classes TRG, Tread, loop, G3 and AIO; the active module keeps them from the snapshot on (12 R600). -/
def State.result (s : State) (cls : Nat) (b : Bytes) : State :=
  if s.pair.state = 4 || (s.pair.role = 1 && s.pair.state = 3) then { s with pair := { s.pair with compare := s.pair.compare ++ [⟨s.time, cls, b⟩] } } else s

/-- The standby computes its lockstep class on a timeline that lags pair time by 3 µs (12 R596). -/
def State.lagged (s : State) (f : State → State) : State :=
  if s.base = .standby then { f { s with now := s.now - 3000 } with now := s.now } else f s

/-- A standby keeps its own input samples beside the forwarded ones for 1 ms (12 R596). -/
def State.shadow (s : State) (i : FwdItem) : State :=
  { s with pair := { s.pair with shadowBuf := (s.time, i) :: s.pair.shadowBuf.filter fun e => s.time < e.1 + 1000000 } }

/-- An input sample: a standby only shadows it, every other module takes it (12 R596). -/
def State.sensed (s : State) (i : FwdItem) (f : State → State) : State := if s.base = .standby then s.shadow i else f s

/-! Crossings -/

/-- The longest handshake of a crossing, in ns: 8 clocks of its slower domain (01 R36, Clock domains). -/
def handshakeNs (n : Nat) : Nat :=
  if n = 1 then 40 else if n ≤ 3 then 32 else if n ≤ 5 then 100 else if n ≤ 9 then 64 else if n ≤ 11 then 52 else 244141

/-- A further reset of crossing `n` arrives during the handshake that starts now (01 R37; log 137). -/
def State.restarts (s : State) (n : Nat) : Bool := s.pending.any fun c => match c with
  | .crossingResync t m _ => m = n && max s.now t < s.now + handshakeNs n
  | _ => false

/-- A reset at crossing `n`, 1 to 12, discards `k` entries; the handshake ends with its event, or is restarted by a further reset that
adds to the same count (01 R36 to R39). -/
def State.resync (s : State) (n k : Nat) : State :=
  let all := s.carried.getD (n - 1) 0 + k
  let s := { s with crossings := s.crossings.modify (n - 1) (fun c => holdMax 32 (c + k)) }
  if s.restarts n then { s with carried := s.carried.set (n - 1) all }
  else
    { s with carried := s.carried.set (n - 1) 0, resyncs := holdMax 32 (s.resyncs + 1) }.ev 0x1041 (leBytes 1 n ++ leBytes 4 (holdMax 32 all))

/-- An occurrence of a task's event; one in the core clock of the alcove's start counts for the run that starts there (04 R194, R195). -/
def occurs (clock : Nat) (t : TaskSt) : TaskSt :=
  if t.alcoveAt = some clock && t.phase = .pending then
    { t with info := holdMax 16 (t.info + 1), missed := holdMax 32 (t.missed + ofBool (t.info ≠ 0)) }
  else { t with occurred := t.occurred + 1 }

/-- Counts of a task's event occurrences: every declared task that the event starts (04 R194 to R196). -/
def State.occurrence (s : State) (kind arg : Nat) : State :=
  match s.plans.active with
  | none => s
  | some p => { s with tasks := { s.tasks with
      tasks := s.tasks.tasks.mapIdx fun k t =>
        let d := p.tasks.getD k default
        if d.kind = 3 ∧ d.eventKind = kind ∧ (d.eventArg = arg ∨ 6 ≤ kind) then occurs (coreClock s.now) t else t } }

end Sys2Proof.Machine
end

