-- ==== Sys2Proof/Machine/Sources.lean ====
section
/-! DEFINITION. Encoder inputs, fusion, slip, the estimator and the quality word (02 R43 to R113). -/
namespace Sys2Proof.Machine

def State.enc (s : State) (n : Nat) : Enc := s.line.encs.getD n default
def State.src (s : State) (i : Nat) : Src := s.line.srcs.getD i default
def State.updEnc (s : State) (n : Nat) (f : Enc → Enc) : State := { s with line := { s.line with encs := upd s.line.encs n f } }
def State.updSrc (s : State) (i : Nat) (f : Src → Src) : State := { s with line := { s.line with srcs := upd s.line.srcs i f } }

/-- Configuration of encoder n (02 R115) and of source i (02 R117). -/
def State.encCfg (s : State) (n sub : Nat) : Nat := s.cfg (0x2010 + n) sub
def State.srcCfg (s : State) (i sub : Nat) : Nat := s.cfg (0x2040 + i) sub

/-- The numbers of the set bits of a mask, below `n`. -/
def bitsOf (mask n : Nat) : List Nat := (List.range n).filter (bitAt mask)

/-- Set or clear bit `k` of a mask. -/
def setBit (mask k : Nat) (v : Bool) : Nat :=
  if bitAt mask k = v then mask else if v then mask + 2 ^ k else mask - 2 ^ k

/-- MODE of an input in force: 0 while ENC_ENABLE disables it (02 R43, R114). -/
def State.encMode (s : State) (n : Nat) : Nat := if bitAt (s.cfg 0x2000 1) n then s.encCfg n 1 else 0

/-- Pairs in use: A and B, and Z unless Z_MODE is 0; in SSI mode the B pair alone receives (02 R56, R64). -/
def State.pairsInUse (s : State) (n : Nat) : Nat :=
  match s.encMode n with
  | 1 => if s.encCfg n 8 = 0 then 3 else 7
  | 2 => 2
  | _ => 0

/-- LINE_FAULT: the pairs in use that are below 200 mV now (02 R64). The bit of a low pair that leaves use clears with it, which is
the model's choice (log 138). -/
def State.lineFault (s : State) (n : Nat) : Nat := Nat.land (s.enc n).low (s.pairsInUse n)

/-- An input is enabled and valid (02 R75, R116). -/
def State.encValid (s : State) (n : Nat) : Bool := s.encMode n ≠ 0 && !(s.enc n).faulted && !(s.enc n).awaiting

/-- STATE of an input (02 R116). An input that awaits its first sample shows 4 also while it is faulted, which is the model's choice (log 138). -/
def State.encState (s : State) (n : Nat) : Nat :=
  if s.encMode n = 0 then 0
  else if (s.enc n).awaiting then 4
  else if (s.enc n).faulted then 2
  else if s.line.srcs.any (fun x => bitAt x.excluded n) then 3
  else 1

/-- The inputs active in a source now, as a mask (02 R75). -/
def State.activeMask (s : State) (i : Nat) : Nat :=
  if s.srcCfg i 1 ≠ 0 ∨ ¬ (s.src i).enabled then 0
  else ((bitsOf (s.srcCfg i 2) 8).filter fun n => s.encValid n && !bitAt (s.src i).excluded n).foldl (fun m n => m + 2 ^ n) 0

/-- Number of set bits below 8. -/
def bitCount (m : Nat) : Nat := (bitsOf m 8).length

/-- Renormalised weight of an active input: proportional, rounded down; the active input with the largest weight,
the lowest-numbered of several, takes the residue (02 R75; rounding down is log 10). -/
def State.weight (s : State) (i n : Nat) : Nat :=
  let act := bitsOf (s.src i).active 8
  let raw (k : Nat) : Nat := s.srcCfg i (0x10 + k)
  let total := (act.map raw).sum
  let base (k : Nat) : Nat := if total = 0 then 65536 / act.length else raw k * 65536 / total
  let best := act.foldl (fun b k => match b with | none => some k | some j => if raw j < raw k then some k else some j) none
  if best = some n then 65536 - ((act.filter (· ≠ n)).map base).sum else base n

/-- The fused position quantum q in pu, exact (02 R76). -/
def State.quantum (s : State) (i : Nat) : Rat :=
  ((bitsOf (s.src i).active 8).map fun n =>
    ((s.weight i n * s.encCfg n 5 : Nat) : Rat) / ((s.encCfg n 6 * 65536 : Nat) : Rat)).foldl max 0

/-- q as reported: in pu, rounded up (02 R76). -/
def State.q (s : State) (i : Nat) : Nat := (s.quantum i).ceil.toNat

/-- Position, velocity and acceleration of an imported source at TIME `t`, in 2^-32 units (02 R105). -/
def propagate (p : Sample) (t : Nat) : Int × Int × Int :=
  let dt : Rat := (((t : Int) - (p.t : Int) : Int) : Rat) / 1000
  let x := (p.x.toInt * 2 ^ 32 : Int) + estRound ((p.v : Rat) * dt + (p.a : Rat) * dt * dt / 2)
  (x, velRound ((p.v : Rat) + (p.a : Rat) * dt), p.a)

/-- What is still left of the difference blended out over 100 µs (02 R106). -/
def State.blendLeft (s : State) (i : Nat) : Int :=
  let x := s.src i
  let d := s.now - x.blendAt
  if 100000 ≤ d then 0 else x.blend * ((100000 - d : Nat) : Int) / 100000

/-- The propagated position of an imported source now, in 2^-32 pu. -/
def State.imported (s : State) (i : Nat) : Int :=
  match (s.src i).sample with
  | none => (s.src i).lpc.toInt * 2 ^ 32
  | some p => (propagate p s.time).1 + s.blendLeft i

/-- A position in 2^-32 pu taken modulo 2^96 as a signed number (02 R104). -/
def wrap96 (x : Int) : Int := (BitVec.ofInt 96 x).toInt

/-- An imported source follows its stream: enabled, not lost, with a sample (02 R105, R107, R109, R787). -/
def State.following (s : State) (i : Nat) : Option Sample :=
  if s.srcCfg i 1 ≠ 0 && (s.src i).enabled && !(s.src i).lost then (s.src i).sample else none

/-- How far the estimator of a local source stands from the LPC at instant `t`, in 2^-32 pu (02 R85). -/
def State.beyond (s : State) (i t : Nat) : Int :=
  let r := s.src i
  let dt : Rat := (((t : Int) - (r.tickAt : Int) : Int) : Rat) / 1000
  wrap96 (r.x - r.lpc.toInt * 2 ^ 32) + estRound ((r.v : Rat) * dt + (r.a : Rat) * dt * dt / 2)

/-- The extrapolated position x̂ now, in 2^-32 pu: never outside [LPC − q, LPC + q], and the LPC itself at standstill (02 R87, 03 R147).
An imported source has no q: its propagated position is not clamped, which is the model's choice (log 139). -/
def State.xhat (s : State) (i : Nat) : Int :=
  let r := s.src i
  let lpc := r.lpc.toInt * 2 ^ 32
  if s.srcCfg i 1 ≠ 0 then (match s.following i with | some _ => s.imported i | none => lpc)
  else if r.standstill then lpc
  else
    let b := (s.quantum i * 2 ^ 32).floor
    lpc + clampInt (-b) b (s.beyond i s.now)

/-- The extrapolated position at an instant `t` not after now, in 2^-32 pu (03 R130). The clamp of R87 holds for the position offered
now; a past instant takes the estimator's curve alone (log 139). -/
def State.xhatAt (s : State) (i t : Nat) : Int :=
  let r := s.src i
  let lpc := r.lpc.toInt * 2 ^ 32
  if s.now ≤ t then s.xhat i
  else if s.srcCfg i 1 ≠ 0 then
    (match s.following i with | some p => (propagate p (s.time - (s.now - t))).1 + s.blendLeft i | none => lpc)
  else if r.standstill then lpc
  else lpc + s.beyond i t

/-- The velocity now, in 2^-32 pu/µs: that of the last tick carried on with its acceleration, as the position is (03 R144; log 25),
rounded to its word as the spec leaves open (00 R12, log 8). -/
def State.vhat (s : State) (i : Nat) : Int :=
  let r := s.src i
  if r.standstill then 0
  else
    match s.following i with
    | some p => (propagate p s.time).2.1
    | none => velRound ((r.v : Rat) + (r.a : Rat) * (((s.now - r.tickAt : Nat) : Rat) / 1000))

/-- A source is lost: the LPC freezes, v and a are 0, VALID and HOMED clear, LOST sets, event 0x2012 (02 R93). -/
def State.loseSource (s : State) (i : Nat) : State :=
  let s := s.updSrc i fun r => { r with v := 0, a := 0, valid := false, homed := false, lost := true, x := r.lpc.toInt * 2 ^ 32 }
  s.ev 0x2012 (leBytes 1 i ++ leBytes 8 (s.src i).lpc.toNat)

/-- A lost source recovers through input n and goes on from its frozen LPC, event 0x2013 (02 R94). -/
def State.recoverSource (s : State) (i n : Nat) : State :=
  let s := s.updSrc i fun r => { r with lost := false, valid := true, x := r.lpc.toInt * 2 ^ 32 }
  s.ev 0x2013 (leBytes 1 i ++ leBytes 1 n)

/-- Bring a source's active set up to date: newly active inputs align their travel to the fused travel,
an empty set loses the source, a first active input recovers it or makes it VALID (02 R75, R93, R94, R787). -/
def State.refreshSource (s : State) (i : Nat) : State :=
  if s.srcCfg i 1 ≠ 0 ∨ ¬ (s.src i).enabled then s.updSrc i fun r => { r with active := 0 }
  else
    let old := (s.src i).active
    let new := s.activeMask i
    let fresh := (bitsOf new 8).filter fun n => !bitAt old n
    let s := s.updSrc i fun r =>
      { r with active := new, travel := fresh.foldl (fun l n => upd l n fun _ => r.fused) r.travel }
    if (s.src i).awaitAbs.isSome then s
    else if new = 0 then (if (s.src i).lost then s else s.loseSource i)
    else if (s.src i).lost then s.recoverSource i (fresh.headD ((bitsOf new 8).headD 0))
    else s.updSrc i fun r => { r with valid := true }

def State.refreshSources (s : State) : State := [0, 1, 2, 3].foldl State.refreshSource s

/-- Fault an input (02 R51, R63, R64): its Z reference goes, and its sources lose it. -/
def State.faultEnc (s : State) (n : Nat) : State :=
  (s.updEnc n fun e => { e with faulted := true, faultAt := s.now, zRef := none }).refreshSources

/-- The middle of a list of travels; the mean of the two middle ones of an even number (02 R79). -/
def median (l : List Int) : Rat :=
  let m := l.mergeSort (fun a b => decide (a ≤ b))
  let k := m.length
  if k % 2 = 1 then (m.getD (k / 2) 0 : Rat) else ((m.getD (k / 2 - 1) 0 + m.getD (k / 2) 0 : Int) : Rat) / 2

/-- Of two inputs that a slip could exclude, the one it does: furthest from the centre, then the smaller magnitude, then the higher number (02 R79, R80). -/
def slipWorse (centre : Rat) (travel : List Int) (a b : Nat) : Nat :=
  let ta := travel.getD a 0; let tb := travel.getD b 0
  let da := absRat ((ta : Rat) - centre); let db := absRat ((tb : Rat) - centre)
  if da > db then a else if db > da then b
  else if ta.natAbs < tb.natAbs then a else if tb.natAbs < ta.natAbs then b
  else max a b

/-- The input that a slip excludes, if any (02 R79, R80). -/
def slipVictim (two : Nat) (act : List Nat) (travel : List Int) : Option Nat :=
  if act.length = 2 ∧ two ≠ 0 then none
  else
    let centre : Rat := if act.length = 2 then (((act.map fun n => travel.getD n 0).sum : Int) : Rat) / 2
      else median (act.map fun n => travel.getD n 0)
    match act with
    | [] => none
    | n :: ns => some (ns.foldl (slipWorse centre travel) n)

/-! Count edges and SSI steps -/

/-- Steps of a quadrature edge that leaves the levels (a, b), `onA` telling which changed (02 R45). -/
def quadStep (decode : Nat) (a b onA : Bool) : Int :=
  let up := if onA then a ≠ b else a = b
  let counts := match decode with | 4 => true | 2 => onA | _ => onA && a
  if counts then (if up then 1 else -1) else 0

/-- The count of input n as its accepted levels become (a, b): 0 for none (02 R45, R50). -/
def State.quadCount (s : State) (n : Nat) (a b : Bool) : Int :=
  let e := s.enc n
  if (e.a == a) == (e.b == b) then 0
  else
    let c := quadStep (s.encCfg n 2) a b (e.a != a)
    if s.encCfg n 7 = 0 then c else -c

/-- A waiting command that will count on an input of a mask (02 R78: a position clock's counts are judged together). -/
def State.willCount (s : State) (mask : Nat) : Instr → Bool
  | .encoderCount t n a b => bitAt mask n && (s.enc n).takenAt ≠ some t && s.encMode n = 1 && s.quadCount n a b ≠ 0
  | _ => false

/-- A slip does not exclude an input that a line fault takes out in the same position clock (02 R84). -/
def State.faultsNow (s : State) (n : Nat) : Bool :=
  s.lineFault n ≠ 0 || s.coming posClock fun c => match c with
    | .encLineFault _ m pair => m = n && bitAt (s.pairsInUse n) pair
    | _ => false

/-- Detect a slip among the active inputs once every count of the position clock is in, and restart the slip window on a slip or on
travel (02 R77 to R82, R84). -/
def State.checkSlip (s : State) (i : Nat) : State :=
  let r := s.src i
  let act := bitsOf r.active 8
  let ts := act.map fun n => r.travel.getD n 0
  let spread := ts.foldl max (ts.headD 0) - ts.foldl min (ts.headD 0)
  let limit := s.cfgInt 64 (0x2040 + i) 3
  let window := s.cfgInt 64 (0x2040 + i) 4
  if s.coming posClock (s.willCount r.active) then s
  else if 2 ≤ act.length ∧ limit ≠ 0 ∧ spread > limit then
    let out := match slipVictim (s.srcCfg i 5) act r.travel with
      | some n => if s.faultsNow n then none else some n
      | none => none
    let s := s.updSrc i fun r => { r with
      slip := true, readmit := false, slipCount := holdMax 32 (r.slipCount + 1), fused := 0, travel := List.replicate 8 0
      excluded := match out with | some n => setBit r.excluded n true | none => r.excluded }
    let s := { s with line := { s.line with slipTotal := holdMax 32 (s.line.slipTotal + 1) } }
    (s.ev 0x2010 (leBytes 1 i ++ leBytes 1 (out.getD 0xFF) ++ leBytes 8 (pattern 64 spread))).refreshSource i
  else if window ≠ 0 ∧ window.natAbs ≤ r.fused.natAbs then
    s.updSrc i fun r => { r with fused := 0, travel := List.replicate 8 0 }
  else s

/-- REVERSE and the net travel against it since the furthest point reached in its direction, the last change of direction (02 R91, log 23). -/
def direction (hyst d : Int) (reverse : Bool) (net : Int) : Bool × Int :=
  let net := if reverse then max 0 (net + d) else min 0 (net + d)
  if hyst = 0 ∨ net.natAbs < hyst.natAbs then (reverse, net) else (!reverse, 0)

/-- Move a source's LPC by d: a wrap is counted and recorded (02 R103), the direction follows R91. -/
def State.moveLpc (s : State) (i : Nat) (d : Int) : State :=
  let old := (s.src i).lpc
  let new := old + BitVec.ofInt 64 d
  let hyst := s.cfgInt 64 (0x2040 + i) 7
  let s := s.updSrc i fun r =>
    let n := direction hyst d r.reverse r.net
    { r with lpc := new, reverse := n.1, net := n.2 }
  if new.toInt = old.toInt + d then s
  else
    let s := s.updSrc i fun r => { r with wrapCount := holdMax 32 (r.wrapCount + 1) }
    s.ev 0x2016 (leBytes 1 i ++ leBytes 4 (s.src i).wrapCount)

/-- A position increment of active input n reaches a source (02 R74, R77, R86, R90). -/
def State.fuse (s : State) (i n : Nat) (inc : Int) (pin : Nat) : State :=
  let acc := ((s.src i).rem : Int) + inc * (s.weight i n : Int)
  let d := acc / 65536
  let s := s.updSrc i fun r => { r with
    rem := (acc % 65536).toNat, counted := true, lastPin := pin, lastCount := s.now, standstill := false
    travel := upd r.travel n (· + inc), fused := r.fused + d }
  (s.moveLpc i d).checkSlip i

/-- The 100 ms interval of RATE that holds an instant (02 R116). -/
def State.rateSlotNow (s : State) : Nat := s.mono / 100000000

/-- Add to the sum that RATE reports, closing intervals that have passed. -/
def addRate (slot : Nat) (c : Int) (e : Enc) : Enc :=
  if e.rateSlot = slot then { e with rateAcc := e.rateAcc + c }
  else { e with rateLast := if e.rateSlot + 1 = slot then e.rateAcc else 0, rateSlot := slot, rateAcc := c }

/-- RATE of an input (02 R116). -/
def State.rate (s : State) (n : Nat) : Int :=
  let e := s.enc n
  if s.encMode n = 0 then 0
  else if e.rateSlot = s.rateSlotNow then e.rateLast * 10
  else if e.rateSlot + 1 = s.rateSlotNow then e.rateAcc * 10 else 0

/-- A count step c of input n, referred to its pin time, is scaled exactly and reaches every source that the input is active in (02 R66,
R73, R74). RAW_COUNT wraps as a 64-bit number, which is the model's choice (log 141). -/
def State.countStep (s : State) (n : Nat) (c : Int) (pin : Nat) : State :=
  let acc := ((s.enc n).rem : Int) + c * (s.encCfg n 5 : Int)
  let den : Int := s.encCfg n 6
  let slot := s.rateSlotNow
  let s := s.updEnc n fun e => addRate slot c { e with raw := signed 64 (pattern 64 (e.raw + c)), rem := (acc % den).toNat }
  let inc := acc / den
  let s := s.refreshSources
  (List.range 4).foldl (fun s i =>
    let r := s.src i
    if r.enabled && bitAt r.active n && r.awaitAbs.isNone then s.fuse i n inc pin else s) s

/-- The module tracks positions: powered, out of Boot (02 R94: sources start tracking when Boot ends). -/
def State.tracking (s : State) : Bool := s.live && s.mode ≠ .boot

/-- A Gray-coded number of `w` bits as binary. -/
def grayToNat : Nat → Nat → Nat
  | 0, _ => 0
  | w + 1, g => Nat.xor g (grayToNat w (g / 2))

/-- Parity of a number's low `w` bits. -/
def parityOf : Nat → Nat → Bool
  | 0, _ => false
  | w + 1, n => xor (bitAt n w) (parityOf w n)

/-- The position that an SSI value stands for: scaled, plus ABS_OFFSET (02 R99). -/
def State.absolute (s : State) (i n : Nat) (v : Nat) : Dword :=
  let sgn : Int := if s.encCfg n 7 = 0 then v else -(v : Int)
  BitVec.ofInt 64 (sgn * (s.encCfg n 5 : Int) / (s.encCfg n 6 : Int) + s.cfgInt 64 (0x2040 + i) 0x0E)

/-- A source that waited loads the absolute value, in one position clock (02 R102). -/
def State.loadAbsolute (s : State) (i n : Nat) (v : Nat) : State :=
  let p := s.absolute i n v
  let s := s.updSrc i fun r => { r with
    lpc := p, x := p.toInt * 2 ^ 32, v := 0, a := 0, valid := true, homed := true, awaitAbs := none, presetStep := p, lost := false }
  (s.ev 0x2015 (leBytes 1 i ++ leBytes 8 p.toNat)).refreshSource i

/-- A discarded SSI read (02 R61 to R63). -/
def State.discardSsi (s : State) (n cause : Nat) : State :=
  let s := s.updEnc n fun e => { e with ssiErr := holdMax 32 (e.ssiErr + 1), ssiBad := e.ssiBad + 1, faultAt := s.now }
  let s := s.ev 0x2004 (leBytes 1 n ++ leBytes 1 cause)
  if 3 ≤ (s.enc n).ssiBad then s.faultEnc n else s

/-- What an SSI read fails, if anything: 2 the error bit, 3 the parity (02 R57, R62, R119). The parity bit makes the number
of ones over the data bits and itself even (log 11). -/
def State.ssiFails (s : State) (n raw : Nat) (err par : Bool) : Option Nat :=
  let m := s.encCfg n 0x0F
  if (m = 1 ∨ m = 3) ∧ err then some 2
  else if (m = 2 ∨ m = 3) ∧ parityOf (s.encCfg n 0x0B) raw ≠ par then some 3
  else none

/-- The value of a read: binary, or Gray converted (02 R57). -/
def State.ssiValue (s : State) (n raw : Nat) : Nat :=
  let w := s.encCfg n 0x0B
  let v := raw % 2 ^ w
  if s.encCfg n 0x0C = 1 then grayToNat w v % 2 ^ w else v

/-- A completed SSI read: a count step (a difference of 0 is no count: 02 R89), a first reference, or a discard (02 R44, R59 to R63); sources that wait for the input load it (R102). -/
def State.ssiRead (s : State) (n t0 raw : Nat) (err par : Bool) : State :=
  match s.ssiFails n raw err par with
  | some c => s.discardSsi n c
  | none =>
    let w := s.encCfg n 0x0B
    let v := s.ssiValue n raw
    let diff := match (s.enc n).ssiPrev with | none => 0 | some p => signed w (pattern w ((v : Int) - (p : Int)))
    let first := (s.enc n).ssiPrev.isNone || (s.enc n).awaiting
    let s := s.updEnc n fun e => { e with ssiPrev := some v }
    if !first && 2 ^ (w - 2) < diff.natAbs then s.discardSsi n 1
    else
      let s := (s.updEnc n fun e => { e with ssiBad := 0, awaiting := false }).refreshSources
      let s := if first || diff = 0 then s else s.countStep n (if s.encCfg n 7 = 0 then diff else -diff) t0
      if (s.enc n).faulted then s
      else (List.range 4).foldl (fun s i => if (s.src i).awaitAbs = some n then s.loadAbsolute i n v else s) s

/-- A local or imported source's quality word (02 R113). -/
def State.quality (s : State) (i : Nat) : Nat :=
  let r := s.src i
  let imp := s.srcCfg i 1 ≠ 0
  ofBool r.valid + 2 * ofBool r.homed + 4 * ofBool r.restored + 8 * ofBool r.standstill + 16 * ofBool r.reverse
    + 32 * ofBool r.slip + 64 * ofBool (bitCount r.active < bitCount (s.srcCfg i 2)) + 128 * ofBool r.overspeed
    + 256 * ofBool imp + 512 * ofBool r.stale + 1024 * ofBool r.lost + 2048 * ofBool (!s.clock.ptpValid)

/-- VELOCITY or ACCEL as F32: internal value × 3.90625 (02 R88); ACCEL in mm/s² is pu/µs² × 3,906,250. -/
def velocityF32 (v : Int) : Word := f32Of ((v : Rat) / 2 ^ 32 * (125 / 32))
def accelF32 (a : Int) : Word := f32Of ((a : Rat) / 2 ^ 32 * 3906250)

/-- A source publishes to PS_STAT and the system area; the first tick at or after each whole 100 µs of PTP time gives an exported source
its sample (02 R111, R118; 10 R524). -/
def State.publish (s : State) (i : Nat) : State :=
  let r := s.src i
  let p : Pub := { lpc := r.lpc, v := r.v, a := r.a, quality := s.quality i, stamp := s.time, q := s.q i }
  s.updSrc i fun r => { r with
    pub := p
    export_ := if s.cfgOn (0x2040 + i) 0x1B && p.stamp / 100000 ≠ r.exportSlot then some p else r.export_
    exportSlot := p.stamp / 100000 }

/-- OVERSPEED above VMAX, cleared below 0.98 × VMAX (02 R92). -/
def State.checkSpeed (s : State) (i : Nat) : State :=
  let r := s.src i
  let v := absRat ((r.v : Rat) / 2 ^ 32 * (125 / 32))
  let vmax := s.cfgF (0x2040 + i) 8
  if v > vmax ∧ ¬ r.overspeed then
    (s.updSrc i fun r => { r with overspeed := true }).ev 0x2014 (leBytes 1 i ++ leBytes 4 (velocityF32 r.v).toNat)
  else if r.overspeed ∧ v < vmax * (98 / 100) then s.updSrc i fun r => { r with overspeed := false }
  else s

/-- An imported source at a tick: the LPC follows the propagation, with wraps counted; a source that is lost, disabled or without a
sample keeps its LPC (02 R103, R105, R107, R109, R787). -/
def State.follow (s : State) (i : Nat) : State :=
  match s.following i with
  | some p =>
    let v := (propagate p s.time).2.1
    let x := s.imported i
    let s := s.moveLpc i (BitVec.ofInt 64 (x / 2 ^ 32 - (s.src i).lpc.toInt)).toInt
    s.updSrc i fun r => { r with x := x, v := v, a := p.a, tickAt := s.now }
  | none => s.updSrc i fun r => { r with x := r.lpc.toInt * 2 ^ 32, tickAt := s.now }

/-- Prediction and correction of one tick (02 R85, R86). -/
def State.estimate (s : State) (i : Nat) : State :=
  let r := s.src i
  if s.srcCfg i 1 ≠ 0 then s.follow i
  else if r.lost || !r.enabled || r.awaitAbs.isSome then
    s.updSrc i fun r => { r with x := r.lpc.toInt * 2 ^ 32, tickAt := s.now, counted := false }
  else
    let T : Rat := (s.srcCfg i 9 : Rat) / 1000
    let x1 := estRound ((r.x : Rat) + r.v * T + r.a * T * T / 2)
    let v1 := velRound ((r.v : Rat) + r.a * T)
    if r.counted then
      let dt : Rat := (((s.now : Int) - (r.lastPin : Int) : Int) : Rat) / 1000
      let e : Int := wrap96 (r.lpc.toInt * 2 ^ 32 - estRound ((x1 : Rat) - (v1 : Rat) * dt))
      s.updSrc i fun r => { r with
        x := estRound ((x1 : Rat) + s.cfgF (0x2040 + i) 0x0A * e)
        v := velRound ((v1 : Rat) + s.cfgF (0x2040 + i) 0x0B / T * e)
        a := estRound ((r.a : Rat) + 2 * s.cfgF (0x2040 + i) 0x0C / (T * T) * e)
        tickAt := s.now, counted := false }
    else s.updSrc i fun r => { r with x := x1, v := v1, tickAt := s.now }

/-- An instant on the grid of a source's estimator ticks (02 R85). -/
def State.onGrid (s : State) (i : Nat) : Bool :=
  s.srcCfg i 9 ≠ 0 && ((s.now : Int) - s.line.gridAt) % (s.srcCfg i 9 : Int) = 0

/-- REVERSE follows the sign of v when REV_HYST is 0 (02 R91). -/
def State.reverseByV (s : State) (i : Nat) : State :=
  if s.cfgInt 64 (0x2040 + i) 7 = 0 then s.updSrc i fun r => { r with reverse := r.v < 0 } else s

/-- One estimator tick of a source (02 R85 to R92, R111). -/
def State.estimatorTick (s : State) (i : Nat) : State :=
  (((s.estimate i).reverseByV i).checkSpeed i).publish i

/-- A READMIT write: the named excluded inputs return, SLIP clears when none stays excluded (02 R82, R83). -/
def State.readmitWrite (s : State) (i mask : Nat) : State :=
  let names := (bitsOf mask 8).filter fun n => bitAt (s.src i).excluded n
  let s := s.updSrc i fun r => { r with
    excluded := names.foldl (fun m n => setBit m n false) r.excluded, readmit := true }
  let s := s.updSrc i fun r => { r with slip := r.slip && r.excluded ≠ 0 }
  let s := names.foldl (fun s n => s.ev 0x2011 (leBytes 1 i ++ leBytes 1 n)) s
  s.refreshSource i

/-- A change of MODE at apply: the crossing resets, and the input awaits its first valid sample; a quadrature input has it at once unless a pair in use is faulty (02 R44). A fault
from before the change ends with it, which is the model's choice (log 138). In SSI mode the A pair drives the clock (R56). -/
def State.startEnc (s : State) (n : Nat) : State :=
  let wait := s.encMode n = 2 || s.lineFault n ≠ 0
  let ssi := s.encMode n = 2
  let s := s.when ((s.enc n).driven != ssi) fun s => s.emit (.ssiClock n ssi s.now)
  (s.updEnc n fun e => { e with driven := ssi, awaiting := wait, faulted := false, zRef := none, ssiPrev := none, ssiBad := 0, quadTimes := [] }).refreshSources

/-- A source that SRC_ENABLE disables or enables after Boot (02 R787); an import without valid PTP is lost (R109). -/
def State.enableSource (s : State) (i : Nat) (on : Bool) : State :=
  let r := s.src i
  if r.enabled = on then s
  else if on then
    let s := s.updSrc i fun r => { r with
      enabled := true, v := 0, a := 0, x := r.lpc.toInt * 2 ^ 32, homed := false, lost := false, active := 0, sample := none }
    if s.srcCfg i 1 ≠ 0 then (if s.clock.ptpValid then s else s.loseSource i)
    else if s.activeMask i = 0 then s.loseSource i else s.refreshSource i
  else s.updSrc i fun r => { r with
    enabled := false, v := 0, a := 0, valid := false, homed := false, x := r.lpc.toInt * 2 ^ 32, active := 0, awaitAbs := none }

/-! Quadrature levels (02 R45 to R55) -/

/-- The pin time of a quadrature count or Z edge accepted at `t` (02 R49). -/
def State.pinTime (s : State) (n t : Nat) : Nat := t - Config.receiverDelay n - 5 * s.encCfg n 3

/-- A pair whose last accepted change was at `since` can have held a new level through the N + 1 samples of its filter (02 R47); `k`
changes have to fit. -/
def State.held5 (s : State) (n since k : Nat) : Bool := s.encCfg n 3 = 0 || since + 5 * k * (s.encCfg n 3 + 1) ≤ s.now

/-- A quadrature error: counted and recorded; more than 16 within 1 ms fault the input (02 R50, R51). -/
def State.quadError (s : State) (n : Nat) : State :=
  let s := s.updEnc n fun e => { e with
    quadErr := holdMax 32 (e.quadErr + 1), faultAt := s.now
    quadTimes := (e.quadTimes.filter fun q => s.now < q + 1000000) ++ [s.now] }
  let s := s.ev 0x2002 (leBytes 1 n ++ leBytes 4 (s.enc n).quadErr)
  if 16 < (s.enc n).quadTimes.length && !(s.enc n).faulted then s.faultEnc n else s

/-- New accepted levels of A and B at instant `t` (02 R45, R47, R50). A standby shadows the step (12 R596). -/
def State.quadLevels (s : State) (n t : Nat) (a b : Bool) : State :=
  let e := s.enc n
  let onA := e.a ≠ a
  let onB := e.b ≠ b
  if (onA && !s.held5 n e.aAt 1) || (onB && !s.held5 n e.bAt 1) then s
  else
    let c := s.quadCount n a b
    let s := s.updEnc n fun e => { e with a := a, b := b, aAt := if onA then t else e.aAt, bAt := if onB then t else e.bAt }
    if s.encMode n ≠ 1 || (!onA && !onB) then s
    else if onA && onB then s.sensed (.encSlot n 0 0 4 s.time) fun s => (s.quadError n).forward (.encSlot n 0 0 4 s.time)
    else if c = 0 then s
    else s.sensed (.encSlot n c 0 0 s.time) fun s => (s.countStep n c (s.pinTime n t)).forward (.encSlot n c 0 0 s.time)

/-- A waiting count edge is taken ahead of its turn (log 137). -/
def State.takeCount (s : State) : Instr → State
  | .encoderCount t n a b =>
    if s.tracking && (s.enc n).takenAt ≠ some t then (s.updEnc n fun e => { e with takenAt := some t }).quadLevels n (max s.now t) a b else s
  | _ => s

/-- The inputs' counts of the present clock act before what a rule puts after them: an accepted Z edge, a preset, a scale that
applies, a line fault (02 R55, R69, R84, R97; log 137). -/
def State.takeCounts (s : State) (clock : Nat → Nat) (mask : Nat) : State :=
  (s.pending.filter fun c => clock (max s.now c.instant) = clock s.now
    && (match c with | .encoderCount _ n _ _ => bitAt mask n | _ => false)).foldl State.takeCount s

end Sys2Proof.Machine
end

