-- ==== Sys2Proof/Machine/Treads.lean ====
section
/-! DEFINITION. Tread words, Flights, windows, presets and trigger channels (03 R120 to R168). -/
namespace Sys2Proof.Machine

/-! The Tread word (03 R120) -/

def State.tread (s : State) (i : Nat) : BitVec 128 := sget 0 s.treads.words i
def treadPos (w : BitVec 128) : Dword := w.setWidth 64
def treadPitch (w : BitVec 128) : Nat := (w >>> 64).toNat % 2 ^ 31
def treadRel (w : BitVec 128) : Bool := w.getLsbD 95
def treadRepeats (w : BitVec 128) : Nat := (w >>> 96).toNat % 2 ^ 16
def treadSource (w : BitVec 128) : Nat := (w >>> 112).toNat % 4
def treadAction (w : BitVec 128) : Nat := (w >>> 114).toNat % 8
def treadOperand (w : BitVec 128) : Nat := (w >>> 117).toNat % 2 ^ 11

/-- Whether a word repeats without a pitch (03 R122). -/
def treadBad (w : BitVec 128) : Bool := treadRepeats w ≠ 0 && treadPitch w = 0

def State.flight (s : State) (f : Nat) : Flight := s.treads.flights.getD f default
def State.tsrc (s : State) (i : Nat) : TreadSrc := s.treads.srcs.getD i default
def State.updFlight (s : State) (f : Nat) (g : Flight → Flight) : State :=
  { s with treads := { s.treads with flights := upd s.treads.flights f g } }
def State.updTsrc (s : State) (i : Nat) (g : TreadSrc → TreadSrc) : State :=
  { s with treads := { s.treads with srcs := upd s.treads.srcs i g } }
def State.updTrg (s : State) (c : Nat) (g : Trg → Trg) : State :=
  { s with treads := { s.treads with trgs := upd s.treads.trgs c g } }

def State.flFirst (s : State) (f : Nat) : Nat := s.fl 0 f
def State.flLength (s : State) (f : Nat) : Nat := s.fl 1 f
def State.flAnchor (s : State) (f : Nat) : Nat := s.fl 2 f
def State.flArg (s : State) (f : Nat) : Nat := s.fl 3 f
def State.flOffset (s : State) (f : Nat) : Dword := BitVec.ofNat 64 (s.fl 4 f)
def State.flPolicy (s : State) (f : Nat) : Nat := s.fl 5 f

/-- The source of a Flight: that of its first Tread (03 R127). -/
def State.flSource (s : State) (f : Nat) : Nat := treadSource (s.tread (s.flFirst f))

/-- The Flight that a Tread belongs to (03 R127). -/
def State.flightOf (s : State) (i : Nat) : Option Nat :=
  (List.range 256).find? fun f => s.flFirst f ≤ i && i < s.flFirst f + s.flLength f

/-- The resolved position P of a Tread of Flight f (03 R123). -/
def State.resolve (s : State) (f i : Nat) : Dword :=
  let w := s.tread i
  if treadRel w then (s.flight f).anchor + s.flOffset f + treadPos w else treadPos w

/-- The due position of an entry's next firing (03 R121). -/
def State.due (s : State) (e : WinEnt) : Dword := e.pos + BitVec.ofNat 64 (e.k * treadPitch (s.tread e.tread))

/-- d = P − x̂, in 2^-32 pu, as a signed difference (03 R144). -/
def State.ahead (s : State) (src : Nat) (p : Dword) : Int := wrap96 (p.toInt * 2 ^ 32 - s.xhat src)

/-- Firings of a Tread still to come at firing k. -/
def State.firingsLeft (s : State) (i k : Nat) : Nat := treadRepeats (s.tread i) + 1 - k

/-- The last firing of the present run stood at position `p` (03 R142): its edge time and whether it was late. -/
def State.sameDue (s : State) (src : Nat) (p : Dword) : Option (Nat × Bool) :=
  match (s.tsrc src).lastDue with
  | some x => if x.1 = p then some x.2 else none
  | none => none

/-- Judge whether the next firing of a source's head stands behind x̂ as it becomes the next one at instant `t` (03 R159, R160). One
that shares the due position of a firing made in time fires after it in window order and is not late (R142, log 26). -/
def State.judgeHeadAt (s : State) (src t : Nat) : State :=
  let late : Bool := match (s.tsrc src).window with
    | e :: _ => wrap96 ((s.due e).toInt * 2 ^ 32 - s.xhatAt src t) < 0 && s.due e ≠ (s.flight e.flight).anchor
        && (match s.sameDue src (s.due e) with | some x => x.2 | none => true)
    | [] => false
  s.updTsrc src fun r => { r with headLate := late }

def State.judgeHead (s : State) (src : Nat) : State := s.judgeHeadAt src s.now

/-- Firings of a Tread that a preset or a pause took from the coming run of its Flight (03 R150, R163). -/
def State.skipOf (s : State) (f i : Nat) : Nat := sget 0 (s.flight f).skips i

/-- The first of `n` Treads from `i` on that has a firing left for Flight f. -/
def State.firstLeft (s : State) (f : Nat) : Nat → Nat → Option Nat
  | 0, _ => none
  | n + 1, i => if s.skipOf f i ≤ treadRepeats (s.tread i) then some i else State.firstLeft s f n (i + 1)

/-- The Tread of a running Flight that enters the window next. -/
def State.nextTread (s : State) (src f : Nat) : Option Nat :=
  s.firstLeft f (s.flFirst f + s.flLength f - (s.tsrc src).nextIn) (s.tsrc src).nextIn

/-- The entry with which a Tread of Flight f enters the window. -/
def State.entryOf (s : State) (f i : Nat) : WinEnt := ⟨i, f, s.resolve f i, s.skipOf f i⟩

/-- One Tread enters the window at instant `t`; an empty window has its head judged (03 R138, R159). -/
def State.enterWindow (s : State) (src f i t : Nat) : State :=
  let first := (s.tsrc src).window.isEmpty
  let s := s.updTsrc src fun r => { r with window := r.window ++ [s.entryOf f i], nextIn := i + 1 }
  let s := { s with treads := { s.treads with entered := sins s.treads.entered i t } }
  if first then s.judgeHeadAt src t else s

/-- The running Flight's next Treads move into the window, one per position clock, until it holds 64 (03 R138). -/
def State.fillWindow (src : Nat) : Nat → State → State
  | 0, s => s
  | n + 1, s =>
    match (s.tsrc src).running with
    | none => s
    | some f =>
      match s.nextTread src f with
      | none => s
      | some i =>
        if 64 ≤ (s.tsrc src).window.length then s
        else
          let c := (s.tsrc src).fillAt + 1
          State.fillWindow src n ((s.enterWindow src f i (min s.now (4 * c))).updTsrc src fun r => { r with fillAt := c })

/-- The window as it stands in the present position clock (03 R138). -/
def State.fillNow (s : State) (src : Nat) : State :=
  let s := State.fillWindow src (min 64 (posClock s.now - (s.tsrc src).fillAt)) s
  s.updTsrc src fun r => { r with fillAt := posClock s.now }

/-- The Tread that a firing lets into a full window (03 R138). -/
def State.refill (s : State) (src : Nat) : State :=
  match (s.tsrc src).running with
  | none => s
  | some f =>
    match s.nextTread src f with
    | some i => if (s.tsrc src).window.length = 63 then s.enterWindow src f i s.now else s
    | none => s

/-- A Flight starts its run on its source, at its anchor or from the queue: its first Tread enters in that clock (03 R138, R168). -/
def State.startFlight (s : State) (src f : Nat) (anchored : Option Nat) : State :=
  let s := s.updFlight f fun x => { x with state := .running, lastRun := false }
  let s := s.updTsrc src fun r =>
    { r with running := some f, window := [], nextIn := s.flFirst f, fillAt := posClock s.now, lastDue := none, anchoredAt := anchored
             headLate := false }
  match s.nextTread src f with
  | some i => s.enterWindow src f i s.now
  | none => s

/-- No firing of the running Flight is left. -/
def State.runEmpty (s : State) (src f : Nat) : Bool := (s.tsrc src).window.isEmpty && (s.nextTread src f).isNone

/-- The resolved position of a Flight's last firing (03 R130, R175). -/
def State.runLast (s : State) (f : Nat) : Dword :=
  let i := s.flFirst f + s.flLength f - 1
  s.due { s.entryOf f i with k := treadRepeats (s.tread i) }

/-- The first queued Flight of a source starts (03 R135, R139). -/
def State.startQueued (s : State) (src : Nat) : State :=
  match (s.tsrc src).queued with
  | [] => s
  | f :: q => (s.updTsrc src fun r => { r with queued := q }).startFlight src f none

/-- An anchor is discarded (03 R139, R140). -/
def State.skipAnchor (s : State) (f : Nat) (pos : Dword) : State :=
  (s.updFlight f fun x => { x with skipped := holdMax 32 (x.skipped + 1) }).ev 0x2026 (leBytes 1 f ++ leBytes 8 pos.toNat)

/-- Count firings of Flight f as not made (03 R135, R150, R159). -/
def State.miss (s : State) (f n : Nat) : State :=
  let s := s.updFlight f fun x => { x with missed := holdMax 32 (x.missed + n) }
  { s with treads := { s.treads with missedTotal := holdMax 32 (s.treads.missedTotal + n) } }

/-- Firings that the running Flight of a source would still make; a trigger frame not yet sent is one (03 R135). -/
def State.runLeft (s : State) (src f : Nat) : Nat :=
  let r := s.tsrc src
  let inWin := (r.window.map fun e => s.firingsLeft e.tread e.k).sum
  let later := ((List.range (s.flFirst f + s.flLength f - r.nextIn)).map fun j => s.firingsLeft (r.nextIn + j) (s.skipOf f (r.nextIn + j))).sum
  inWin + later + (r.frames.filter fun q => q.flight = f).length

/-- Abort the running Flight of a source: its remaining firings are missed, event 0x2022 for each Tread in the window, event 0x2027;
its frames that have not left do not leave (03 R135). -/
def State.abortRun (s : State) (src f : Nat) : State :=
  let s := s.fillNow src
  let n := s.runLeft src f
  let win := (s.tsrc src).window
  let s := s.miss f n
  let s := s.ev 0x2027 (leBytes 1 f ++ leBytes 4 n)
  let s := win.foldl (fun s e => s.ev 0x2022 (leBytes 2 e.tread ++ leBytes 1 f ++ leBytes 1 3)) s
  let s := s.updFlight f fun x => { x with state := .idle, lastRun := false, skips := [] }
  s.updTsrc src fun r => { r with window := [], running := none, headLate := false, frames := r.frames.filter fun q => q.flight ≠ f }

/-- A Flight anchors at a position (03 R130, R138 to R140). -/
def State.anchorFlight (s : State) (f : Nat) (pos : Dword) : State :=
  let src := s.flSource f
  let r := s.tsrc src
  if (s.flight f).state = .queued then s.skipAnchor f pos
  else
    match r.running with
    | none => (s.updFlight f fun x => { x with anchor := pos, skips := [] }).startFlight src f (some s.now)
    | some g =>
      match s.flPolicy f % 4 with
      | 0 =>
        if 4 ≤ r.queued.length then s.skipAnchor f pos
        else
          let s := s.updFlight f fun x => { x with anchor := pos, state := .queued, skips := [] }
          s.updTsrc src fun r => { r with queued := r.queued ++ [f] }
      | 1 => ((s.abortRun src g).updFlight f fun x => { x with anchor := pos, skips := [] }).startFlight src f (some s.now)
      | _ => s.skipAnchor f pos

/-- Flights armed and chained to the completion of f anchor; one already queued is skipped (03 R130, R134, R140). -/
def State.chainFrom (s : State) (f : Nat) (pos : Nat → Dword) : State :=
  (List.range 256).foldl (fun s g =>
    if ((s.flight g).state = .armed || (s.flight g).state = .queued) && s.flAnchor g = 4 && s.flArg g = f
    then s.anchorFlight g (pos g) else s) s

/-- FLIGHT_DONE: counted, recorded, and an event for event tasks (03 R129, R175; 04 R196). -/
def State.flightDone (s : State) (f : Nat) (last : Dword) : State :=
  let s := s.updFlight f fun x => { x with done := holdMax 32 (x.done + 1) }
  (s.ev 0x2020 (leBytes 1 f ++ leBytes 8 last.toNat)).occurrence 5 f

/-- An armed Flight without a Tread completes at once (03 R134). -/
def State.completeEmpty (s : State) (f : Nat) : State :=
  let s := (s.updFlight f fun x => { x with state := .done }).flightDone f 0
  s.chainFrom f fun g => (s.src (s.flSource g)).lpc

/-- Arm a Flight (03 R129, R130, R134); `self` lets anchor kind 0 anchor at once. -/
def State.armFlight (s : State) (f : Nat) (self : Bool) : State :=
  if s.flLength f = 0 then s.completeEmpty f
  else
    let s := s.updFlight f fun x => { x with state := .armed }
    if self && s.flAnchor f = 0 then s.anchorFlight f (s.src (s.flSource f)).lpc else s

/-- The running Flight of a source completes at the position of its last firing (03 R132, R133, R137, R139). -/
def State.completeOnce (s : State) (src f : Nat) (last : Dword) : State :=
  let x := s.flight f
  let chained := s.flAnchor f = 4 && s.flArg f = f
  let again := !x.lastRun && (chained || bitAt (s.flPolicy f) 3)
  let s := s.updTsrc src fun r => { r with running := none, window := [], headLate := false }
  let s := s.updFlight f fun x => { x with state := if again then .armed else .done, lastRun := false, skips := [] }
  let s := (s.flightDone f last).startQueued src
  let s := s.chainFrom f fun _ => last
  if again && s.flAnchor f = 0 && (s.flight f).state = .armed then s.anchorFlight f (s.src src).lpc else s

/-- A queued Flight that a preset or a pause left no firing completes as it starts. -/
def State.settleRun (src : Nat) : Nat → State → State
  | 0, s => s
  | n + 1, s =>
    match (s.tsrc src).running with
    | some f => if s.runEmpty src f then State.settleRun src n (s.completeOnce src f (s.runLast f)) else s
    | none => s

def State.completeRun (s : State) (src f : Nat) (last : Dword) : State := State.settleRun src 8 (s.completeOnce src f last)

/-- FL_CMD 1 to 4 by the state the Flight holds (03 R137). -/
def State.flCommand (s : State) (f cmd : Nat) : State :=
  let st := (s.flight f).state
  let src := s.flSource f
  match cmd with
  | 1 => if st = .idle ∨ st = .done then s.armFlight f true else s
  | 2 =>
    match st with
    | .armed => s.updFlight f fun x => { x with state := .idle }
    | .queued => (s.updFlight f fun x => { x with state := .idle }).updTsrc src fun r => { r with queued := r.queued.filter (· ≠ f) }
    | .running => s.updFlight f fun x => { x with lastRun := true }
    | _ => s
  | 3 =>
    match st with
    | .armed => s.updFlight f fun x => { x with state := .idle }
    | .queued => (s.updFlight f fun x => { x with state := .idle }).updTsrc src fun r => { r with queued := r.queued.filter (· ≠ f) }
    | .running => State.settleRun src 8 ((s.abortRun src f).startQueued src)
    | _ => s
  | 4 =>
    let lpc (s : State) := (s.src (s.flSource f)).lpc
    match st with
    | .armed => s.anchorFlight f (lpc s)
    | .queued => s.skipAnchor f (lpc s)
    | .running => s
    | _ =>
      let s := s.armFlight f false
      if (s.flight f).state = .armed then s.anchorFlight f (lpc s) else s
  | _ => s

/-- The state of a Flight at a write of FL_CMD: the commands of a position clock act at its end, the one after the other (03 R137; log 12). -/
def State.flStateAtWrite (s : State) (f : Nat) : FlState :=
  if (s.flight f).cmdAt = some (posClock s.now) then (s.flight f).before else (s.flight f).state

/-- Flight commands of ARMF whose position clock has come, up to `c`, act in issue order (05 R284, R287). -/
def State.armfTo (s : State) (c : Nat) : State :=
  let due := s.tasks.armf.filter fun (x : Nat × Nat × Nat) => posClock x.2.2 ≤ c
  let s := { s with tasks := { s.tasks with armf := s.tasks.armf.filter fun (x : Nat × Nat × Nat) => !(posClock x.2.2 ≤ c) } }
  due.foldl (fun s (x : Nat × Nat × Nat) => s.flCommand x.1 x.2.1) s

/-- An accepted write of FL_CMD acts on the state that the Flight then holds, after the ARMF of its position clock (03 R137; 05 R298). -/
def State.flCmdWrite (s : State) (f cmd : Nat) : State :=
  let s := s.armfTo (posClock s.now)
  (s.updFlight f fun x => { x with cmdAt := some (posClock s.now), before := s.flStateAtWrite f }).flCommand f cmd

/-- Whether FL_CMD has an effect in the state the Flight holds at the write (03 R137). -/
def State.flCommandActs (s : State) (f cmd : Nat) : Bool :=
  match cmd, s.flStateAtWrite f with
  | 1, .idle => true
  | 1, .done => true
  | 2, .armed => true
  | 2, .queued => true
  | 2, .running => true
  | 3, .armed => true
  | 3, .queued => true
  | 3, .running => true
  | 4, .running => false
  | 4, _ => true
  | _, _ => false

/-- Entering Stop or Fault returns armed and queued Flights to IDLE and aborts running ones; no queued Flight starts (03 R136). -/
def State.stopFlights (s : State) : State :=
  let s := { s with treads := { s.treads with srcs := s.treads.srcs.map fun (r : TreadSrc) => { r with queued := [] } } }
  let s := (List.range 4).foldl (fun s i => match (s.tsrc i).running with | some f => s.abortRun i f | none => s) s
  let rest (x : Flight) : Flight := if x.state = .armed ∨ x.state = .queued then { x with state := .idle, skips := [] } else x
  { s with treads := { s.treads with flights := s.treads.flights.map rest } }

/-- Armed Flights whose anchor kind and argument an event matches anchor at a position of their own source (03 R130). -/
def State.anchorEvent (s : State) (kind arg : Nat) (pos : State → Nat → Dword) : State :=
  (List.range 256).foldl (fun s f =>
    if ((s.flight f).state = .armed || (s.flight f).state = .queued) && s.flAnchor f = kind && s.flArg f = arg
    then s.anchorFlight f (pos s (s.flSource f)) else s) s

/-! Presets (02 R95 to R98, 03 R150) -/

/-- Firings of the head that lie behind x̂. -/
def State.behind (s : State) (src : Nat) (e : WinEnt) : Nat :=
  let d := s.ahead src (s.due e)
  let left := s.firingsLeft e.tread e.k
  let pitch := treadPitch (s.tread e.tread) * 2 ^ 32
  if 0 ≤ d then 0
  else if pitch = 0 then left
  else min left ((d.natAbs + pitch - 1) / pitch)

/-- A Tread of Flight f loses `k` firings: counted, and recorded with a cause (03 R150, R175). -/
def State.dropFirings (s : State) (f cause : Nat) (e : WinEnt) (k : Nat) : State :=
  let s := s.miss f k
  if cause = 0 then s else s.ev 0x2022 (leBytes 2 e.tread ++ leBytes 1 f ++ leBytes 1 cause)

/-- The Treads of a Flight from `i` on, as they will enter the window. -/
def State.laterEntries (s : State) (f i : Nat) : List WinEnt :=
  ((List.range (s.flFirst f + s.flLength f - i)).map fun j => s.entryOf f (i + j)).filter fun e => e.k ≤ treadRepeats (s.tread e.tread)

/-- Of the entries, those with firings behind x̂, and how many. -/
def State.behindOf (s : State) (src : Nat) (l : List WinEnt) : List (WinEnt × Nat) :=
  (l.map fun e => (e, s.behind src e)).filter fun e => e.2 ≠ 0

/-- Firings of Treads that have yet to enter a window are taken from Flight f's coming run (03 R150, R163). -/
def State.takeLater (s : State) (src f cause : Nat) (l : List WinEnt) : State × Nat :=
  let out := s.behindOf src l
  let s := out.foldl (fun s e => s.dropFirings f cause e.1 e.2) s
  (s.updFlight f fun x => { x with skips := out.foldl (fun m e => sput 0 m e.1.tread (e.1.k + e.2)) x.skips }, (out.map (·.2)).sum)

/-- Every firing of the running Flight that lies behind x̂ is taken from the run; the Flight completes when none is left. -/
def State.dropRun (s : State) (src f cause : Nat) : State × Nat :=
  let s := s.fillNow src
  let win := (s.tsrc src).window
  let out := s.behindOf src win
  let left := (win.map fun e => { e with k := e.k + s.behind src e }).filter fun e => e.k ≤ treadRepeats (s.tread e.tread)
  let (s, n) := s.takeLater src f cause (s.laterEntries f (s.tsrc src).nextIn)
  let s := out.foldl (fun s e => s.dropFirings f cause e.1 e.2) s
  let s := s.updTsrc src fun r => { r with window := left }
  let k := n + (out.map (·.2)).sum
  if k ≠ 0 && s.runEmpty src f then (s.completeRun src f (s.runLast f), k) else (s, k)

/-- The running Flight, and those that its completion starts, lose their firings behind x̂; `n` bounds the Flights. -/
def State.dropRuns (src cause : Nat) : Nat → State → State × Nat
  | 0, s => (s, 0)
  | n + 1, s =>
    match (s.tsrc src).running with
    | none => (s, 0)
    | some f =>
      let (s, k) := s.dropRun src f cause
      if k = 0 then (s, 0) else let (s, m) := State.dropRuns src cause n s; (s, k + m)

/-- Discard the firings of a source that lie behind x̂, of its queued Flights and of `n` runs; answers the state and how many (03 R150, R163). -/
def State.dropBehind (s : State) (src cause n : Nat) : State × Nat :=
  let (s, a) := (s.tsrc src).queued.foldl (fun (x : State × Nat) f =>
    let (s, k) := x.1.takeLater src f cause (x.1.laterEntries f (x.1.flFirst f)); (s, x.2 + k)) (s, 0)
  let (s, b) := State.dropRuns src cause n s
  (s, a + b)

/-- The Flights of a source anchored before a preset move by its step, and with them the anchor that FL_ANCHOR_POS shows, which is the
model's choice (log 142); firings then behind x̂ are missed (03 R150). -/
def State.shiftFlights (s : State) (src : Nat) (step : Dword) : State :=
  let s := s.fillNow src
  let r := s.tsrc src
  let fs := r.running.toList ++ r.queued
  let s := fs.foldl (fun s f => s.updFlight f fun x => { x with anchor := x.anchor + step }) s
  let s := s.updTsrc src fun r => { r with
    window := r.window.map fun e => if treadRel (s.tread e.tread) then { e with pos := e.pos + step } else e }
  ((s.dropBehind src 2 1).1).judgeHead src

/-- A preset loads the LPC, in one position clock and after the counts of that clock (02 R96, R97). -/
def State.presetLpc (s : State) (i : Nat) (v : Dword) : State :=
  let s := s.takeCounts posClock (s.srcCfg i 2)
  let step := v - (s.src i).lpc
  let s := s.updSrc i fun r => { r with
    lpc := v, x := r.x + step.toInt * 2 ^ 32, homed := true, restored := false, presetStep := step, preset := none }
  (s.ev 0x2015 (leBytes 1 i ++ leBytes 8 step.toNat)).shiftFlights i step

/-- A PRESET_CMD write: 1 now, 2 at the next Z edge of PRESET_ENC, 3 at the next major Landing; it replaces a pending one (02 R95, R98). -/
def State.presetCmd (s : State) (i cmd : Nat) : State :=
  let v := BitVec.ofNat 64 (s.srcCfg i 0x1D)
  match cmd with
  | 1 => s.presetLpc i v
  | 2 => s.updSrc i fun r => { r with preset := some (.atZ v) }
  | 3 => s.updSrc i fun r => { r with preset := some (.atLanding v) }
  | _ => s

/-- Presets that wait for a Z edge of input n apply (02 R95). -/
def State.presetsAtZ (s : State) (n : Nat) : State :=
  (List.range 4).foldl (fun s i =>
    match (s.src i).preset with
    | some (.atZ v) => if s.srcCfg i 0x0F = n then s.presetLpc i v else s
    | _ => s) s

/-- Presets that wait for the major Landing apply (02 R95). -/
def State.presetsAtLanding (s : State) : State :=
  (List.range 4).foldl (fun s i =>
    match (s.src i).preset with
    | some (.atLanding v) => s.presetLpc i v
    | _ => s) s

/-! Placing edges (03 R144, R145, R151 to R154) -/

/-- Time to crossing in ns for a distance d in 2^-32 pu; none where no crossing is predicted (03 R144). -/
def State.tau (s : State) (src : Nat) (d : Int) : Option Rat :=
  let r := s.src src
  let v : Rat := (s.vhat src : Rat) / 2 ^ 32
  let a : Rat := (r.a : Rat) / 2 ^ 32
  let x : Rat := (d : Rat) / 2 ^ 32
  let disc := v * v + 2 * a * x
  if r.standstill ∨ s.vhat src ≤ 0 ∨ disc < 0 then none
  else some (2 * x / (v + sqrtSticky disc) * 1000)

/-- A channel's idle level as configured, and whether it is driven now (03 R151, 12 R609: a standby computes edges and drives none). -/
def State.trgIdle (s : State) (c : Nat) : Bool := s.cfgOn (0x2110 + c) 2
def State.trgDriven (s : State) (c : Nat) : Bool :=
  s.cfgOn (0x2110 + c) 1 && s.live && s.mode ≠ .boot && s.mode ≠ .fault && s.base ≠ .standby

/-- A channel's output changes, and its pins show it while they are driven. -/
def State.trgSet (s : State) (c : Nat) (level : Bool) : State :=
  let s := s.updTrg c fun x => { x with level := level, changedAt := s.now }
  s.when (s.trgDriven c) fun s => s.emit (.trg c level s.now)

/-- An edge is handed to the channel's delay line (03 R145). -/
def State.trgPlace (s : State) (c kind width tread t : Nat) : State :=
  (s.updTrg c fun x => { x with
    pulses := holdMax 32 (x.pulses + 1), edges := x.edges ++ [⟨t, kind, width, tread⟩]
    trailing := some (if kind = 0 then t + width else t) }).result 0 (leBytes 1 c ++ leBytes 8 (s.time + t - s.now))

/-- Commit an edge at offset `dt` ns from now by a shape, or drop it within MIN_GAP of the trailing edge (03 R145, R153). -/
def State.trgCommit (s : State) (c shape tread : Nat) (dt : Int) : State :=
  let skew := s.cfgInt 32 (0x2110 + c) 4
  let gap := s.cfg (0x2110 + c) 3
  let kind := s.cfg (0x2120 + shape) 1
  let width := s.cfg (0x2120 + shape) 2
  let delay := s.cfg (0x2120 + shape) 3
  let t := (max (s.now : Int) ((s.now : Int) + dt + skew + (delay : Int))).toNat
  match (s.treads.trgs.getD c default).trailing with
  | some tr =>
    if t < tr + gap then
      let s := s.updTrg c fun x => { x with overruns := holdMax 32 (x.overruns + 1) }
      let s := { s with treads := { s.treads with overrunTotal := holdMax 32 (s.treads.overrunTotal + 1) } }
      s.ev 0x2023 (leBytes 1 c ++ leBytes 2 tread)
    else s.trgPlace c kind width tread t
  | none => s.trgPlace c kind width tread t

/-- The first committed edge of a channel drives it by its KIND (03 R152). -/
def State.trgEdge (s : State) (c : Nat) : State :=
  let x := s.treads.trgs.getD c default
  match x.edges with
  | [] => s
  | e :: rest =>
    if s.now < e.time then s
    else
      let s := s.updTrg c fun x => { x with edges := rest, pulseEnd := if e.kind = 0 then some (e.time + e.width) else none }
      let idle := s.trgIdle c
      match e.kind with
      | 0 => s.trgSet c (!idle)
      | 1 => s.trgSet c (!idle)
      | 2 => s.trgSet c idle
      | _ => s.trgSet c (!x.level)

/-- A KIND 0 pulse ends at t + WIDTH (03 R152). -/
def State.trgPulseEnd (s : State) (c : Nat) : State :=
  let x := s.treads.trgs.getD c default
  match x.pulseEnd with
  | some t => if s.now < t then s else (s.updTrg c fun x => { x with pulseEnd := none }).trgSet c (s.trgIdle c)
  | none => s

/-- The output moves to the idle level once no edge is pending and no pulse runs: after a new IDLE, and on entering Stop (03 R151, R152). -/
def State.trgIdleChange (s : State) (c : Nat) : State :=
  let x := s.treads.trgs.getD c default
  if x.idleWait && x.edges.isEmpty && x.pulseEnd.isNone then
    (s.updTrg c fun x => { x with idleWait := false }).trgSet c (s.trgIdle c)
  else s

/-- The output of channel c has to move to its idle level. -/
def State.trgToIdle (s : State) (c : Nat) : State := (s.updTrg c fun x => { x with idleWait := true }).trgIdleChange c

/-- Every channel returns to its idle level, after the edges that are committed (03 R135, R151). -/
def State.trgsToIdle (s : State) : State := (List.range 16).foldl State.trgToIdle s

/-- The delay lines of a channel swap, 10 s after the last swap, with no edge in the next 2 µs; after 60 s between two pulses that are
MIN_GAP + 50 ns apart. No edge moves (03 R154). The 60 s count from the last swap, which is the model's choice (log 143). -/
def State.delaySwap (s : State) (c : Nat) : State :=
  let x := s.treads.trgs.getD c default
  let age := s.now - x.swapAt
  let quiet := (x.edges.all fun e => s.now + 2000 < e.time) && (match x.pulseEnd with | some q => s.now + 2000 < q | none => true)
  let apart := x.pulseEnd.isNone && x.edges.all fun e => s.now < e.time && x.changedAt + s.cfg (0x2110 + c) 3 + 50 ≤ e.time
  if (10000000000 ≤ age && quiet) || (60000000000 ≤ age && apart) then
    s.updTrg c fun x => { x with swapAt := s.now, lineB := !x.lineB }
  else s

/-- STATE of a Tread (03 R174). -/
def State.treadState (s : State) (i : Nat) : Nat :=
  match s.flightOf i with
  | none => 0
  | some f =>
    let r := (s.fillNow (s.flSource f)).tsrc (s.flSource f)
    if (s.flight f).state ≠ .running then 1
    else if r.window.any (fun e => e.tread = i) then
      match r.window with
      | e :: _ => if e.tread = i && treadRepeats (s.tread i) ≠ 0 then 3 else 2
      | [] => 2
    else if i < r.nextIn then 4 else 1

/-- REMAINING of a Tread: firings still to come in this run, minus one (03 R174). -/
def State.treadRemaining (s : State) (i : Nat) : Nat :=
  match s.treadState i with
  | 0 => 0
  | 4 => 0
  | 1 => treadRepeats (s.tread i)
  | _ =>
    match s.flightOf i with
    | none => 0
    | some f =>
      match ((s.fillNow (s.flSource f)).tsrc (s.flSource f)).window.find? (fun e => e.tread = i) with
      | some e => s.firingsLeft i e.k - 1
      | none => 0

end Sys2Proof.Machine
end

