-- ==== Sys2Proof/Machine/Hall.lean ====
section
/-! DEFINITION. The live Hall, its spaces, forcing and the sections that tasks copy (04 R176 to R216). -/
namespace Sys2Proof.Machine

/-- First flat address of a space (04 R176). -/
def spaceBase : Space → Nat
  | .hi => 0 | .ho => 0x40000 | .hm => 0x80000 | .wi => 0 | .wo => 0x10000 | .wm => 0x20000 | .hs => 0
/-- Points of a space (04 R176, R237). -/
def spaceSize : Space → Nat
  | .hi => 262144 | .ho => 262144 | .hm => 524288 | .wi => 65536 | .wo => 65536 | .wm => 131072 | .hs => 4096
def spaceIsBit : Space → Bool
  | .hi => true | .ho => true | .hm => true | _ => false

/-- The space that a window or force selector names (04 R240). -/
def spaceOf : Nat → Option Space
  | 0 => some .hi | 1 => some .ho | 2 => some .hm | 3 => some .wi | 4 => some .wo | 5 => some .wm | 6 => some .hs | _ => none

def State.liveBit (s : State) (a : Nat) : Bool := sget false s.hall.bits a
def State.liveWord (s : State) (a : Nat) : Word := sget 0 s.hall.words a

/-- The live Hall as a reader sees it: a write of the present core clock does not show yet (01 R24). -/
def State.seenBits (s : State) : List (Nat × Bool) := if s.hall.wroteAt = some (coreClock s.now) then s.hall.wasBits else s.hall.bits
def State.seenWords (s : State) : List (Nat × Word) := if s.hall.wroteAt = some (coreClock s.now) then s.hall.wasWords else s.hall.words
def State.seenBit (s : State) (a : Nat) : Bool := sget false s.seenBits a
def State.seenWord (s : State) (a : Nat) : Word := sget 0 s.seenWords a

/-- Before a write: the first one of a core clock keeps the stores as they stand (01 R24). -/
def State.beforeWrite (s : State) : State :=
  if s.hall.wroteAt = some (coreClock s.now) then s
  else { s with hall := { s.hall with wroteAt := some (coreClock s.now), wasBits := s.hall.bits, wasWords := s.hall.words, landed := [] } }

/-- (live AND NOT mask) OR (value AND mask) of one bit (04 R208). -/
def State.forceBit (s : State) (a : Nat) (v : Bool) : Bool :=
  if sget false s.hall.maskBits a then sget false s.hall.valueBits a else v
/-- (live AND NOT mask) OR (value AND mask) of a word (04 R208). -/
def State.forceWord (s : State) (a : Nat) (v : Word) : Word :=
  let m := sget 0 s.hall.maskWords a
  (v &&& ~~~ m) ||| (sget 0 s.hall.valueWords a &&& m)

/-- What a reader sees of a bit point: input points are forced, others are as they stand (04 R208, R210). -/
def State.viewBit (s : State) (a : Nat) : Bool := if a < 0x40000 then s.forceBit a (s.seenBit a) else s.seenBit a
def State.viewWord (s : State) (a : Nat) : Word := if a < 0x10000 then s.forceWord a (s.seenWord a) else s.seenWord a

/-- Write a bit point: output points take the forced value (04 R210), input points keep the sample. -/
def State.putBit (s : State) (a : Nat) (v : Bool) : State :=
  let v := if 0x40000 ≤ a ∧ a < 0x80000 then s.forceBit a v else v
  let s := s.beforeWrite
  { s with hall := { s.hall with bits := sput false s.hall.bits a v } }
def State.putWord (s : State) (a : Nat) (v : Word) : State :=
  let v := if 0x10000 ≤ a ∧ a < 0x20000 then s.forceWord a v else v
  let s := s.beforeWrite
  { s with hall := { s.hall with words := sput 0 s.hall.words a v } }

/-- The stores as a copy-in sees them: what a copy-back wrote in the present core clock stands in them already (01 R24, R26). -/
def State.copiedBits (s : State) : List (Nat × Bool) :=
  if s.hall.wroteAt = some (coreClock s.now) then
    (s.hall.landed.filter fun r => spaceIsBit r.space).foldl (fun m r =>
      sblit m s.hall.bits (spaceBase r.space + r.off) (spaceBase r.space + r.off) r.len) s.hall.wasBits
  else s.hall.bits
def State.copiedWords (s : State) : List (Nat × Word) :=
  if s.hall.wroteAt = some (coreClock s.now) then
    (s.hall.landed.filter fun r => !spaceIsBit r.space).foldl (fun m r =>
      sblit m s.hall.words (spaceBase r.space + r.off) (spaceBase r.space + r.off) r.len) s.hall.wasWords
  else s.hall.words

/-- The bit store as a copy-in sees it, with forcing. -/
def State.viewBits (s : State) : List (Nat × Bool) :=
  soverlay false s.copiedBits (s.hall.maskBits.filter fun e => e.1 < 0x40000) fun _ a _ => sget false s.hall.valueBits a
/-- The word store as a copy-in sees it, with forcing. -/
def State.viewWords (s : State) : List (Nat × Word) :=
  soverlay 0 s.copiedWords (s.hall.maskWords.filter fun e => e.1 < 0x10000) fun v a _ => s.forceWord a v

/-! Canonical form of the memory: the Hall, its force tables and the task images -/

/-- The stores of the Hall are canonical. -/
def hallWf (h : Hall) : Bool :=
  swf false h.bits && swf 0 h.words && swf false h.maskBits && swf false h.valueBits && swf 0 h.maskWords && swf 0 h.valueWords
    && swf false h.wasBits && swf 0 h.wasWords
/-- A task's image is canonical. -/
def imageWf (x : TaskSt) : Bool := swf false x.bits && swf 0 x.words
/-- The memory of the module is canonical. -/
def State.memWf (s : State) : Bool := hallWf s.hall && s.tasks.tasks.all imageWf

/-- A Hall and a task image that arrive from the partner, in canonical form. -/
def canonHall (h : Hall) : Hall :=
  { h with
    bits := snorm false h.bits, words := snorm 0 h.words, maskBits := snorm false h.maskBits, valueBits := snorm false h.valueBits
    maskWords := snorm 0 h.maskWords, valueWords := snorm 0 h.valueWords
    wasBits := snorm false h.wasBits, wasWords := snorm 0 h.wasWords }
def canonTask (x : TaskSt) : TaskSt := { x with bits := snorm false x.bits, words := snorm 0 x.words }

/-! Packing (04 R238) -/

/-- Eight or fewer bits as a byte, least significant first. -/
def packByte (l : List Bool) : Byte := BitVec.ofNat 8 (l.foldr (fun b n => 2 * n + ofBool b) 0)
/-- Bits packed least significant first, the last byte padded with zeros; `n` bounds the bytes. -/
def packBits : Nat → List Bool → Bytes
  | 0, _ => []
  | n + 1, l => if l.isEmpty then [] else packByte (l.take 8) :: packBits n (l.drop 8)
/-- The bits of bytes, least significant first. -/
def unpackBits (b : Bytes) : List Bool := b.flatMap fun x => (List.range 8).map x.getLsbD
/-- Little-endian words of bytes; `n` bounds the count. -/
def unpackWords : Nat → Bytes → List Word
  | 0, _ => []
  | n + 1, b => if b.isEmpty then [] else BitVec.ofNat 32 (leNat (b.take 4)) :: unpackWords n (b.drop 4)
def packWords (l : List Word) : Bytes := l.flatMap fun w => leBytes 4 w.toNat

/-- `n` bit points of a store from a flat address, packed. -/
def bitsAt (m : List (Nat × Bool)) (a n : Nat) : Bytes := packBits n (sgets false m a n)
/-- `n` word points of a store from a flat address, packed. -/
def wordsAt (m : List (Nat × Word)) (a n : Nat) : Bytes := packWords (sgets 0 m a n)

/-! Forcing (04 R207 to R216) -/

/-- BIT_POINTS and WORD_POINTS (04 R233). -/
def State.bitPoints (s : State) : Nat := s.hall.maskBits.length
def State.wordPoints (s : State) : Nat := s.hall.maskWords.length
/-- FORCED: some mask bit is in force (01 R31). -/
def State.forced (s : State) : Bool := !s.hall.maskBits.isEmpty || !s.hall.maskWords.isEmpty

/-- Empty every force table. -/
def State.emptyForces (s : State) : State :=
  { s with hall := { s.hall with maskBits := [], valueBits := [], maskWords := [], valueWords := [] } }

/-- Entering Stop, Fault or Boot clears every force table; FORCING_ENDED is recorded if any mask bit was set (04 R215). -/
def State.clearForces (s : State) : State :=
  if s.forced then s.emptyForces.ev 0x1031 (leBytes 1 2) else s.emptyForces

/-- One staged change applies (04 R212). -/
def State.forceChange (s : State) : ForceChange → State
  | .clear => s.emptyForces
  | .mask sp off d =>
    if spaceIsBit sp then { s with hall := { s.hall with maskBits := sputs false s.hall.maskBits (spaceBase sp + off) (unpackBits d) } }
    else { s with hall := { s.hall with maskWords := sputs 0 s.hall.maskWords (spaceBase sp + off) (unpackWords d.length d) } }
  | .value sp off d =>
    if spaceIsBit sp then { s with hall := { s.hall with valueBits := sputs false s.hall.valueBits (spaceBase sp + off) (unpackBits d) } }
    else { s with hall := { s.hall with valueWords := sputs 0 s.hall.valueWords (spaceBase sp + off) (unpackWords d.length d) } }

/-- A MASK and a VALUE for one space and offset that cover different numbers of points (04 R216). -/
def forceMismatch (l : List ForceChange) : Bool :=
  l.any fun a => l.any fun b =>
    match a, b with
    | .mask s1 o1 d1, .value s2 o2 d2 => s1 = s2 && o1 = o2 && d1.length ≠ d2.length
    | _, _ => false

/-- Forcing has started or ended, where `was` tells whether it was in force before (01 R31, R32; 04 R242). -/
def State.forceEvents (s : State) (was : Bool) : State :=
  if !was && s.forced then
    ({ s with hall := { s.hall with forcedSince := s.time } }).ev 0x1030 (leBytes 4 s.bitPoints ++ leBytes 4 s.wordPoints)
  else if was && !s.forced then s.ev 0x1031 (leBytes 1 1)
  else s

/-- The force tables as a delta carries them, and as a standby takes them (04 R214). -/
def State.forces (s : State) : Forces := ⟨s.hall.maskBits, s.hall.valueBits, s.hall.maskWords, s.hall.valueWords⟩
def State.takeForces (s : State) (x : Forces) : State :=
  ({ s with hall := { s.hall with
    maskBits := snorm false x.maskBits, valueBits := snorm false x.valueBits, maskWords := snorm 0 x.maskWords
    valueWords := snorm 0 x.valueWords } }).forceEvents s.forced

/-- Staged force changes apply in acceptance order (04 R212). -/
def State.applyForces (s : State) (l : List ForceChange) : State := (l.foldl State.forceChange s).forceEvents s.forced

/-! Copies (04 R199 to R204) -/

/-- Clocks of one section's copy (04 R202). -/
def sectionClocks (x : Section) : Nat :=
  let b := if spaceIsBit x.space then x.len else 32 * x.len
  if b = 0 then 0 else (b + 255) / 256 + 8
/-- COPY_IN_NS or COPY_OUT_NS by R202: 2 ns per clock. -/
def copyNs (l : List Section) : Nat := 2 * (l.map sectionClocks).sum

/-- Copy sections of the Hall into a task's image; `hs` is the system area (04 R184, R199). -/
def State.copySections (s : State) (hs : Nat → Word) (l : List Section) (t : TaskSt) : TaskSt :=
  let vb := s.viewBits
  let vw := s.viewWords
  l.foldl (fun t x =>
    match x.space with
    | .hs => { t with words := sputs 0 t.words x.img ((List.range x.len).map fun j => hs (x.off + j)) }
    | sp =>
      if spaceIsBit sp then { t with bits := sblit t.bits vb x.img (spaceBase sp + x.off) x.len }
      else { t with words := sblit t.words vw x.img (spaceBase sp + x.off) x.len }) t

/-- Copy a task's output sections back to the live Hall, with output forcing applied (04 R204, R210). -/
def State.copyBack (s : State) (l : List Section) (t : TaskSt) : State :=
  let s := s.beforeWrite
  let h := l.foldl (fun (h : Hall) x =>
    if spaceIsBit x.space then { h with bits := sblit h.bits t.bits (spaceBase x.space + x.off) x.img x.len }
    else { h with words := sblit h.words t.words (spaceBase x.space + x.off) x.img x.len }) s.hall
  let touched (a : Nat) (bit : Bool) : Bool := l.any fun x =>
    spaceIsBit x.space == bit && spaceBase x.space + x.off ≤ a && a < spaceBase x.space + x.off + x.len
  let fb := (s.hall.maskBits.filter fun e => 0x40000 ≤ e.1 && touched e.1 true)
  let fw := (s.hall.maskWords.filter fun e => 0x10000 ≤ e.1 && touched e.1 false)
  { s with hall := { h with
      bits := soverlay false h.bits fb fun _ a _ => sget false s.hall.valueBits a
      words := soverlay 0 h.words fw fun v a _ => s.forceWord a v
      landed := h.landed ++ l.map fun x => ⟨x.space, x.off, x.len⟩ } }

/-- Write bytes to Hall ranges, as a received frame or a window write does: whole, at once (04 R203). -/
def State.putRange (s : State) (r : Range) (d : Bytes) : State :=
  if spaceIsBit r.space then
    ((unpackBits d).take r.len).zipIdx.foldl (fun s e => s.putBit (spaceBase r.space + r.off + e.2) e.1) s
  else ((unpackWords d.length d).take r.len).zipIdx.foldl (fun s e => s.putWord (spaceBase r.space + r.off + e.2) e.1) s

/-- Bytes that a range takes in a frame: bits packed and padded to a whole byte, words of 4 bytes. -/
def rangeBytes (r : Range) : Nat := if spaceIsBit r.space then (r.len + 7) / 8 else 4 * r.len

/-- The live bytes of a range. -/
def State.getRange (s : State) (r : Range) : Bytes :=
  if spaceIsBit r.space then bitsAt s.hall.bits (spaceBase r.space + r.off) r.len
  else wordsAt s.hall.words (spaceBase r.space + r.off) r.len

end Sys2Proof.Machine
end

