-- ==== Sys2Proof/Machine/Loops.lean ====
section
/-! DEFINITION. The Loop Engine: samples, the five stages, soft start and gain tables (07). -/
namespace Sys2Proof.Machine

def State.loop (s : State) (n : Nat) : LoopSt := sget default s.loops.loops n
def State.setLoop (s : State) (n : Nat) (x : LoopSt) : State :=
  { s with loops := { s.loops with loops := sput default s.loops.loops n x } }

/-- Configuration of loop n (07 R389). -/
def State.loopCfg (s : State) (n sub : Nat) : Nat := s.cfg (0x4000 + n) sub
def State.loopBfp (s : State) (n sub : Nat) : Bfp := bfpOfWord (BitVec.ofNat 32 (s.loopCfg n sub))

/-- CLASS: without a Plan no loop is declared (07 R348). -/
def State.loopClass (s : State) (n : Nat) : Nat := if s.plans.active.isNone then 0xFF else s.loopCfg n 0x0E
def State.loopDeclared (s : State) (n : Nat) : Bool := s.loopClass n ≠ 0xFF
def State.loopGroup (s : State) (n : Nat) : Nat := s.loopCfg n 0x0F
def State.loopOn (s : State) (n : Nat) : Bool := s.loopCfg n 1 ≠ 0

/-- Members of group g, and every declared loop, in ascending number (07 R382). -/
def State.groupLoops (s : State) (g : Nat) : List Nat := (List.range 2048).filter fun n => s.loopDeclared n && s.loopGroup n = g
def State.allLoops (s : State) : List Nat := (List.range 2048).filter s.loopDeclared

/-- The module evaluates loops in its mode (07 R357); the pause of an update is checked where it acts. -/
def State.loopsRun (s : State) : Bool :=
  s.live && (s.base = .run || s.base = .edit || s.base = .standby) && !s.held && !s.plans.active.isNone

/-! Points (07 R359, R360, R368) -/

def pointAddr (p : Nat) : Nat := p % 2 ^ 18
def pointFormat (p : Nat) : Nat := p / 2 ^ 24 % 4
def pointNone (p : Nat) : Bool := p = 0xFFFFFFFF

/-- A word in F32 format that is a NaN or an infinity: such a process value is PV_BAD (07 R361). -/
def pointBad (fmt : Nat) (w : Word) : Bool := fmt = 0 && !f32Finite w
def pointNaN (fmt : Nat) (w : Word) : Bool := fmt = 0 && f32IsNaN w

/-- An input word in a point's format as BFP; an infinity lies beyond the BFP range and saturates, a NaN is taken as 0 where
its user says so (07 R360, R375). -/
def pointIn (fmt : Nat) (w : Word) : BfpRes :=
  match fmt with
  | 0 =>
    if f32IsNaN w then ⟨⟨0, 0⟩, false, false⟩
    else if f32IsInf w then ⟨⟨if f32Sign w then -(2 ^ 23) else 2 ^ 23 - 1, 127⟩, true, false⟩
    else bfpRound (f32Val w)
  | 1 => bfpRound (w.toInt : Rat)
  | _ => ⟨bfpOfWord w, false, false⟩

/-- A BFP value in a point's format (07 R368). -/
def pointOut (fmt : Nat) (b : Bfp) : Word :=
  match fmt with
  | 0 => bfpToF32 b
  | 1 => bfpToI32 b
  | _ => bfpWord b

/-! Samples (07 R351 to R355) -/

/-- The place of a sample in the order: Tread samples as latched, then classes by class and loop number (07 R353). -/
def sampleBefore (a b : LoopSample) : Bool :=
  if a.tread then true
  else if b.tread then false
  else a.cls < b.cls || (a.cls = b.cls && a.loop ≤ b.loop)

def insertSample : List LoopSample → LoopSample → List LoopSample
  | [], x => [x]
  | y :: ys, x => if sampleBefore y x then y :: insertSample ys x else x :: y :: ys

/-- A sample of loop n waits: a waiting one is replaced in its place, with an overrun (07 R353, R355). -/
def State.putSample (s : State) (n : Nat) (x : LoopSample) : State :=
  if s.loops.waiting.any (fun y => y.loop = n) then
    let s := { s with loops := { s.loops with
      waiting := s.loops.waiting.map fun (y : LoopSample) => if y.loop = n then x else y
      overruns := holdMax 32 (s.loops.overruns + 1) } }
    let l := s.loop n
    let s := s.setLoop n { l with overruns := holdMax 32 (l.overruns + 1) }
    s.ev 0x4001 (leBytes 2 n ++ leBytes 4 (s.loop n).overruns)
  else { s with loops := { s.loops with
    waiting := if x.tread then (s.loops.waiting.filter (·.tread)) ++ x :: s.loops.waiting.filter (fun y => !y.tread)
      else insertSample s.loops.waiting x } }

/-- The offset that a sample takes: one of the present core clock does not show yet (01 R27). -/
def State.offsetSeen (s : State) (n : Nat) : Word :=
  let l := s.loop n
  if l.offsetAt = some (coreClock s.now) then l.offsetWas else l.offset

/-- A loop with a new offset at a core clock; the first change of the clock keeps the old one (01 R27). -/
def putOffset (clock : Nat) (x : Word) (l : LoopSt) : LoopSt :=
  if l.offsetAt = some clock then { l with offset := x } else { l with offset := x, offsetWas := l.offset, offsetAt := some clock }

/-- ENABLE as a sample of the present core clock sees it (07 R388). -/
def State.loopSeenOn (s : State) (n : Nat) : Bool :=
  let l := s.loop n
  if l.onAt = some (coreClock s.now) then l.onWas else s.loopOn n

def State.gainTable (s : State) (k : Nat) : List GainPoint := sget [] s.loops.gains k

/-- The engine, once free, begins the evaluation at the front with what then stands; it ends 100 ns later. One latched in the present core clock
has not begun, since others of that clock may come before it (07 R352, R353, R388). -/
def State.engineBegin (s : State) : State :=
  match s.loops.current, s.loops.waiting with
  | none, x :: rest =>
    if coreClock s.now ≤ coreClock x.at_ then s
    else { s with loops := { s.loops with
      waiting := rest
      current := some ⟨x, (List.range 0x13).map (s.loopCfg x.loop), s.gainTable (s.loopCfg x.loop 4), max s.loops.freeAt x.at_ + 100⟩ } }
  | _, _ => s

/-- Latch a sample of loop n: PV and set-point in the forced view; the BFP value of a set-point that is a NaN is a free value (07 R351, R360; log 4). -/
def State.latch (s : State) (n : Nat) (tread : Bool) : State :=
  if !s.loopSeenOn n || !s.loopDeclared n || !s.loopsRun then s
  else
    let s := s.engineBegin
    let pv := s.viewWord (pointAddr (s.loopCfg n 0x10))
    let spp := s.loopCfg n 0x11
    let put (s : State) (sp : BfpRes) : State :=
      s.putSample n ⟨n, tread, s.loopClass n, pv, bfpWord sp.val, sp.ovf, s.offsetSeen n, s.time, s.now⟩
    if pointNone spp then put s ⟨s.loopBfp n 2, false, false⟩
    else
      let w := s.viewWord (pointAddr spp)
      if pointNaN (pointFormat spp) w then put s.spend ⟨bfpOfWord (s.free 32), false, false⟩
      else put s (pointIn (pointFormat spp) w)

/-- The members of a rate class latch in one core clock (07 R350, R351). -/
def State.classTick (s : State) (k : Nat) : State :=
  ((List.range 2048).filter fun n => s.loopClass n = k).foldl (fun s n => s.latch n false) s

/-- A SAMPLE or SAMPLE_GROUP Tread latches Tread-sampled loops; a member of a rate class is sampled by its class alone (07 R348, R351;
log 147). -/
def State.sampleLoop (s : State) (n : Nat) : State := if s.loopClass n = 8 then s.latch n true else s
def State.sampleGroup (s : State) (g : Nat) : State := (s.groupLoops g).foldl State.sampleLoop s

/-- Waiting samples are discarded; an evaluation that has begun completes (07 R353, R357). -/
def State.dropSamples (s : State) : State :=
  let s := s.engineBegin
  { s with loops := { s.loops with waiting := [] } }

/-- Entering Run or Edit from Stop, Boot or Fault enables every loop whose ENABLE is 1: a soft start follows (07 R375, R376). -/
def State.softStartAll (s : State) : State :=
  s.allLoops.foldl (fun s n => if s.loopOn n then s.setLoop n { s.loop n with soft := true } else s) s

/-! Gain tables (07 R370, R387, R392) -/

/-- c and s of the segment from point p to point q, formed in binary64 and rounded once to BFP (07 R370). -/
def gainSegment (p q : GainPoint) : Bfp × Bfp :=
  let x0 := bfpVal (bfpOfWord p.x); let g0 := bfpVal (bfpOfWord p.g)
  let x1 := bfpVal (bfpOfWord q.x); let g1 := bfpVal (bfpOfWord q.g)
  let sl := rnd64 (rnd64 (g1 - g0) / rnd64 (x1 - x0))
  ((bfpRound (rnd64 (g0 - rnd64 (sl * x0)))).val, (bfpRound sl).val)

/-- The constants c and s that hold for a magnitude of error (07 R370). -/
def gainFor : List GainPoint → Rat → Bfp × Bfp
  | [], _ => ((bfpRound 1).val, ⟨0, 0⟩)
  | [p], _ => (bfpOfWord p.g, ⟨0, 0⟩)
  | p :: q :: ps, x =>
    if x < bfpVal (bfpOfWord p.x) then (bfpOfWord p.g, ⟨0, 0⟩)
    else if x < bfpVal (bfpOfWord q.x) then gainSegment p q
    else gainFor (q :: ps) x

/-- Why a staged table is rejected: 1 order, 2 a negative breakpoint (07 R387). -/
def gainReject (l : List GainPoint) : Option Nat :=
  let xs := l.map fun p => bfpVal (bfpOfWord p.x)
  if (xs.zip (xs.drop 1)).any (fun p => p.2 ≤ p.1) then some 1
  else if xs.headD 0 < 0 then some 2 else none

/-- A GAIN_DATA block as points (07 R392); its length has been checked. -/
def gainPoints (b : Bytes) : List GainPoint :=
  (List.range (leNat (b.take 1))).map fun i =>
    ⟨BitVec.ofNat 32 (leNat ((b.drop (4 + 8 * i)).take 4)), BitVec.ofNat 32 (leNat ((b.drop (8 + 8 * i)).take 4))⟩

/-- A table as a GAIN_DATA block (07 R392). -/
def gainBytes (l : List GainPoint) : Bytes :=
  leBytes 4 l.length ++ l.flatMap fun p => leBytes 4 p.x.toNat ++ leBytes 4 p.g.toNat

/-- A staged gain table applies or is rejected with event 0x4003 (07 R387, R393). -/
def State.applyGain (s : State) (k : Nat) (l : List GainPoint) : State :=
  match gainReject l with
  | some c => s.ev 0x4003 (leBytes 1 k ++ leBytes 1 c)
  | none => { s with loops := { s.loops with gains := sput [] s.loops.gains k (l.map fun p => ⟨bfpWord (bfpOfWord p.x), bfpWord (bfpOfWord p.g)⟩) } }

/-! The evaluation (07 R362 to R372) -/

/-- The constants of a loop taken when its evaluation begins (07 R352). -/
structure LoopPar where
  rampStep : Bfp
  kp : Bfp
  ki : Bfp
  kd : Bfp
  kf : Bfp
  iMin : Bfp
  iMax : Bfp
  outMin : Bfp
  outMax : Bfp
  outRate : Bfp
  table : List GainPoint
deriving DecidableEq, Repr, Inhabited

def loopPar (e : Evaluating) : LoopPar :=
  let f (sub : Nat) : Bfp := bfpOfWord (BitVec.ofNat 32 (e.cfg.getD sub 0))
  ⟨f 3, f 5, f 6, f 7, f 8, f 9, f 0x0A, f 0x0B, f 0x0C, f 0x0D, e.table⟩

/-- What the evaluation starts from and ends with. -/
structure LoopVal where
  spRamped : Bfp
  pvFilt   : Bfp
  error    : Bfp
  gain     : Bfp
  iTerm    : Bfp
  output   : Bfp
  status   : Nat
deriving DecidableEq, Repr, Inhabited

/-- STATUS bits (07 R380). -/
def stSatHi : Nat := 2
def stSatLo : Nat := 4
def stRate : Nat := 8
def stWindHi : Nat := 16
def stWindLo : Nat := 32
def stRamping : Nat := 64
def stOvf : Nat := 128
def stUnf : Nat := 256
def stPvBad : Nat := 512
def stSoft : Nat := 1024

def stOf (b : Bool) (k : Nat) : Nat := if b then k else 0
/-- OVF and UNF of a kept result (07 R366). -/
def stKept (r : BfpRes) : Nat := Nat.lor (stOf r.ovf stOvf) (stOf r.unf stUnf)

/-- Stage 1, the set-point ramp: SP_RAMPED kept, and status (07 R369, R374). RAMPING compares the exact sum with the target, before SP_RAMPED is
rounded (log 147). -/
def stage1 (p : LoopPar) (sp offset ramped : Bfp) : BfpRes × Nat :=
  match bfpStage [sp, offset, ramped] with
  | none => (⟨⟨0, 0⟩, false, false⟩, 0)
  | some E =>
    let target := bfpAlign E sp + bfpAlign E offset
    let r := bfpAlign E ramped
    let diff := bfpAt E (target - r)
    let lim := bfpVal p.rampStep
    let d := if lim < diff then bfpAlign E p.rampStep else if diff < -lim then -bfpAlign E p.rampStep else target - r
    let k := bfpRound (bfpAt E (r + d))
    (k, Nat.lor (stKept k) (stOf (r + d ≠ target) stRamping))

/-- Stage 2, error and filter: ERROR, PV_FILT and ΔF kept (07 R369). -/
def stage2 (p : LoopPar) (ramped pv filt : Bfp) : BfpRes × BfpRes × BfpRes × Nat :=
  let ka := (bfpRound (rnd64 (1 - bfpVal p.kf))).val
  let a := bfpMul ka filt
  let b := bfpMul p.kf pv
  let z : BfpRes := ⟨⟨0, 0⟩, false, false⟩
  match bfpStage [ramped, pv, a.val, b.val] with
  | none => (z, z, z, Nat.lor (stKept a) (stKept b))
  | some E =>
    let err := bfpRound (bfpAt E (bfpAlign E ramped - bfpAlign E pv))
    let new := bfpAlign E a.val + bfpAlign E b.val
    let f := bfpRound (bfpAt E new)
    let d := bfpRound (bfpAt E (bfpAlign E filt - new))
    (err, f, d, Nat.lor (Nat.lor (stKept a) (stKept b)) (Nat.lor (stKept err) (Nat.lor (stKept f) (stKept d))))

/-- Stage 3, the gain (07 R370). -/
def stage3 (p : LoopPar) (err : Bfp) : BfpRes × Nat :=
  let x := absRat (bfpVal err)
  let (c, sl) := gainFor p.table x
  let m := bfpMul sl (bfpRound x).val
  match bfpStage [c, m.val] with
  | none => (⟨⟨0, 0⟩, false, false⟩, stKept m)
  | some E =>
    let g := bfpRound (bfpAt E (bfpAlign E c + bfpAlign E m.val))
    (g, Nat.lor (stKept m) (stKept g))

/-- Stage 4, the terms P, I_TERM and D (07 R369, R371). Where both addends that set E are zero, I_TERM is zero; P and D are products that need no E
and keep their values (log 147). -/
def stage4 (p : LoopPar) (err gain dF iTerm : Bfp) : Bfp × BfpRes × Bfp × Nat :=
  let g := bfpMul p.kp gain
  let pt := bfpMul g.val err
  let dt := bfpMul p.kd dF
  let inc := bfpMul p.ki err
  let st := Nat.lor (Nat.lor (stKept g) (stKept pt)) (Nat.lor (stKept dt) (stKept inc))
  match bfpStage [iTerm, inc.val] with
  | none => (pt.val, ⟨⟨0, 0⟩, false, false⟩, dt.val, st)
  | some E =>
    let sum := bfpAlign E iTerm + bfpAlign E inc.val
    let x := bfpAt E sum
    let (n, w) : Int × Nat :=
      if bfpVal p.iMax < x then (bfpAlign E p.iMax, stWindHi)
      else if x < bfpVal p.iMin then (bfpAlign E p.iMin, stWindLo) else (sum, 0)
    let k := bfpRound (bfpAt E n)
    (pt.val, k, dt.val, Nat.lor st (Nat.lor w (stKept k)))

/-- Stage 5, the output (07 R369, R372). -/
def stage5 (p : LoopPar) (pt it dt prev : Bfp) : BfpRes × Nat :=
  match bfpStage [pt, it, dt, prev] with
  | none => (⟨⟨0, 0⟩, false, false⟩, 0)
  | some E =>
    let o := bfpAlign E prev
    let u := bfpAlign E pt + bfpAlign E it + bfpAlign E dt
    let lim := bfpVal p.outRate
    let diff := bfpAt E (u - o)
    let (d, r) : Int × Bool :=
      if lim < diff then (bfpAlign E p.outRate, true) else if diff < -lim then (-bfpAlign E p.outRate, true) else (u - o, false)
    let u := o + d
    let x := bfpAt E u
    let (n, w) : Int × Nat :=
      if bfpVal p.outMax < x then (bfpAlign E p.outMax, stSatHi)
      else if x < bfpVal p.outMin then (bfpAlign E p.outMin, stSatLo) else (u, 0)
    let k := bfpRound (bfpAt E n)
    (k, Nat.lor (stOf r stRate) (Nat.lor w (stKept k)))

/-- The five stages on a finite process value (07 R369). -/
def evaluate (p : LoopPar) (sp offset pv : Bfp) (v : LoopVal) : LoopVal :=
  let (r1, s1) := stage1 p sp offset v.spRamped
  let (err, f, d, s2) := stage2 p r1.val pv v.pvFilt
  let (g, s3) := stage3 p err.val
  let (pt, it, dt, s4) := stage4 p err.val g.val d.val v.iTerm
  let (o, s5) := stage5 p pt it.val dt v.output
  ⟨r1.val, f.val, err.val, g.val, it.val, o.val, Nat.lor (Nat.lor s1 s2) (Nat.lor s3 (Nat.lor s4 s5))⟩

/-- What a soft start sets before stage 1: the value of OUT_POINT in the live Hall, a NaN taken as 0; its conversion may saturate (07 R375, R380). -/
def State.softVal (s : State) (n : Nat) (p : LoopPar) (pv : Bfp) : LoopVal :=
  let op := s.loopCfg n 0x12
  let r := pointIn (pointFormat op) (s.seenWord (pointAddr op))
  let out := r.val
  let i := if bfpVal p.iMax < bfpVal out then p.iMax else if bfpVal out < bfpVal p.iMin then p.iMin else out
  ⟨pv, pv, ⟨0, 0⟩, ⟨0, 0⟩, i, out, stOf r.ovf stOvf⟩

/-- Count an evaluation for EVALS_TOTAL and BUSY (07 R391). The last second of BUSY is the last whole second of monotonic time (DESIGN CHOICE,
log 147). -/
def State.countEval (s : State) : State :=
  let slot := s.mono / 1000000000
  let l := s.loops
  let l := if l.busySlot = slot then { l with busyAcc := l.busyAcc + 1 }
    else { l with busyLast := if l.busySlot + 1 = slot then l.busyAcc else 0, busySlot := slot, busyAcc := 1 }
  { s with loops := { l with evals := holdMax 64 (l.evals + 1) } }

/-- The output reaches OUT_POINT with output forcing, unless this module suppresses outputs (07 R354, R357, R368). -/
def State.loopWrite (s : State) (n : Nat) (o : Bfp) : State :=
  let op := s.loopCfg n 0x12
  s.putWord (pointAddr op) (pointOut (pointFormat op) o)

/-- Evaluate one sample (07 R360, R361, R369, R375). -/
def State.evalSample (s : State) (e : Evaluating) : State :=
  let x := e.sample
  let n := x.loop
  let l := s.loop n
  let s := s.countEval
  let fmt := pointFormat (e.cfg.getD 0x10 0)
  if pointBad fmt x.pv then s.setLoop n { l with status := stPvBad, evals := holdMax 32 (l.evals + 1), stamp := x.stamp }
  else
    let pv := pointIn fmt x.pv
    let p := loopPar e
    let v : LoopVal :=
      if l.soft then s.softVal n p pv.val
      else ⟨bfpOfWord l.spRamped, bfpOfWord l.pvFilt, bfpOfWord l.error, bfpOfWord l.gain, bfpOfWord l.iTerm, bfpOfWord l.output, 0⟩
    let r := evaluate p (bfpOfWord x.sp) (bfpOfWord x.offset) pv.val v
    let st := Nat.lor (Nat.lor r.status v.status) (Nat.lor (stKept pv) (Nat.lor (stOf x.spOvf stOvf) (stOf l.soft stSoft)))
    let s := s.setLoop n { l with
      spRamped := bfpWord r.spRamped, pv := bfpWord pv.val, pvFilt := bfpWord r.pvFilt, error := bfpWord r.error
      gain := bfpWord r.gain, iTerm := bfpWord r.iTerm, output := bfpWord r.output, status := st
      evals := holdMax 32 (l.evals + 1), stamp := x.stamp, soft := false }
    (s.loopWrite n r.output).result 2 (leBytes 2 n ++ leBytes 4 (pointOut (pointFormat (s.loopCfg n 0x12)) r.output).toNat)

/-- The evaluation in progress ends: state and output are stored (07 R354); the engine is then free. -/
def State.loopEvaluation (s : State) (e : Evaluating) : State :=
  ({ s with loops := { s.loops with current := none, freeAt := e.endAt } }).evalSample e

/-- STATUS as read: ENABLED is the loop enabled in a mode that evaluates it (07 R380). -/
def State.loopStatus (s : State) (n : Nat) : Nat :=
  (s.loop n).status + ofBool (s.loopOn n && s.loopDeclared n && s.loopsRun)

/-- ENABLE from before the first write of the present core clock. -/
def State.loopSeenWas (s : State) (n : Nat) (was : Bool) : Bool :=
  let l := s.loop n
  if l.onAt = some (coreClock s.now) then l.onWas else was

/-- An ENABLE write: 0 to 1 while loops are evaluated enables for a soft start; 0 stops sampling and drops a waiting sample. A sample of the clock
of the write is handled under the old ENABLE, and one that is being evaluated completes (07 R353, R376, R377, R388). -/
def State.enableLoop (s : State) (n : Nat) (on : Bool) : State :=
  let was := s.loopOn n
  let clock := coreClock s.now
  let s := (s.engineBegin).setVal (0x4000 + n) 1 (.num (ofBool on))
  let s := s.setLoop n { s.loop n with onWas := s.loopSeenWas n was, onAt := some clock }
  if on && !was && s.loopsRun then s.setLoop n { s.loop n with soft := true }
  else if !on then { s with loops := { s.loops with waiting := s.loops.waiting.filter fun (y : LoopSample) => y.loop ≠ n || coreClock y.at_ = clock } }
  else s

/-- A loop whose staged limits are inverted: 1 integral, 2 output; the integral's where both are (07 R386; log 147). -/
def State.loopLimits (s : State) (n : Nat) : Option Nat :=
  if bfpVal (s.loopBfp n 0x0A) < bfpVal (s.loopBfp n 9) then some 1
  else if bfpVal (s.loopBfp n 0x0C) < bfpVal (s.loopBfp n 0x0B) then some 2 else none

end Sys2Proof.Machine
end

