-- ==== Sys2Proof/Machine/Energy.lean ====
section
/-! DEFINITION. The Dispatcher: snapshot, clearing, cap, curtailment, result (08). It computes in binary64; sums run over
sources, then stores, then consumers, each in ascending number (log 13; other readings of the chapter: log 148). -/
namespace Sys2Proof.Machine

def add64 (a b : Rat) : Rat := rnd64 (a + b)
def sub64 (a b : Rat) : Rat := rnd64 (a - b)
def mul64 (a b : Rat) : Rat := rnd64 (a * b)
def div64 (a b : Rat) : Rat := if b = 0 then 0 else rnd64 (a / b)
def sum64 (l : List Rat) : Rat := l.foldl add64 0

/-! Configuration (08 R397) -/

def State.dspBalance (s : State) (kind no : Nat) : Nat :=
  if s.plans.active.isNone then 0xFF
  else s.cfg ((if kind = 0 then 0x2900 else if kind = 1 then 0x2940 else 0x3000) + no) 1

/-- F32 values of a block: pairs of width and cost, or a list. -/
def f32List : Nat → Bytes → List Rat
  | 0, _ => []
  | n + 1, b => f32Val (BitVec.ofNat 32 (leNat (b.take 4))) :: f32List n (b.drop 4)
def curveOf (b : Bytes) : List (Rat × Rat) :=
  let l := f32List 32 b
  (List.range 16).map fun i => (l.getD (2 * i) 0, l.getD (2 * i + 1) 0)

def ascending : List Rat → Bool
  | a :: b :: l => decide (a ≤ b) && ascending (b :: l)
  | _ => true

/-- A value that is not a number: it meets no condition. -/
def f32Nan (w : Word) : Bool := f32Exp w = 255 && f32Frac w ≠ 0
def State.cfgNan (s : State) (idx : Nat) (subs : List Nat) : Bool := subs.any fun k => f32Nan (BitVec.ofNat 32 (s.cfg idx k))
def anyNan (n : Nat) (b : Bytes) : Bool := (List.range n).any fun i => f32Nan (BitVec.ofNat 32 (leNat ((b.drop (4 * i)).take 4)))

/-- The first row of R397 that source, store or consumer `no` breaks, counted from 1. -/
def State.dspBreaks (s : State) (kind no : Nat) : Option Nat :=
  let pmin := s.cfgF 0x2800 6
  let pmax := s.cfgF 0x2800 7
  if kind = 0 then
    let i := 0x2900 + no
    let lo := s.cfgF i 4; let hi := s.cfgF i 5
    let cv := curveOf (s.cfgBytes i 9)
    if s.cfgNan i [4, 5] || lo < 0 || hi < lo then some 1
    else if anyNan 32 (s.cfgBytes i 9) || cv.any (fun p => p.1 < 0) || 1 / 1000 < absRat ((cv.map (·.1)).sum - (hi - lo)) then some 2
    else if !ascending ((cv.filter fun p => p.1 ≠ 0).map (·.2)) then some 3
    else if cv.any (fun p => p.1 ≠ 0 && (p.2 ≤ pmin || pmax < p.2)) then some 4
    else if s.cfgNan i [6, 7, 8] || s.cfgF i 6 < 0 || s.cfgF i 7 < 0 || s.cfgF i 8 < 0 then some 5 else none
  else if kind = 1 then
    let i := 0x2940 + no
    let ec := s.cfgF i 8; let ed := s.cfgF i 9
    if s.cfgNan i [8, 9] || ec ≤ 0 || 1 < ec || ed ≤ 0 || 1 < ed then some 6
    else if s.cfgNan i [4, 5] || s.cfgF i 5 < 0 || s.cfgF i 4 < s.cfgF i 5 then some 7
    else if anyNan 168 (s.cfgBytes i 0x0B) || (f32List 168 (s.cfgBytes i 0x0B)).any (fun v => v < 0 || pmax / ed * (ed * ed) < v) then some 8 else none
  else
    let i := 0x3000 + no
    if s.cfgNan i [6] || s.cfgF i 6 < 0 || pmax < s.cfgF i 6 then some 9
    else if s.cfgNan i [5, 8] || s.cfgF i 5 < 0 || s.cfgF i 8 < 0 then some 10 else none

/-! Snapshot (08 R400 to R402) -/

/-- A snapshot value of a point: value, taken as 0 (08 R401). -/
def State.dspPoint (s : State) (p : Nat) (nonneg : Bool) : Rat × Bool :=
  let w := s.viewWord (pointAddr p)
  match pointFormat p with
  | 0 => if f32Finite w then (if nonneg && f32Val w < 0 then (0, true) else (f32Val w, false)) else (0, true)
  | 1 => if nonneg && w.toInt < 0 then (0, true) else ((w.toInt : Rat), false)
  | _ => let v := bfpVal (bfpOfWord w); if nonneg && v < 0 then (0, true) else (v, false)

/-- A Hall point that a stale input block feeds (08 R401, 04 R222). -/
def State.pointStale (s : State) (bit : Bool) (a : Nat) : Bool :=
  match s.plans.active with
  | none => false
  | some p => (p.blocks.zip s.hall.blocks).any fun e => e.2.stale && e.1.ranges.any fun r =>
      spaceIsBit r.space == bit && spaceBase r.space + r.off ≤ a && a < spaceBase r.space + r.off + r.len

/-- The part of curve segments between two outputs, counted from P_MIN (08 R402). -/
def clipSegs : Rat → Rat → Rat → List (Rat × Rat) → List (Rat × Rat)
  | _, _, _, [] => []
  | at_, lo, hi, (w, c) :: l =>
    let a := max at_ lo
    let b := min (add64 at_ w) hi
    (if a < b then sub64 b a else 0, c) :: clipSegs (add64 at_ w) lo hi l

/-- The output of an item in the result in force (08 R400). -/
def State.dspPrev (s : State) (kind no : Nat) : Option Rat :=
  s.dsp.inForce.bind fun r => (r.outs.find? fun o => o.kind = kind && o.no = no).map (·.out)

def State.dspSource (s : State) (no : Nat) (T : Rat) : DspItem :=
  let i := 0x2900 + no
  let ap := s.cfg i 2
  let avail := ap = 0xFFFFFFFF || s.viewBit (ap % 2 ^ 20)
  let pMin := s.cfgF i 4; let pMax := s.cfgF i 5
  let cv := curveOf (s.cfgBytes i 9)
  let (lo, hi, r) : Rat × Rat × Bool :=
    match s.dspPrev 0 no with
    | none => (pMin, pMax, false)
    | some p =>
      let lo := max pMin (sub64 p (mul64 (s.cfgF i 7) T))
      let hi := min pMax (add64 p (mul64 (s.cfgF i 6) T))
      if hi < pMin then (pMin, pMin, true) else (lo, hi, true)
  { (default : DspItem) with
    kind := 0, no := no, balance := s.cfg i 1, eRatio := s.cfgF i 8, avail := avail, pMin := pMin, pMax := pMax
    low := if avail then lo else 0
    segs := if avail then clipSegs pMin lo hi cv else cv.map fun p => (0, p.2)
    lower := lo, upper := hi, ramped := r, cMin := s.cfgF i 0x0A, curve := cv }

def State.dspStore (s : State) (no : Nat) (T : Rat) (hour : Nat) : DspItem × Bool :=
  let i := 0x2940 + no
  let (soc, bad) := s.dspPoint (s.cfg i 2) false
  let ec := s.cfgF i 8; let ed := s.cfgF i 9
  let v := (f32List 168 (s.cfgBytes i 0x0B)).getD hour 0
  let dis := max 0 (min (s.cfgF i 7) (div64 (mul64 (mul64 (sub64 soc (s.cfgF i 5)) ed) 3600) T))
  let chg := max 0 (min (s.cfgF i 6) (div64 (mul64 (sub64 (s.cfgF i 4) soc) 3600) (mul64 ec T)))
  ({ (default : DspItem) with
    kind := 1, no := no, balance := s.cfg i 1, eRatio := s.cfgF i 0x0A, low := -chg
    segs := [(chg, mul64 v ec), (dis, div64 v ed)], soc := soc, value := v, etaChg := ec, etaDis := ed, disMax := dis }, bad)

def State.dspConsumer (s : State) (no : Nat) : DspItem × Bool :=
  let i := 0x3000 + no
  let (d, bad) := s.dspPoint (s.cfg i 2) true
  ({ (default : DspItem) with
    kind := 2, no := no, balance := s.cfg i 1, demand := d, segs := [(min (s.cfgF i 5) d, s.cfgF i 6)]
    priority := s.cfg i 4, shedValue := s.cfgF i 6, gain := s.cfgF i 7, limit := s.cfgF i 8, loop := s.cfg i 3 }, bad)

/-- The hour of the week (08 R400). -/
def State.weekHour (s : State) : Nat :=
  let secs := s.rtcTicks / 32768
  24 * ((secs / 86400 + 5) % 7) + secs / 3600 % 24

/-- The snapshot that an evaluation takes as it starts (08 R400). -/
def State.dspSnapshot (s : State) : DspSnap :=
  let T : Rat := (s.cfg 0x2800 2 : Rat) / 1000
  let h := s.weekHour
  let ofKind (k n : Nat) : List Nat := (List.range n).filter fun i => s.dspBalance k i ≠ 0xFF
  let src := (ofKind 0 64).map fun i => s.dspSource i T
  let sto := (ofKind 1 16).map fun i => s.dspStore i T h
  let con := (ofKind 2 1024).map s.dspConsumer
  let (base, badB) := s.dspPoint (s.cfg 0x2800 5) false
  let cap := s.cfgF 0x2800 3
  let stalePt (idx sub : Nat) : Bool := s.pointStale false (pointAddr (s.cfg idx sub))
  { items := src ++ sto.map (·.1) ++ con.map (·.1), balances := s.cfg 0x2800 0x17, base := base
    capEff := match s.dsp.inForce with | some r => min cap (add64 r.draw (mul64 (s.cfgF 0x2800 4) T)) | none => cap
    priceMin := s.cfgF 0x2800 6, priceMax := s.cfgF 0x2800 7, piMax := s.cfgF 0x2800 8, hour := h
    badInput := badB || (sto.any (·.2)) || con.any (·.2)
    stale := stalePt 0x2800 5
      || (ofKind 0 64).any (fun i => s.cfg (0x2900 + i) 2 ≠ 0xFFFFFFFF && s.pointStale true (s.cfg (0x2900 + i) 2 % 2 ^ 20))
      || (ofKind 1 16).any (fun i => stalePt (0x2940 + i) 2) || (ofKind 2 1024).any (fun i => stalePt (0x3000 + i) 2)
    startAt := s.now }

/-! Clearing (08 R403 to R405) -/

/-- Effective cost of a segment at cap price π. -/
def costEff (pi : Rat) (x : DspItem) (c : Rat) : Rat := add64 c (mul64 pi x.eRatio)

/-- net(x): supply minus demand when every segment of effective cost ≤ x is full. -/
def dspNet (pi x : Rat) (l : List DspItem) : Rat :=
  let a := sum64 (l.map (·.low))
  let b := l.foldl (fun acc i => i.segs.foldl (fun acc g => if g.1 ≠ 0 ∧ costEff pi i g.2 ≤ x then add64 acc g.1 else acc) acc) a
  l.foldl (fun acc i => sub64 acc i.demand) b

/-- The bisection on the price. -/
def dspBisect (pi : Rat) (l : List DspItem) : Nat → Rat → Rat → Rat × Rat
  | 0, lo, hi => (lo, hi)
  | n + 1, lo, hi =>
    let mid := div64 (add64 lo hi) 2
    if 0 ≤ dspNet pi mid l then dspBisect pi l n lo mid else dspBisect pi l n mid hi

/-- An item cleared: the width filled in all, and in the price band. -/
structure DspFill where
  item : DspItem
  fill : Rat
  band : Bool
deriving DecidableEq, Repr, Inhabited

/-- Fill one item's segments: full at or below lo, from what is still needed in the band, none above hi. -/
def fillItem (pi lo hi : Rat) (need : Rat) (i : DspItem) : DspFill × Rat :=
  i.segs.foldl (fun (a : DspFill × Rat) g =>
    let c := costEff pi i g.2
    if g.1 = 0 then a
    else if c ≤ lo then ({ a.1 with fill := add64 a.1.fill g.1 }, a.2)
    else if c ≤ hi ∧ 0 < a.2 then
      let w := min g.1 a.2
      ({ a.1 with fill := add64 a.1.fill w, band := true }, sub64 a.2 w)
    else a) (⟨i, 0, false⟩, need)

/-- Supply over sources and stores with every segment full, less demand: short below 0 (08 R404). -/
def dspSupplyNet (l : List DspItem) : Rat :=
  let s := l.filter (fun i => i.kind ≠ 2)
  let a := sum64 (s.map (·.low))
  let b := s.foldl (fun acc i => i.segs.foldl (fun acc g => add64 acc g.1) acc) a
  l.foldl (fun acc i => sub64 acc i.demand) b
/-- Lower bounds less demand: a surplus above 0 (08 R404). -/
def dspLowNet (l : List DspItem) : Rat := l.foldl (fun acc i => sub64 acc i.demand) (sum64 (l.map (·.low)))

/-- The balance is short: some demand is left with every source and store full, whatever their effective cost (08 R404; log 148). -/
def dspShort (l : List DspItem) : Bool := dspSupplyNet l < 0
/-- At this cap price, what costs no more than PRICE_MAX does not meet the demand of a balance that is not short (log 148). -/
def dspUnmet (sn : DspSnap) (pi : Rat) (l : List DspItem) : Bool := !dspShort l && dspNet pi sn.priceMax l < 0

/-- Clear one balance at a cap price: fills and price (08 R403, R405). -/
def clearBalance (sn : DspSnap) (pi : Rat) (l : List DspItem) : List DspFill × Rat :=
  if dspShort l then (l.map fun i => ⟨i, sum64 (i.segs.map (·.1)), false⟩, sn.priceMax)
  else if 0 < dspLowNet l then (l.map fun i => ⟨i, 0, false⟩, sn.priceMin)
  else
    let (lo, hi) := dspBisect pi l 32 sn.priceMin sn.priceMax
    let need := -(dspNet pi lo l)
    ((l.foldl (fun (a : List DspFill × Rat) i => let (f, n) := fillItem pi lo hi a.2 i; (a.1 ++ [f], n)) ([], need)).1, hi)

/-- All balances cleared at one cap price: outputs of every item in fixed order, prices and draw. -/
structure DspClear where
  outs    : List (DspItem × Rat × Bool)
  lambdas : List Rat
  draw    : Rat
deriving DecidableEq, Repr, Inhabited

/-- BASE + Σ E_RATIO × output over sources and stores (08 The site power cap). -/
def dspDraw (base : Rat) (outs : List (DspItem × Rat × Bool)) : Rat :=
  outs.foldl (fun acc o => if o.1.kind = 2 then acc else add64 acc (mul64 o.1.eRatio o.2.1)) base

def clearAll (sn : DspSnap) (pi : Rat) : DspClear :=
  let per := (List.range sn.balances).map fun b => clearBalance sn pi (sn.items.filter fun i => i.balance = b)
  let all := per.flatMap (·.1)
  let outs := sn.items.filterMap fun i =>
    (all.find? fun f => f.item.kind = i.kind && f.item.no = i.no).map fun f => (i, add64 i.low f.fill, f.band)
  ⟨outs, per.map (·.2), dspDraw sn.base outs⟩

/-- The bisection on the cap price, keeping the clearings at lo and hi (08 R406). -/
def capBisect (sn : DspSnap) : Nat → Rat → DspClear → Rat → DspClear → Rat × DspClear × Rat × DspClear
  | 0, lo, a, hi, b => (lo, a, hi, b)
  | n + 1, lo, a, hi, b =>
    let mid := div64 (add64 lo hi) 2
    let c := clearAll sn mid
    if c.draw ≤ sn.capEff then capBisect sn n lo a mid c else capBisect sn n mid c hi b

/-- θ·A(lo) + (1 − θ)·A(hi), item by item (08 R406). -/
def blend (theta : Rat) (a b : DspClear) : List (DspItem × Rat × Bool) :=
  (a.outs.zip b.outs).map fun p =>
    (p.1.1, add64 (mul64 theta p.1.2.1) (mul64 (sub64 1 theta) p.2.2.1), p.1.2.2 || p.2.2.2)

/-- Reduce electric items towards 0 until the draw meets the cap: sources, then stores, each in descending number (08 R407, log 14). -/
def forceCap (capEff : Rat) (outs : List (DspItem × Rat × Bool)) (draw : Rat) :
    List (DspItem × Rat × Bool) × List (Nat × Nat) × Rat :=
  let order := (outs.filter fun o => o.1.kind = 0).reverse ++ (outs.filter fun o => o.1.kind = 1).reverse
  order.foldl (fun (a : List (DspItem × Rat × Bool) × List (Nat × Nat) × Rat) o =>
    if a.2.2 ≤ capEff ∨ o.1.eRatio ≤ 0 ∨ o.2.1 ≤ 0 then a
    else
      let cut := min o.2.1 (div64 (sub64 a.2.2 capEff) o.1.eRatio)
      (a.1.map fun x => if x.1.kind = o.1.kind ∧ x.1.no = o.1.no then (x.1, sub64 x.2.1 cut, x.2.2) else x,
        a.2.1 ++ [(o.1.kind, o.1.no)], sub64 a.2.2 (mul64 o.1.eRatio cut))) (outs, [], draw)

/-- Curtail a shortfall by PRIORITY from 15 down: kW per consumer, with the lowest level reached (08 R409). -/
def curtail (cons : List (Nat × Nat × Rat)) : Nat → Rat → List (Nat × Rat) × Nat
  | 0, _ => ([], 0)
  | p + 1, S =>
    if S ≤ 0 then ([], p + 1)
    else
      let lv := cons.filter fun c => c.2.1 = p
      let A := sum64 (lv.map (·.2.2))
      if A ≤ S then
        let (r, q) := curtail cons p (sub64 S A)
        (lv.map (fun c => (c.1, c.2.2)) ++ r, if lv.isEmpty then q else min p q)
      else (lv.map (fun c => (c.1, mul64 c.2.2 (div64 S A))), p)

/-- Cost rate of one item (08 R396). -/
def itemCost (i : DspItem) (out : Rat) : Rat :=
  if i.kind = 0 then
    if !i.avail then 0
    else (i.curve.foldl (fun (a : Rat × Rat) g =>
        let w := max 0 (min g.1 (sub64 out a.2))
        (add64 a.1 (div64 (mul64 w g.2) 1000), add64 a.2 g.1)) (i.cMin, i.pMin)).1
  else if i.kind = 1 then
    if 0 ≤ out then div64 (div64 (mul64 out i.value) i.etaDis) 1000 else div64 (mul64 (mul64 out i.value) i.etaChg) 1000
  else div64 (mul64 out i.shedValue) 1000

/-- One evaluation from its snapshot (08 R403 to R410). -/
def dspEvaluate (sn : DspSnap) : DspResult :=
  let c0 := clearAll sn 0
  let cm := clearAll sn sn.piMax
  let (lo, a, hi, b) := capBisect sn 32 0 c0 sn.piMax cm
  let above := sn.capEff < cm.draw
  let (outs, pi, lams) : List (DspItem × Rat × Bool) × Rat × List Rat :=
    if c0.draw ≤ sn.capEff then (c0.outs, 0, c0.lambdas)
    else if above then (cm.outs, sn.piMax, cm.lambdas)
    else (blend (div64 (sub64 sn.capEff b.draw) (sub64 a.draw b.draw)) a b, hi, b.lambdas)
  let draw := dspDraw sn.base outs
  let forced := decide (¬ c0.draw ≤ sn.capEff) && above
  let (outs, cut, draw) := if forced then forceCap sn.capEff outs draw else (outs, [], draw)
  let bal (k : Nat) := sn.items.filter fun i => i.balance = k
  let bs := List.range sn.balances
  let short := bs.filter fun k => dspShort (bal k)
  let used : List Rat := if c0.draw ≤ sn.capEff then [0] else if above then [sn.piMax] else [lo, hi]
  let surplus := bs.filter fun k => !short.contains k && 0 < dspLowNet (bal k)
  let supply (k : Nat) : Rat := sum64 ((outs.filter fun o => o.1.balance = k && o.1.kind ≠ 2).map (·.2.1))
  let wanted (k : Nat) : Rat := sum64 ((outs.filter fun o => o.1.balance = k && o.1.kind = 2).map fun o => sub64 o.1.demand o.2.1)
  let cuts := bs.map fun k =>
    let S := sub64 (wanted k) (supply k)
    let touched := outs.any fun o => o.1.balance = k && cut.contains (o.1.kind, o.1.no)
    if (short.contains k || touched || used.any fun x => dspUnmet sn x (bal k)) && 0 < S then
      curtail ((outs.filter fun o => o.1.balance = k && o.1.kind = 2).map fun o => (o.1.no, o.1.priority, sub64 o.1.demand o.2.1)) 16 S
    else ([], 16)
  let curtailedOf (no : Nat) : Rat := ((cuts.flatMap (·.1)).find? fun c => c.1 = no).elim 0 (·.2)
  let outRec (o : DspItem × Rat × Bool) : DspOut :=
    let i := o.1
    let cur := if i.kind = 2 then curtailedOf i.no else 0
    let off := mul64 i.gain (add64 o.2.1 cur)
    { kind := i.kind, no := i.no, balance := i.balance, out := o.2.1, margin := o.2.2, demand := i.demand, curtailed := cur
      offset := if i.kind = 2 then max (-i.limit) (min i.limit off) else 0
      loop := if i.kind = 2 then i.loop else 0xFFFF, soc := i.soc, value := i.value
      state := if i.kind ≠ 0 then 0 else if !i.avail then 0 else if cut.contains (0, i.no) then 3
        else if i.ramped && ((o.2.1 = i.lower && i.pMin < i.lower) || (o.2.1 = i.upper && i.upper < i.pMax)) then 2 else 1 }
  let recs := outs.map outRec
  { outs := recs, lambdas := lams, pi := pi, draw := draw, base := sn.base, capEff := sn.capEff
    cost := sum64 (outs.map fun o => itemCost o.1 o.2.1), hour := sn.hour
    short := (short.map (2 ^ ·)).sum, surplus := (surplus.map (2 ^ ·)).sum
    gap := bs.map fun k => if short.contains k then -(dspSupplyNet (bal k)) else if surplus.contains k then dspLowNet (bal k) else 0
    forced := forced, removed := sub64 (dspDraw sn.base (if forced then cm.outs else outs)) draw, breach := forced && sn.capEff < draw
    ramped := (recs.zip sn.items).any fun p => p.1.kind = 0 && p.1.state = 2 && p.2.pMin < p.1.out && p.1.out < p.2.pMax
    badInput := sn.badInput, stale := sn.stale
    curtailed := (bs.zip cuts).filterMap fun p => if p.2.1.isEmpty then none else some (p.1, p.2.2, sum64 (p.2.1.map (·.2))) }

/-! Events and the result in force (08 R399, R411 to R416, R421) -/

def f32Bytes (x : Rat) : Bytes := leBytes 4 (f32Of x).toNat

/-- Events, as a result applies, on changes of state between it and the one before (08 R405, R407, R409, R421; log 148). -/
def State.dspEvents (s : State) (r : DspResult) : State :=
  let d := s.dsp
  let bad := r.short + r.surplus
  let wasBad := d.wasShort + d.wasSurplus
  let s := [0, 1, 2, 3].foldl (fun s k =>
    let now := bitAt bad k
    let s := if now && !bitAt wasBad k then
        s.ev 0x4010 (leBytes 1 k ++ leBytes 1 (if bitAt r.short k then 1 else 2) ++ f32Bytes (r.gap.getD k 0))
      else if !now && bitAt wasBad k then s.ev 0x4011 (leBytes 1 k) else s
    let c := r.curtailed.find? fun c => c.1 = k
    match c with
    | some c => if bitAt d.wasCut k then s else s.ev 0x4014 (leBytes 1 k ++ leBytes 1 c.2.1 ++ f32Bytes c.2.2)
    | none => if bitAt d.wasCut k then s.ev 0x4015 (leBytes 1 k) else s) s
  let s := if r.forced && !d.wasForced then s.ev 0x4012 (f32Bytes r.removed ++ f32Bytes r.capEff) else s
  if r.breach && !d.wasBreach then s.ev 0x4013 (f32Bytes r.base ++ f32Bytes r.capEff) else s

/-- The states whose change the next result is held against. -/
def State.dspJudged (s : State) (r : DspResult) : State :=
  { s with dsp := { s.dsp with
    wasShort := r.short, wasSurplus := r.surplus, wasCut := (r.curtailed.map fun c => 2 ^ c.1).sum, wasForced := r.forced
    wasBreach := r.breach } }

/-- An evaluation completes EVAL_TIME after its start (08 R399). -/
def State.dspDone (s : State) : State :=
  match s.dsp.running with
  | none => s
  | some sn =>
    if s.now < sn.startAt + 3600000 then s
    else
      let r := dspEvaluate sn
      { s with dsp := { s.dsp with running := none, waiting := some r, doneAt := sn.startAt + 3600000, evals := holdMax 32 (s.dsp.evals + 1) } }

/-- Write a value in kW to an OUT_POINT in its format (08 R411, 07 R368). -/
def State.dspWrite (s : State) (p : Nat) (x : Rat) : State :=
  if pointNone p then s
  else
    let w : Word :=
      match pointFormat p with
      | 0 => f32Of x
      | 1 => BitVec.ofInt 32 (clampInt (-(2 ^ 31)) (2 ^ 31 - 1) (roundEven x))
      | _ => bfpWord (bfpRound x).val
    s.putWord (pointAddr p) w

/-- Set the offset of a consumer's loop (08 R410; 07 R379). -/
def State.setOffset (s : State) (loop : Nat) (x : Rat) : State :=
  if loop < 2048 then s.setLoop loop (putOffset (coreClock s.now) (bfpWord (bfpRound (f32Val (f32Of x))).val) (s.loop loop)) else s

/-- Every loop's OFFSET becomes 0 (08 R412). -/
def State.clearOffsets (s : State) : State :=
  let zero (e : Nat × LoopSt) : Nat × LoopSt := (e.1, if e.2.offset = 0 then e.2 else putOffset (coreClock s.now) 0 e.2)
  { s with loops := { s.loops with loops := (s.loops.loops.map zero).filter fun e => e.2 ≠ default } }

/-- A result applies at step 4 of the major Landing (08 R411). -/
def State.dspApply (s : State) (r : DspResult) (landing : Nat) : State :=
  let s := (s.dspEvents r).dspJudged r
  let s := r.outs.foldl (fun s o =>
    if o.kind = 0 then s.dspWrite (s.cfg (0x2900 + o.no) 3) o.out
    else if o.kind = 1 then s.dspWrite (s.cfg (0x2940 + o.no) 3) o.out
    else s.setOffset o.loop o.offset) s
  { s with dsp := { s.dsp with inForce := some r, waiting := none, landing := landing } }

/-- MODE as the present core clock sees it: a write of this clock counts from the next (08 R414). -/
def State.dspModeNow (s : State) : Nat :=
  if s.dsp.modeAt = some (coreClock s.now) then s.dsp.modeWas else s.cfg 0x2800 1

/-- Step 4 of the major Landing: MODE 0 zeroes offsets and writes P_OFF, and an evaluation still running is dropped; otherwise a
waiting result applies (08 R399, R412; log 148). -/
def State.dspLanding (s : State) (landing : Nat) : State :=
  let s := s.dspDone
  if s.dsp.offNext && s.dspModeNow = 0 then
    let s := s.clearOffsets
    let srcs := (List.range 64).filter fun i => s.dspBalance 0 i ≠ 0xFF
    let s := srcs.foldl (fun s i => s.dspWrite (s.cfg (0x2900 + i) 3) (s.cfgF (0x2900 + i) 0x0B)) s
    { s with dsp := { s.dsp with offNext := false, running := none, inForce := none, waiting := none, landing := 0 } }
  else match s.dsp.waiting with | some r => if s.dsp.doneAt < s.now then s.dspApply r landing else s | none => s

/-- After step 8: an evaluation starts at every Landing that PERIOD names (08 R398). -/
def State.dspStart (s : State) (landing frameUs : Nat) : State :=
  let every := s.cfg 0x2800 2 * 1000 / frameUs
  if s.dspModeNow = 1 && (s.base = .run || s.base = .edit) && !s.held && every ≠ 0 && landing % every = 0 && frameUs ≠ 0
      && s.dsp.running.isNone && !s.plans.active.isNone then
    { s with dsp := { s.dsp with running := some s.dspSnapshot, hour := some s.weekHour } }
  else s

/-- A MODE write (08 R412). -/
def State.dspMode (s : State) (m : Nat) : State :=
  let was := s.dspModeNow
  let s := s.setVal 0x2800 1 (.num m)
  { s with dsp := { s.dsp with offNext := m = 0, modeWas := was, modeAt := some (coreClock s.now) } }

/-- Leaving Run: an evaluation in progress is discarded; entering it, no result is in force, and MODE 0 acts at the first major Landing
(08 R402, R412; log 148). -/
def State.dspStop (s : State) : State := { s with dsp := { s.dsp with running := none, waiting := none } }
def State.dspEnterRun (s : State) : State :=
  let s := s.clearOffsets
  { s with dsp := { s.dsp with running := none, waiting := none, inForce := none, landing := 0, offNext := s.cfg 0x2800 1 = 0 } }

/-- HS:7 DISPATCH_STATUS (08 R415). -/
def State.dspStatus (s : State) : Nat :=
  let m := s.cfg 0x2800 1
  let on := m = 1 && (s.base = .run || s.base = .edit) && !s.held
  let r := s.dsp.inForce
  let f (g : DspResult → Bool) (k : Nat) : Nat := if (r.map g).getD false then k else 0
  ofBool on + 2 * ofBool r.isSome + f (fun r => 0 < r.pi) 4 + f (·.forced) 8 + f (·.breach) 16
    + f (fun r => r.short + r.surplus ≠ 0) 32 + f (fun r => !r.curtailed.isEmpty) 64 + f (·.ramped) 128 + f (·.badInput) 256
    + f (·.stale) 512 + (if m = 2 then 1024 else 0)

/-- HS:1152 to 1535 (08 R416). -/
def State.dspHs (s : State) (w : Nat) : Word :=
  match s.dsp.inForce with
  | none => 0
  | some r =>
    let find (k n : Nat) : Option DspOut := r.outs.find? fun o => o.kind = k && o.no = n
    let mask (base : Nat) (g : DspOut → Bool) : Word :=
      BitVec.ofNat 32 (((List.range 32).map fun j => if ((find 2 (32 * (w - base) + j)).map g).getD false then 2 ^ j else 0).sum)
    if w < 1156 then f32Of (r.lambdas.getD (w - 1152) 0)
    else if w = 1156 then f32Of r.pi
    else if w = 1157 then f32Of r.draw
    else if w = 1158 then f32Of r.capEff
    else if w = 1159 then f32Of r.cost
    else if w = 1160 then BitVec.ofNat 32 s.dsp.landing
    else if w = 1161 then BitVec.ofNat 32 (s.dsp.landing / 2 ^ 32)
    else if w = 1162 then BitVec.ofNat 32 (r.short + 16 * r.surplus)
    else if 1168 ≤ w ∧ w < 1232 then f32Of ((find 0 (w - 1168)).elim 0 (·.out))
    else if 1232 ≤ w ∧ w < 1248 then f32Of ((find 1 (w - 1232)).elim 0 (·.out))
    else if 1248 ≤ w ∧ w < 1280 then mask 1248 fun o => 0 < o.curtailed
    else if 1280 ≤ w ∧ w < 1312 then mask 1280 fun o => 0 < o.out
    else 0

end Sys2Proof.Machine
end

