-- ==== Sys2Proof/Machine/FieldIo.lean ====
section
/-! DEFINITION. Digital and analogue field channels and their commands (09 R422 to R480). -/
namespace Sys2Proof.Machine

def State.dio (s : State) (n : Nat) : Dio := s.field.dio.getD n default
def State.updDio (s : State) (n : Nat) (f : Dio → Dio) : State := { s with field := { s.field with dio := upd s.field.dio n f } }
def State.aio (s : State) (n : Nat) : Aio := s.field.aio.getD n default
def State.updAio (s : State) (n : Nat) (f : Aio → Aio) : State := { s with field := { s.field with aio := upd s.field.aio n f } }
def State.group (s : State) (g : Nat) : Supply := s.field.groups.getD g default
def State.updGroup (s : State) (g : Nat) (f : Supply → Supply) : State :=
  { s with field := { s.field with groups := upd s.field.groups g f } }

def State.dioCfg (s : State) (n sub : Nat) : Nat := s.cfg (0x2600 + n) sub
def State.aioCfg (s : State) (n sub : Nat) : Nat := s.cfg (0x2700 + n) sub
def State.aioF (s : State) (n sub : Nat) : Rat := s.cfgF (0x2700 + n) sub

/-- The supply of DIOn: group n ÷ 8 (09 R422). -/
def State.dioSupply (s : State) (n : Nat) : Supply := s.group (n / 8)

/-! Supplies (09 R424, R425) -/

/-- The state of a supply at `mv` mV, from the state it is in; `lo` and `hi` are where low is entered and left. A supply that leaves the
absent state between the two is low (log 149). -/
def supplyState (lo hi was mv : Nat) : Nat :=
  if mv < 12000 then 0
  else if was = 2 then (if mv < lo then 1 else 2)
  else if was = 0 then (if mv < hi then 1 else 2)
  else if hi < mv then 2 else 1

/-- A supply takes a voltage; its checks wait after it leaves the absent state. -/
def supplyTake (now st mv : Nat) (x : Supply) : Supply :=
  { x with mv := mv, state := st
           leftAt := if x.state = 0 && st ≠ 0 then now else x.leftAt
           checks := if st = 0 || x.state = 0 then false else x.checks }

/-! Digital outputs -/

/-- The level that a channel's command asks of its pin: its own command, or the forced value of a Tread-owned channel (03 R211). -/
def State.dioWanted (s : State) (n : Nat) : Bool :=
  let p := s.dioCfg n 0x0D
  if s.dioCfg n 9 = 1 && !pointNone p then s.forceBit (0x40000 + p % 2 ^ 18) (s.dio n).cmd else (s.dio n).cmd

/-- The level at the pin (09 R425, R438 to R440, R446): off while the supply is absent, after a protective switch-off,
on a standby and while the module does not run. -/
def State.dioLevel (s : State) (n : Nat) : Bool :=
  let x := s.dio n
  s.dioWanted n && x.tripAt.isNone && !x.latched && (s.dioSupply n).state ≠ 0 && s.dioCfg n 1 = 2
    && s.live && s.base ≠ .standby

/-- Bring the pin to its level; the command compared by R442 changes with it. -/
def State.dioDrive (s : State) (n : Nat) : State :=
  let l := s.dioLevel n
  if (s.dio n).pin = l then s else (s.updDio n fun x => { x with pin := l }).emit (.dio n l s.now)

/-- Every output follows its command; during the activation pause the latches hold the pins (09 R472). -/
def State.dioDriveAll (s : State) : State := if s.held then s else (List.range 48).foldl State.dioDrive s

/-- A new command of an output. A pulse in progress ends with it. -/
def State.dioCommand (s : State) (n : Nat) (v : Bool) : State :=
  let s := s.updDio n fun x => { x with
    cmd := v, cmdAt := if x.cmd = v then x.cmdAt else s.now, started := true, pulseEnd := none }
  if s.held then s else s.dioDrive n

/-- A DIO action of a Tread: 0 clear, 1 set, 2 toggle, 3 a pulse of 10 µs × 2^w (03 R125). -/
def State.dioAction (s : State) (n op w : Nat) : State :=
  match op with
  | 0 => s.dioCommand n false
  | 1 => s.dioCommand n true
  | 2 => s.dioCommand n (!(s.dio n).cmd)
  | _ => (s.dioCommand n true).updDio n fun x => { x with pulseEnd := some (s.now + 10000 * 2 ^ w) }

/-- Entering Stop or Fault drives an output to SAFE: 0 off, 1 on, 2 hold; a pulse is cut short (09 R472). -/
def State.dioSafe (s : State) (n : Nat) : State :=
  match s.dioCfg n 0x0A with
  | 0 => s.dioCommand n false
  | 1 => s.dioCommand n true
  | _ => s.updDio n fun x => { x with pulseEnd := none }

/-- DIO STATUS (09 R475). -/
def State.dioStatus (s : State) (n : Nat) : Nat :=
  let x := s.dio n
  ofBool x.wireBreak + 2 * ofBool x.overload + 4 * ofBool x.thermal + 8 * ofBool x.latched + 16 * ofBool x.openLoad
    + 32 * ofBool x.rbMismatch + 64 * ofBool x.overrate.isSome + 128 * ofBool ((s.dioSupply n).state = 0)

/-- Why a channel's settings are rejected at apply (09 R429, R435). -/
def State.dioBreaks (s : State) (n : Nat) : Bool :=
  (s.dioCfg n 4 ≠ 0 && s.dioCfg n 2 = 1) || (s.dioCfg n 6 ≠ 0 && 4 < s.dioCfg n 3)

/-! Digital inputs -/

/-- IN_POINT carries the accepted level, or WB_REACT while WIRE_BREAK is set (09 R428, R431). -/
def State.dioIn (s : State) (n : Nat) : State :=
  let p := s.dioCfg n 0x0C
  let x := s.dio n
  if pointNone p || s.dioCfg n 1 ≠ 1 then s
  else s.putBit (p % 2 ^ 18) (if x.wireBreak then s.dioCfg n 5 ≠ 0 else x.level)

/-- A word for COUNT_POINT. -/
def State.countOut (s : State) (n : Nat) (w : Word) : State :=
  let p := s.dioCfg n 0x0E
  if pointNone p then s else s.putWord (pointAddr p) w

/-- WIRE_BREAK is set or cleared (09 R430). -/
def State.wireBreak (s : State) (n : Nat) (v : Bool) : State :=
  if (s.dio n).wireBreak = v then s
  else ((s.updDio n fun x => { x with wireBreak := v }).ev 0x5001 (leBytes 1 n ++ leBytes 1 (ofBool v))).dioIn n

/-- A zeroing of COUNTER whose 1 µs sample has come takes effect (09 R437). -/
def dioSettled (now : Nat) (x : Dio) : Dio :=
  match x.zeroAt with
  | some z => if z ≤ now then { x with counter := 0, zeroAt := none } else x
  | none => x
def State.dioSettle (s : State) (n : Nat) : State := s.updDio n (dioSettled s.now)

/-- An accepted edge: level, count, frequency, OVERRATE, events and anchors (09 R428, R432 to R437; 03 R130; 04 R196). An anchor takes the
whole pu at or below the extrapolated position, which is the model's choice (log 139). -/
def State.dioEdge (s : State) (n : Nat) (level : Bool) : State :=
  let s := s.dioSettle n
  let stamp := (s.now - 1000 * s.dioCfg n 3) / 10 * 10
  let x := s.dio n
  let fast := match x.lastEdge with | some p => stamp < p + 5000 | none => false
  let edges := s.dioCfg n 7
  let counts := s.dioCfg n 6 = 1 && (edges = 3 || edges = (if level then 1 else 2)) && (s.dioSupply n).state ≠ 0
  let s := s.updDio n fun x => { x with
    level := level, acceptAt := s.now, lastEdge := some stamp, sampled := true
    counter := if counts then x.counter + 1 else x.counter
    rises := if level && s.dioCfg n 6 = 2 then x.rises ++ [stamp] else x.rises
    overrate := if fast then some s.now else x.overrate }
  let s := s.when fast fun s => s.ev 0x5005 (leBytes 1 n)
  let s := s.dioIn n
  let s := s.when counts fun s => s.countOut n (s.dio n).counter
  let age (s : State) (i : Nat) : Dword := BitVec.ofInt 64 (s.xhatAt i stamp / 2 ^ 32)
  let s := (s.occurrence (if level then 1 else 2) n).forward (.dio n level (s.time - (s.now - stamp)))
  s.anchorEvent (if level then 2 else 3) n age

/-- An accepted level of an input: the first since Boot is found, a change is an edge, and the first since a restart reaches IN_POINT
although it stands (09 R428; 04 R229; log 149). -/
def State.dioSample (s : State) (n : Nat) (level : Bool) : State :=
  if !(s.dio n).known then
    ((s.updDio n fun x => { x with level := level, known := true, acceptAt := s.now, sampled := true }).dioIn n).forward
      (.dio n level (s.time - 1000 * s.dioCfg n 3))
  else if (s.dio n).level ≠ level then s.dioEdge n level
  else s.when (!(s.dio n).sampled) fun s => (s.updDio n fun x => { x with sampled := true }).dioIn n

/-- FREQUENCY of a gate interval, in Hz as F32 (09 R433). -/
def gateFrequency (rises : List Nat) : Word :=
  match rises, rises.getLast? with
  | a :: _, some b =>
    if a < b then f32Of (rnd64 ((((rises.length - 1 : Nat) : Rat)) * 1000000000 / ((b - a : Nat) : Rat))) else 0#32
  | _, _ => 0#32

/-- A gate interval ends, GATE after the one before (09 R433; log 149). -/
def State.gate (s : State) (n : Nat) : State :=
  let s := s.updDio n fun x => { x with gateAt := s.now }
  let x := s.dio n
  if 2 ≤ x.rises.length then
    let f := gateFrequency x.rises
    (s.updDio n fun x => { x with rises := [], fewRises := false, freq := f }).countOut n f
  else if x.fewRises then (s.updDio n fun x => { x with rises := [], freq := 0 }).countOut n 0
  else s.updDio n fun x => { x with rises := [], fewRises := true }

/-! Analogue channels -/

/-- Points of a TABLE block (09 R458), in mA and value. -/
def charTable (b : Bytes) : List (Rat × Rat) :=
  (List.range (leNat (b.take 1))).map fun i =>
    (f32Val (BitVec.ofNat 32 (leNat ((b.drop (4 + 8 * i)).take 4))), f32Val (BitVec.ofNat 32 (leNat ((b.drop (8 + 8 * i)).take 4))))

/-- Interpolate in x between points whose x ascend; beyond the ends, the end's value and true (09 R457). -/
def interpolate : List (Rat × Rat) → Rat → Rat × Bool
  | [], _ => (0, true)
  | [p], x => (p.2, x ≠ p.1)
  | p :: q :: ps, x =>
    if x < p.1 then (p.2, true)
    else if x ≤ q.1 then (add64 p.2 (div64 (mul64 (sub64 x p.1) (sub64 q.2 p.2)) (sub64 q.1 p.1)), false)
    else interpolate (q :: ps) x

/-- The table with value and current exchanged, its values ascending, for an output. -/
def inverseTable (l : List (Rat × Rat)) : List (Rat × Rat) :=
  let m := l.map fun p => (p.2, p.1)
  match m with
  | p :: q :: _ => if q.1 < p.1 then m.reverse else m
  | _ => m

/-- The engineering value of a current, and whether the cut-off acts; CUTOFF is the F32 value that the entry holds (09 R457, log 62). -/
def State.aioValue (s : State) (n : Nat) (i : Rat) : Rat × Bool :=
  let lo := s.aioF n 3; let hi := s.aioF n 4
  match s.aioCfg n 2 with
  | 0 => (add64 lo (div64 (mul64 (sub64 i 4) (sub64 hi lo)) 16), false)
  | 1 =>
    let f := sqrt64 (max 0 (div64 (sub64 i 4) 16))
    if f < s.aioF n 5 then (lo, true) else (add64 lo (mul64 f (sub64 hi lo)), false)
  | _ => ((interpolate (charTable (s.cfgBytes (0x2700 + n) 6)) i).1, false)

/-- The current of an engineering value, and whether the table's end limits it (09 R457). -/
def State.aioCurrent (s : State) (n : Nat) (v : Rat) : Rat × Bool :=
  let lo := s.aioF n 3; let hi := s.aioF n 4
  match s.aioCfg n 2 with
  | 2 => interpolate (inverseTable (charTable (s.cfgBytes (0x2700 + n) 6))) v
  | _ => (add64 4 (div64 (mul64 16 (sub64 v lo)) (sub64 hi lo)), false)

/-- A value rounded once to a point's format (07 R368, 09 R457). -/
def pointOfRat (fmt : Nat) (v : Rat) : Word :=
  match fmt with
  | 0 => f32Of v
  | 1 => BitVec.ofInt 32 (clampInt (-(2 ^ 31)) (2 ^ 31 - 1) (roundEven v))
  | _ => bfpWord (bfpRound v).val

/-- A point's word as a number; none for a NaN or an infinity (07 R360, 09 R450). -/
def pointRat (fmt : Nat) (w : Word) : Option Rat :=
  match fmt with
  | 0 => if f32Finite w then some (f32Val w) else none
  | 1 => some (w.toInt : Rat)
  | _ => some (bfpVal (bfpOfWord w))

/-- The current that leaves an output: its command with TRIM, nothing from a suppressed or unpowered one (09 R453, R468). -/
def State.aioOutput (s : State) (n : Nat) : Rat :=
  if s.live && s.base ≠ .standby && s.aioCfg n 1 = 2 then (s.aio n).current + (s.aio n).trim else 0

/-- The converter takes a new current. -/
def State.aioDrive (s : State) (n : Nat) : State :=
  if s.held || s.base = .standby then s else s.emit (.aio n (s.aioOutput n) s.now)

/-- The output's current changes: it is kept for the checks of R452 and R453, and the converter follows. -/
def State.aioSet (s : State) (n : Nat) (i : Rat) : State :=
  let s := s.updAio n fun x => { x with
    current := i
    history := if i = x.current then x.history else (s.now, i) :: (x.history.filter fun e => s.now < e.1 + 10000000000 || e.2 = x.current) }
  s.aioDrive n

/-- A command written to IO_POINT is converted and clamped (09 R449, R450). -/
def State.aioCommand (s : State) (n : Nat) (w : Word) : State :=
  let fmt := pointFormat (s.aioCfg n 0x11)
  match pointRat fmt w with
  | none => s.updAio n fun x => { x with limited := true, started := true }
  | some v =>
    let (i, e) := s.aioCurrent n v
    let lo := s.aioF n 0x0C; let hi := s.aioF n 0x0D
    let j := if i < lo then lo else if hi < i then hi else i
    (s.updAio n fun x => { x with value := f32Of v, limited := e || j ≠ i, started := true }).aioSet n j |>.result 4 (leBytes 1 n ++ leBytes 4 (f32Of j).toNat)

/-- Entering Stop or Fault: SAFE_MODE 0 drives SAFE_MA, 1 holds (09 R472). -/
def State.aioSafe (s : State) (n : Nat) : State :=
  if s.aioCfg n 1 = 2 && s.aioCfg n 0x0A = 0 then s.aioSet n (s.aioF n 0x0B) else s

/-- Every output at its declared safe value (09 R472). -/
def State.outputsSafe (s : State) : State :=
  let s := (List.range 48).foldl (fun s n => if s.dioCfg n 1 = 2 then s.dioSafe n else s) s
  (List.range 8).foldl State.aioSafe s

/-- ACK of a mailbox queue is the value of its ACK_POINT, read each time the point is written; one ahead of HEAD is taken as HEAD (11 R566). -/
def State.takeAck (s : State) (n q : Nat) : State :=
  let v := s.seenWord (s.cfg (0x1310 + 0x40 * n + q) 4 % 2 ^ 18)
  { s with cans := upd s.cans n fun x => { x with boxes := upd x.boxes q fun b =>
      { b with ack := if 0 < (v - b.head).toInt then b.head else v } } }

/-- The queues whose ACK_POINT was written take their ACK. -/
def State.takeAcks (s : State) (word : Nat → Bool) : State :=
  (List.range 64).foldl (fun s j =>
    let m := 0x1310 + 0x40 * (j / 16) + j % 16
    if s.cfg m 1 ≠ 0 && word (s.cfg m 4 % 2 ^ 18) then s.takeAck (j / 16) (j % 16) else s) s

/-- Outputs whose point lies among those just written take their commands (09 R444, R449). -/
def State.takeOutputs (s : State) (bit word : Nat → Bool) : State :=
  let s := s.takeAcks word
  let s := (List.range 48).foldl (fun s n =>
    let p := s.dioCfg n 0x0D
    if s.dioCfg n 1 = 2 && s.dioCfg n 9 = 0 && !pointNone p && bit (0x40000 + p % 2 ^ 18)
    then s.dioCommand n (s.liveBit (0x40000 + p % 2 ^ 18)) else s) s
  (List.range 8).foldl (fun s n =>
    let p := s.aioCfg n 0x11
    if s.aioCfg n 1 = 2 && !pointNone p && word (pointAddr p) then s.aioCommand n (s.liveWord (pointAddr p)) else s) s

/-- Outputs whose points lie in ranges just written. -/
def State.takeRanges (s : State) (l : List Range) : State :=
  let inR (bit : Bool) (a : Nat) : Bool := l.any fun r =>
    spaceIsBit r.space == bit && r.space ≠ .hs && spaceBase r.space + r.off ≤ a && a < spaceBase r.space + r.off + r.len
  s.takeOutputs (inR true) (inR false)

/-- Characteristic sets that a common apply rejects with PAIRED (09 R459, R455, R456, R464). -/
def State.aioBreaks (s : State) (n : Nat) : Bool :=
  let out := s.aioCfg n 1 = 2
  let ch := s.aioCfg n 2
  let t := charTable (s.cfgBytes (0x2700 + n) 6)
  let avg := s.aioCfg n 8
  let vals := t.map (·.2)
  (ch ≤ 1 && s.aioF n 3 = s.aioF n 4)
    || (ch = 1 && out)
    || (ch = 2 && (!ascending (t.map (·.1)) || t.any fun p => p.1 < 3 || 23 < p.1))
    || (ch = 2 && out && !ascending vals && !ascending vals.reverse)
    || s.aioF n 0x0C < 3 || 23 < s.aioF n 0x0D || s.aioF n 0x0D ≤ s.aioF n 0x0C
    || (avg ≠ 0 && avg * 1000 % (max 1 (s.aioCfg n 7)) ≠ 0)
    || (s.aioCfg n 9 = 1 && pointFormat (s.aioCfg n 0x11) ≠ 0)
    || (s.aioCfg n 0x0E ≠ 0 && (avg = 0 || avg % 5 ≠ 0))

/-- AIO STATUS (09 R475). -/
def State.aioStatus (s : State) (n : Nat) : Nat :=
  let x := s.aio n
  ofBool x.under + 2 * ofBool x.above + 4 * ofBool x.compliance + 8 * ofBool x.rbMismatch + 16 * ofBool x.limited
    + 32 * ofBool x.cutoff + 64 * ofBool x.surgeEnd.isSome + 128 * ofBool x.txSupply + 256 * ofBool x.carrier
    + 512 * ofBool x.trimLimit + 1024 * ofBool (s.field.va.state ≠ 2) + 2048 * ofBool x.ramping

/-- UNDER and OVER of an input, with their clearing thresholds (09 R456). -/
def State.aioRange (s : State) (n : Nat) (i : Rat) : State :=
  let x := s.aio n
  let under := if x.under then i < 37 / 10 else i < 36 / 10
  let above := if x.above then 209 / 10 < i else 21 < i
  if under = x.under && above = x.above then s
  else (s.updAio n fun x => { x with under := under, above := above }).ev 0x5010
    (leBytes 1 n ++ leBytes 1 (if under then 1 else if above then 2 else 0) ++ f32Bytes i)

/-- A completed conversion of an input: the mean over AVG, range and characteristic (09 R455 to R457, R467). -/
def State.aioSample (s : State) (n : Nat) (i : Rat) (tx : Bool) : State :=
  let keep := max 1 (s.aioCfg n 8 * 1000 / max 1 (s.aioCfg n 7))
  let s := (s.updAio n fun x => { x with samples := (i :: x.samples).take keep, txSupply := tx }).forward (.analog n (f32Of i) (s.aioStatus n))
  let l := (s.aio n).samples
  let mean := rnd64 (l.sum / (l.length : Rat))
  let s := s.updAio n fun x => { x with current := mean }
  let s := s.aioRange n mean
  if (s.aio n).surgeEnd.isSome then s
  else
    let p := s.aioCfg n 0x11
    let bad := (s.aio n).under || (s.aio n).above
    let (v, cut) := s.aioValue n mean
    let put (s : State) (w : Word) : State := if pointNone p then s else s.putWord (pointAddr p) w
    match bad, s.aioCfg n 9 with
    | true, 0 => s
    | true, 1 => (s.updAio n fun x => { x with value := f32NaN }) |> fun s => put s f32NaN
    | _, _ => (s.updAio n fun x => { x with value := f32Of v, cutoff := cut }) |> fun s => put s (pointOfRat (pointFormat p) v)

/-- The command varied by no more than RB_TOL over the last 10 s, with COMPLIANCE, SURGE and RAMPING clear (09 R453). -/
def State.aioStable (s : State) (n : Nat) : Bool :=
  let x := s.aio n
  let recent := x.history.takeWhile fun e => s.now < e.1 + 10000000000
  let before := (x.history.drop recent.length).head?.map (·.2)
  let vals := x.current :: (recent.map (·.2) ++ before.toList)
  let hi := vals.foldl max x.current
  let lo := vals.foldl min x.current
  hi - lo ≤ s.aioF n 0x0F && !x.compliance && x.surgeEnd.isNone && !x.ramping && x.clearAt + 10000000000 ≤ s.now

/-- Trim by the difference between the command and the last mean readback, under the conditions of R453 (log 149). -/
def State.aioTrim (s : State) (n : Nat) : State :=
  let x := s.aio n
  let d := x.current - x.readback
  if !s.aioStable n || absRat d ≤ 2 / 1000 then s
  else
    let new := x.trim + d
    let t := if new < -(1 / 5) then -(1 / 5) else if 1 / 5 < new then 1 / 5 else new
    let limit := 1 / 5 ≤ absRat t
    let s := (s.updAio n fun x => { x with trim := t, trimLimit := limit }).aioDrive n
    let s := s.ev 0x5013 (leBytes 1 n ++ f32Bytes t)
    if limit && !x.trimLimit then s.ev 0x5014 (leBytes 1 n) else s

/-- A change of command greater than `tol` lies less than 2 ms back (09 R452). -/
def settlingIn (now : Nat) (tol : Rat) : List (Nat × Rat) → Bool
  | [] => false
  | [(t, v)] => now < t + 2000000 && tol < absRat v
  | (t, v) :: (u, w) :: l => (now < t + 2000000 && tol < absRat (v - w)) || settlingIn now tol ((u, w) :: l)

/-- The readback of an output against its command (09 R451, R452). -/
def State.aioReadback (s : State) (n : Nat) (i : Rat) : State :=
  let s := s.updAio n fun x => { x with readback := i }
  let x := s.aio n
  let tol := s.aioF n 0x0F
  let settling := settlingIn s.now tol x.history
  if x.ramping || x.surgeEnd.isSome || settling then s.updAio n fun x => { x with rbSince := none }
  else if absRat (i - x.current) ≤ tol then s.updAio n fun x => { x with rbSince := none }
  else
    let since := x.rbSince.getD s.now
    let s := s.updAio n fun x => { x with rbSince := some since }
    if since + 1000000 * s.aioCfg n 0x10 ≤ s.now && !x.rbMismatch then
      (s.updAio n fun x => { x with rbMismatch := true }).ev 0x5012 (leBytes 1 n ++ f32Bytes x.current ++ f32Bytes i)
    else s

/-- A compliance condition that has held for 10 ms, with the terminal voltage (09 R460). -/
def State.aioCompliance (s : State) (n : Nat) (head term : Rat) : State :=
  let out := s.aioCfg n 1 = 2
  let s := s.updAio n fun x => { x with terminal := term }
  let s := s.when (out && (s.aio n).readback ≠ 0) fun s => s.updAio n fun x => { x with loadR := term * 1000 / x.readback }
  let low := if out then head < 1 / 2 else head < 12
  let high := if out then 1 ≤ head else 25 / 2 ≤ head
  let set (s : State) (v : Bool) : State :=
    (s.updAio n fun x => { x with compliance := v, clearAt := s.now }).ev 0x5011 (leBytes 1 n ++ leBytes 1 (ofBool v) ++ f32Bytes term)
  if low && !(s.aio n).compliance then set s true
  else if high && (s.aio n).compliance then set s false
  else s

/-- CMD 1 of an analogue channel clears latched status: RB_MISMATCH (09 R478; log 149). -/
def State.aioClear (s : State) (n : Nat) : State :=
  s.updAio n fun x => { x with rbMismatch := false, rbSince := none }

/-- CMD 1 of a digital channel resets a latched fault; RB_MISMATCH clears with it, as nothing else clears it (09 R440, R442, R476; log 149). -/
def State.dioReset (s : State) (n : Nat) : State :=
  (s.updDio n fun x =>
    if x.latched then { x with latched := false, overload := false, thermal := false, rbMismatch := false, tripAt := none }
    else { x with rbMismatch := false }).dioDrive n

/-- CMD 2 of a digital channel zeroes COUNTER in the next 1 µs input sample (09 R437; log 149). -/
def State.dioZero (s : State) (n : Nat) : State := (s.dioSettle n).updDio n fun x => { x with zeroAt := some ((s.now / 1000 + 1) * 1000) }

/-! FSK (09 R462 to R465) -/

/-- TX_QUEUE of AIOn. -/
def State.fskQueue (s : State) (n : Nat) : Nat := s.cfg (0x2720 + n) 1

/-- The message at the head of an FSK queue, once released. -/
def State.fskHead (s : State) (n : Nat) : Option Msg :=
  match (s.tasks.queues.getD (s.fskQueue n) []).filter (·.landed) with
  | m :: _ => some m
  | [] => none

/-- The bytes of a message: its words in ascending order, little-endian. -/
def msgBytes (m : Msg) : Bytes := packWords m.data

/-! HS words (09 R474) -/

/-- A mask of 32 channels from channel `b`. -/
def maskOf (f : Nat → Bool) (b : Nat) : Nat := ((List.range 32).map fun i => 2 ^ i * ofBool (f (b + i))).sum

/-- HS:512 to 551 (09 R474). -/
def State.fieldHs (s : State) (w : Nat) : Word :=
  let d (f : Dio → Bool) (k : Nat) : Word := BitVec.ofNat 32 (maskOf (fun n => f (s.dio n)) (32 * k))
  if w = 512 ∨ w = 513 then d (·.wireBreak) (w - 512)
  else if w = 514 ∨ w = 515 then d (fun x => x.overload || x.thermal || x.latched) (w - 514)
  else if w = 516 ∨ w = 517 then d (·.openLoad) (w - 516)
  else if w = 518 ∨ w = 519 then d (·.rbMismatch) (w - 518)
  else if w = 520 then
    BitVec.ofNat 32 ((List.range 6).map fun g => 2 ^ g * ofBool ((s.group g).state ≠ 0) + 2 ^ (8 + g) * ofBool ((s.group g).state = 1)).sum
  else if w = 521 then BitVec.ofNat 32 (ofBool (s.field.va.state ≠ 0) + 2 * ofBool (s.field.va.state = 1))
  else if 528 ≤ w ∧ w < 536 then BitVec.ofNat 32 (s.aioStatus (w - 528))
  else if 536 ≤ w ∧ w < 544 then f32Of (s.aio (w - 536)).readback
  else if 544 ≤ w ∧ w < 552 then f32Of (s.aio (w - 544)).terminal
  else 0

/-! The commands -/

/-- VG_STATE: group g's supply stands at `mv` mV (09 R424, R425). -/
def execVgState (t g mv : Nat) (s : State) : Outcome :=
  actUnit t "DIO group" g 6 (fun s =>
    let was := (s.group g).state
    let st := supplyState 18000 18500 was mv
    let s := s.updGroup g (supplyTake s.now st mv)
    let s := s.when (was ≠ st) fun s => s.ev 0x5008 (leBytes 1 g ++ leBytes 1 st ++ f32Bytes ((mv : Rat) / 1000))
    (List.range 8).foldl (fun s i => if s.held && st ≠ 0 then s else s.dioDrive (8 * g + i)) s) s

/-- VA_STATE: VA stands at `mv` mV (09 R424). -/
def execVaState (t mv : Nat) (s : State) : Outcome :=
  act t (fun s =>
    let was := s.field.va.state
    let st := supplyState 19000 19500 was mv
    let s := { s with field := { s.field with va := supplyTake s.now st mv s.field.va } }
    s.when (was ≠ st) fun s => s.ev 0x5018 (leBytes 1 st ++ f32Bytes ((mv : Rat) / 1000))) s

/-- SUPPLY_CHECKS_RESUME: 100 ms after group g's supply left the absent state (09 R425). -/
def execSupplyChecksResume (t g : Nat) (s : State) : Outcome :=
  actUnit t "DIO group" g 6 (fun s =>
    s.when ((s.group g).state ≠ 0 && (s.group g).leftAt + 100000000 ≤ s.now) fun s => s.updGroup g fun x => { x with checks := true }) s

/-- DIO_INPUT_EDGE: the level of DIOn has been stable for FILTER (09 R428). -/
def execDioInputEdge (t n : Nat) (level : Bool) (s : State) : Outcome :=
  actUnit t "DIO" n 48 (fun s => s.when (s.live && s.dioCfg n 1 = 1) fun s =>
    (if s.base = .standby then { s with pair := { s.pair with shadowDio := upd s.pair.shadowDio n fun _ => level } } else s).sensed (.dio n level (s.time - 1000 * s.dioCfg n 3)) fun s => s.dioSample n level) s

/-- OVERRATE_CLEAR: 1 s without a pair of edges less than 5 µs apart (09 R436). -/
def execOverrateClear (t n : Nat) (s : State) : Outcome :=
  actUnit t "DIO" n 48 (fun s =>
    match (s.dio n).overrate with
    | some p => if p + 1000000000 ≤ s.now then s.updDio n fun x => { x with overrate := none } else s
    | none => s) s

/-- DIO_WIRE_BREAK: the accepted level and an input current of `ua` µA have held for 20 ms (09 R430). -/
def execDioWireBreak (t n ua : Nat) (s : State) : Outcome :=
  actUnit t "DIO" n 48 (fun s =>
    let x := s.dio n
    s.when (s.live && s.dioCfg n 1 = 1 && s.dioCfg n 4 ≠ 0 && (s.dioSupply n).checks && x.acceptAt + 20000000 ≤ s.now) fun s =>
      if x.level || 200 ≤ ua then s.wireBreak n false else if ua < 100 then s.wireBreak n true else s) s

/-- FREQUENCY_GATE: a GATE interval of DIOn ends (09 R433). -/
def execFrequencyGate (t n : Nat) (s : State) : Outcome :=
  actUnit t "DIO" n 48 (fun s => s.when (s.live && s.dioCfg n 1 = 1 && s.dioCfg n 6 = 2 && (s.dio n).gateAt + 1000000 * s.dioCfg n 8 ≤ s.now) fun s => s.gate n) s

/-- The output drives, or a command of the present 1 µs sample has switched it off (09 R473). -/
def State.dioDrove (s : State) (n : Nat) : Bool :=
  let x := s.dio n
  x.pin || (!x.cmd && x.cmdAt ≠ 0 && x.cmdAt / 1000 = s.now / 1000 && x.tripAt.isNone && (s.dioSupply n).state ≠ 0 && s.dioCfg n 1 = 2 && s.base ≠ .standby)

/-- DIO_OVERLOAD: the current limit has acted for more than 1 ms, or the junction has reached its shutdown temperature (09 R439, R440, R473). -/
def execDioOverload (t n : Nat) (thermal : Bool) (s : State) : Outcome :=
  actUnit t "DIO" n 48 (fun s =>
    s.when (s.live && s.dioDrove n) fun s =>
      let s := s.updDio n fun x => { x with
        tripAt := some s.now, overload := x.overload || !thermal, thermal := x.thermal || thermal
        latched := s.dioCfg n 0x0B = 0, faults := holdMax 32 (x.faults + 1) }
      (s.ev 0x5002 (leBytes 1 n ++ leBytes 1 (if thermal then 2 else 1))).dioDrive n) s

/-- DIO_RETRY: 100 ms after a switch-off, with RETRY = 1, a channel still commanded is switched on again (09 R440). -/
def execDioRetry (t n : Nat) (s : State) : Outcome :=
  actUnit t "DIO" n 48 (fun s =>
    match (s.dio n).tripAt with
    | some p =>
      s.when (s.live && !(s.dio n).latched && p + 100000000 ≤ s.now) fun s =>
        (s.updDio n fun x => { x with tripAt := none, overload := false, thermal := false }).dioDrive n
    | none => s) s

/-- DIO_OPEN_LOAD: an output that is on has carried less than 5 mA for 50 ms (09 R441). -/
def execDioOpenLoad (t n : Nat) (s : State) : Outcome :=
  actUnit t "DIO" n 48 (fun s =>
    s.when (s.live && (s.dio n).pin && (s.dio n).cmdAt + 50000000 ≤ s.now && !(s.dio n).openLoad) fun s =>
      (s.updDio n fun x => { x with openLoad := true }).ev 0x5003 (leBytes 1 n)) s

/-- OPEN_LOAD_CLEAR: the output has carried 10 mA or more for 50 ms (09 R441). -/
def execOpenLoadClear (t n : Nat) (s : State) : Outcome :=
  actUnit t "DIO" n 48 (fun s => s.when (s.live && (s.dio n).pin) fun s => s.updDio n fun x => { x with openLoad := false }) s

/-- DIO_READBACK: the pin has stood at `level` for 1 ms, of which the first 100 µs after a change of command do not count (09 R442); a standby compares and sets nothing (09 R446). -/
def execDioReadback (t n : Nat) (level : Bool) (s : State) : Outcome :=
  actUnit t "DIO" n 48 (fun s =>
    let x := s.dio n
    let runs := s.live && s.dioCfg n 1 = 2 && s.base ≠ .standby && x.cmdAt + 1100000 ≤ s.now && !x.overload && !x.thermal && !x.latched
      && (s.dioSupply n).checks
    s.when (runs && level ≠ s.dioWanted n && !x.rbMismatch) fun s =>
      (s.updDio n fun x => { x with rbMismatch := true }).ev 0x5004 (leBytes 1 n ++ leBytes 1 (ofBool (s.dioWanted n)))) s

/-- DIO_PULSE_END: the width of a Tread pulse has elapsed (09 R444); it ends in the activation pause too (09 R472). -/
def execDioPulseEnd (t n : Nat) (s : State) : Outcome :=
  actUnit t "DIO" n 48 (fun s =>
    match (s.dio n).pulseEnd with
    | some p =>
      s.when (s.live && p ≤ s.now) fun s => (s.updDio n fun x => { x with cmd := false, cmdAt := s.now, pulseEnd := none }).dioDrive n
    | none => s) s

/-- A sample of the core clock in which analogue settings applied completes with those before (09 R473). -/
def State.withAioWas (s : State) (f : State → State) : State :=
  if s.field.aioAt = some (coreClock s.now) then { f { s with params := s.field.aioWas } with params := s.params } else f s

/-- AIO_SAMPLE: the ADC of AIOn has completed a value of `na` nA; `tx` is the supply limit acting (09 R454, R455). -/
def execAioSample (t n : Nat) (na : Int) (tx : Bool) (s : State) : Outcome :=
  actUnit t "AIO" n 8 (fun s => s.when (s.live && s.aioCfg n 1 = 1) fun s =>
    s.sensed (.analog n (f32Of ((na : Rat) / 1000000)) (s.aioStatus n)) fun s => s.withAioWas fun s => s.aioSample n ((na : Rat) / 1000000) tx) s

/-- AIO_READBACK: the readback path reports a mean of `na` nA (09 R451, R452). -/
def execAioReadback (t n : Nat) (na : Int) (s : State) : Outcome :=
  actUnit t "AIO" n 8 (fun s => s.when (s.live && s.aioCfg n 1 = 2) fun s => s.aioReadback n ((na : Rat) / 1000000)) s


/-- AIO_COMPLIANCE: a headroom of `mv` mV has held for 10 ms, with `tv` mV at the terminals (09 R460). -/
def execAioCompliance (t n : Nat) (mv tv : Int) (s : State) : Outcome :=
  actUnit t "AIO" n 8 (fun s =>
    s.when (s.live && s.aioCfg n 1 ≠ 0 && (s.aio n).surgeEnd.isNone) fun s => s.aioCompliance n ((mv : Rat) / 1000) ((tv : Rat) / 1000)) s

/-- AIO_SURGE: the current in the protection clamp exceeds 1 A (09 R467). -/
def execAioSurge (t n : Nat) (s : State) : Outcome :=
  actUnit t "AIO" n 8 (fun s =>
    s.when s.live fun s => (s.updAio n fun x => { x with surgeEnd := some (s.now + 2000000), clearAt := s.now }).ev 0x5020 (leBytes 1 n)) s

/-- SURGE_END: the 2 ms are over (09 R467). -/
def execSurgeEnd (t n : Nat) (s : State) : Outcome :=
  actUnit t "AIO" n 8 (fun s =>
    match (s.aio n).surgeEnd with
    | some p => if p ≤ s.now then s.updAio n fun x => { x with surgeEnd := none, clearAt := s.now } else s
    | none => s) s

/-- FSK_TX_START: a level of `mvpp` mV peak to peak, with no carrier for `bits` bit times, lets the first released message start (09 R462, R463). -/
def execFskTxStart (t n mvpp bits : Nat) (s : State) : Outcome :=
  actUnit t "AIO" n 8 (fun s =>
    let s := s.updAio n fun x => { x with carrier := if 120 ≤ mvpp then true else if mvpp < 80 then false else x.carrier }
    match s.fskHead n with
    | some m =>
      s.when (s.live && s.base ≠ .standby && s.aioCfg n 0x0E ≠ 0 && !(s.aio n).carrier && 10 ≤ bits && !(s.aio n).sending) fun s =>
        (s.updAio n fun x => { x with sending := true }).emit (.fsk n (msgBytes m) s.now)
    | none => s) s

/-- Remove the first message that has been released. -/
def dropLanded : List Msg → List Msg
  | [] => []
  | m :: ms => if m.landed then ms else m :: dropLanded ms

/-- FSK_TX_DONE: the last character has been sent; the message leaves its queue (09 R463, 05 R790). -/
def execFskTxDone (t n : Nat) (s : State) : Outcome :=
  actUnit t "AIO" n 8 (fun s =>
    s.when (s.live && (s.aio n).sending) fun s =>
      let q := s.fskQueue n
      let s := s.updAio n fun x => { x with sending := false, framesTx := holdMax 32 (x.framesTx + 1) }
      { s with tasks := { s.tasks with queues := upd s.tasks.queues q dropLanded } }) s

/-- One point that the lockstep class reads travels to the standby (12 R595). -/
def State.forwardPoint (s : State) (bit : Bool) (a : Nat) : State :=
  let l := match s.plans.active with | some p => p.lockstep | none => []
  let inSet := l.any fun q => spaceIsBit q.space == bit && spaceBase q.space + q.off ≤ a && a < spaceBase q.space + q.off + q.len
  if s.pair.role ≠ 1 || !inSet then s
  else if bit then s.forward (.bit a (s.liveBit a)) else s.forward (.word a (s.liveWord a))
/-- The points of a range that the lockstep class reads travel to the standby (12 R595). -/
def State.forwardRange (s : State) (r : Range) : State :=
  ((List.range r.len).map (spaceBase r.space + r.off + ·)).foldl (fun s a => s.forwardPoint (spaceIsBit r.space) a) s

/-- A frame has reached block b: its stale bit clears, and event tasks see it (04 R196, R222, R223). -/
def State.freshBlock (s : State) (b : Nat) : State :=
  let x := s.hall.blocks.getD b default
  let s := { s with hall := { s.hall with blocks := upd s.hall.blocks b fun x => { x with stale := false, seen := true } } }
  (s.when x.stale fun s => s.ev 0x3004 (leBytes 1 b ++ leBytes 4 (holdMax 32 (s.now - x.since)))).occurrence 4 b

/-- A frame reaches an input block and is written as one unit (04 R203, R223). -/
def State.blockFrame (s : State) (b : Nat) (data : Bytes) : State :=
  match s.plans.active with
  | none => s
  | some p =>
    match p.blocks[b]? with
    | none => s
    | some blk =>
      let (s, _) := blk.ranges.foldl (fun (a : State × Bytes) r =>
        let n := rangeBytes r
        (a.1.putRange r (a.2.take n), a.2.drop n)) (s, data)
      (blk.ranges.foldl State.forwardRange (s.takeRanges blk.ranges)).freshBlock b

/-- FSK_RX_FRAME: a frame ends by loss of carrier or by a gap; one with an error is discarded; RX_BLOCK 0xFF stands for none (09 R465, R479). -/
def execFskRxFrame (t n : Nat) (data : Bytes) (err lost : Bool) (s : State) : Outcome :=
  actUnit t "AIO" n 8 (fun s =>
    s.when (s.live && s.aioCfg n 0x0E ≠ 0) fun s =>
      let s := s.updAio n fun x => { x with carrier := !lost }
      if err then s.updAio n fun x => { x with errors := holdMax 32 (x.errors + 1) }
      else
        let s := s.updAio n fun x => { x with framesRx := holdMax 32 (x.framesRx + 1) }
        if s.cfg (0x2720 + n) 2 = 0xFF then s else s.blockFrame (s.cfg (0x2720 + n) 2) data) s

end Sys2Proof.Machine
end

