-- ==== Sys2Proof/Machine/Firing.lean ====
section
/-! DEFINITION. Heads that come due, placed edges and remote triggers, with their commands (03 R141 to R163). -/
namespace Sys2Proof.Machine

/-- The engine's gates on a source: ENABLE, a VALID source that does not run backwards, and PTP for a remote one (03 R148, R149, R158, R169). -/
def State.comparing (s : State) (src : Nat) : Bool :=
  let r := s.src src
  s.tracking && s.cfgOn 0x2100 1 && r.valid && !r.reverse
    && (s.cfg (0x2104 + src) 1 = 0 || s.clock.ptpValid)

/-- REMOTE_LEAD of a source in µs, or none for a local source (03 R143, R155). -/
def State.lead (s : State) (src : Nat) : Option Nat :=
  if s.cfg (0x2104 + src) 1 = 0 then none else some (s.cfg (0x2104 + src) 2)

/-- d of a source's head: to x̂, or to the position predicted REMOTE_LEAD ahead (03 R144, R155). -/
def State.headAhead (s : State) (src : Nat) (e : WinEnt) : Int :=
  let d := s.ahead src (s.due e)
  match s.lead src with
  | none => d
  | some l =>
    let r := s.src src
    if r.standstill then d else d - estRound ((s.vhat src : Rat) * l + (r.a : Rat) * l * l / 2)

/-- The head moves on after a firing: next repeat, next entry, or completion of the Flight (03 R133, R138, R141). -/
def State.advanceHead (s : State) (src : Nat) : State :=
  match (s.tsrc src).window, (s.tsrc src).running with
  | e :: rest, some f =>
    if e.k < treadRepeats (s.tread e.tread) then
      (s.updTsrc src fun r => { r with window := { e with k := e.k + 1 } :: rest }).judgeHead src
    else
      let last := s.due e
      let s := (s.updTsrc src fun r => { r with window := rest }).refill src
      if s.runEmpty src f then s.completeRun src f last else s.judgeHead src
  | _, _ => s

/-- Lateness of event 0x2021: distance over velocity, to the nearest ns (03 R159). -/
def State.lateness (s : State) (src : Nat) (d : Int) : Nat :=
  let v := s.vhat src
  if v ≤ 0 then 0xFFFFFFFF else holdMax 32 (roundAway ((-d : Int) * 1000 / (v : Rat))).toNat

/-- A LAUNCH: the task joins G3's pending launches, or the launch is dropped (03 R162, 04 R192, R193). -/
def State.launch (s : State) (task tread : Nat) : State :=
  let running := (s.tasks.tasks.getD task default).phase ≠ .idle
  if running || 16 ≤ s.tasks.launches.length || s.tasks.launches.any (·.1 = task) then
    let s := { s with
      treads := { s.treads with launchDropped := holdMax 32 (s.treads.launchDropped + 1) }
      tasks := { s.tasks with tasks := upd s.tasks.tasks task fun t => { t with missed := holdMax 32 (t.missed + 1) } } }
    s.ev 0x2024 (leBytes 1 task ++ leBytes 2 tread)
  else { s with tasks := { s.tasks with launches := s.tasks.launches ++ [(task, tread)] } }

/-- A firing is made. -/
def State.fired (s : State) (e : WinEnt) : State :=
  { s with treads := { s.treads with firedTotal := holdMax 64 (s.treads.firedTotal + 1) } }.result 1 (leBytes 2 e.tread ++ leBytes 4 e.k)

/-- The action of a due head, with `dt` ns to the crossing (03 R125, R145, R146, R155). A REMOTE firing counts when its frame leaves. -/
def State.action (s : State) (src : Nat) (e : WinEnt) (dt : Int) : State :=
  let w := s.tread e.tread
  let op := treadOperand w
  match treadAction w with
  | 0 => s.fired e
  | 1 => (s.fired e).trgCommit (op % 16) (op / 16 % 64) e.tread dt
  | 2 => (s.fired e).dioAction (op % 64) (op / 64 % 4) (op / 256)
  | 3 => (s.fired e).launch (op % 64) e.tread
  | 4 => (s.fired e).sampleLoop op
  | 5 => (s.fired e).sampleGroup (op % 64)
  | 6 =>
    let fire := ((s.time : Int) + ((s.lead src).getD 0 * 1000 : Nat) + dt).toNat
    s.updTsrc src fun r => { r with frames := r.frames ++ [⟨e.tread, e.flight, op % 256, op / 256, fire, s.due e⟩] }
  | _ => (s.fired e).ev 0x2030 (leBytes 2 e.tread ++ leBytes 2 op ++ leBytes 8 (s.src src).lpc.toNat)

/-- A head is skipped by its late policy (03 R157, R159). -/
def State.skipHead (s : State) (e : WinEnt) : State :=
  (s.miss e.flight 1).ev 0x2022 (leBytes 2 e.tread ++ leBytes 1 e.flight ++ leBytes 1 1)

/-- A local head fires late: counted, and recorded with its lateness (03 R159). -/
def State.lateHead (s : State) (src : Nat) (e : WinEnt) (d : Int) : State :=
  let s := s.updFlight e.flight fun x => { x with late := holdMax 32 (x.late + 1) }
  let s := { s with treads := { s.treads with lateTotal := holdMax 32 (s.treads.lateTotal + 1) } }
  s.ev 0x2021 (leBytes 2 e.tread ++ leBytes 1 e.flight ++ leBytes 4 (s.lateness src d))

/-- A firing of a source at an edge time and lateness is the last of the present run (03 R142). -/
def State.noteDue (s : State) (src : Nat) (p : Dword) (base : Nat) (late : Bool) : State :=
  s.updTsrc src fun r => { r with lastDue := some (p, base, late) }

/-- The head of a source fires, or is skipped as late, or is counted in the activation pause; a firing at the due position of the one
before keeps its predicted time (03 R142, R159, R161, R163). -/
def State.fireHead (s : State) (src : Nat) (e : WinEnt) (d dt : Int) : State :=
  let p := s.due e
  let base : Nat := match s.sameDue src p with | some x => x.1 | none => ((s.now : Int) + dt).toNat
  let dt := if (s.lead src).isNone then (base : Int) - (s.now : Int) else dt
  if s.pausing then
    let s := s.miss e.flight 1
    { s with treads := { s.treads with pauseSkipped := holdMax 32 (s.treads.pauseSkipped + 1) } }.advanceHead src
  else if (s.lead src).isNone && (s.tsrc src).headLate && d < 0 then
    if bitAt (s.flPolicy e.flight) 2 then (s.skipHead e).advanceHead src
    else (((s.lateHead src e d).action src e dt).noteDue src p base true).advanceHead src
  else ((s.action src e dt).noteDue src p base false).advanceHead src

/-- Time to crossing in whole ns; the rounding is free (03 R145, log 15). -/
def State.tauNs (s : State) (src : Nat) (d : Int) : Int :=
  match s.tau src d with | some x => edgeRound x | none => 0

/-- The first Tread of a Flight stands at the anchor in the position clock in which the Flight anchored: it fires in that clock (03 R168). -/
def State.atAnchor (s : State) (src : Nat) (e : WinEnt) : Bool :=
  match (s.tsrc src).anchoredAt with
  | some t => (s.lead src).isNone && e.k = 0 && e.tread = s.flFirst e.flight && s.due e = (s.flight e.flight).anchor && s.now < t + 4
  | none => false

/-- What acts before a head that comes due in the same position clock, and keeps it from firing: the abort of its Flight, a preset of
its source, the loss of its source (03 R168; log 137). -/
def State.headWaits (s : State) (src : Nat) : Bool :=
  let f := (s.tsrc src).running
  (s.tasks.armf.any fun c => some c.1 = f && c.2.1 = 3 && posClock c.2.2 ≤ posClock s.now)
    || (s.pair.lag.any fun e => match e.2 with
      | .cmd (.flCmd g 3 _) => some g = f && posClock e.1 ≤ posClock s.time
      | _ => false)
    || s.coming posClock fun c => match c with
    | .flAbort _ _ g => some g = f
    | .presetNow _ _ i => i = src
    | .majorLanding _ => (match (s.src src).preset with | some (.atLanding _) => true | _ => false)
    | .zEdge _ n => (match (s.src src).preset with | some (.atZ _) => s.srcCfg src 0x0F = n | _ => false)
    | .encLineFault _ n pair => (s.src src).active = 2 ^ n && bitAt (s.pairsInUse n) pair
    | .importHoldover _ i => i = src && (s.src src).sampleAt + 1000 * s.srcCfg src 0x1A ≤ s.now
    | _ => false

/-- A head comes due when d ≤ 0, or at its anchor (03 R145, R155, R168). -/
def State.treadDue (s : State) (src : Nat) : State :=
  let s := s.fillNow src
  match (s.tsrc src).window with
  | [] => s
  | e :: _ =>
    let d := s.headAhead src e
    if s.comparing src && !s.headWaits src && (d ≤ 0 || s.atAnchor src e) then
      s.fireHead src e d (if (s.lead src).isSome || 0 < d then s.tauNs src d else 0)
    else s

/-- A TRG head is committed when 0 < τ ≤ 256 ns, or when it becomes due (03 R145). -/
def State.trgCommitHead (s : State) (src : Nat) : State :=
  let s := s.fillNow src
  match (s.tsrc src).window with
  | [] => s
  | e :: _ =>
    let d := s.headAhead src e
    if !s.comparing src || s.headWaits src || treadAction (s.tread e.tread) ≠ 1 || (s.lead src).isSome then s
    else if d ≤ 0 then s.fireHead src e d 0
    else if s.atAnchor src e then s.fireHead src e d (s.tauNs src d)
    else
      match s.tau src d with
      | some x => if x ≤ 256 then s.fireHead src e d (s.tauNs src d) else s
      | none => s

/-- A head of a source is due within 4 µs, or fired within the last 4 µs (12 R614). -/
def State.headNear (s : State) (src : Nat) : Bool :=
  let s := s.fillNow src
  let fired := match (s.tsrc src).lastDue with | some x => s.now < x.2.1 + 4000 | none => false
  fired || match (s.tsrc src).window with
    | [] => false
    | e :: _ =>
      let d := s.headAhead src e
      s.comparing src && (d ≤ 0 || match s.tau src d with | some x => x ≤ 4000 | none => false)

/-- After the pause, every firing behind x̂ is discarded and event 0x2029 carries the count (03 R163). -/
def State.discardPaused (s : State) : State :=
  let s := (List.range 4).foldl (fun s i =>
    let (s, k) := s.dropBehind i 0 16384
    ({ s with treads := { s.treads with pauseSkipped := holdMax 32 (s.treads.pauseSkipped + k) } }).judgeHead i) s
  s.ev 0x2029 (leBytes 4 (s.treads.pauseSkipped - s.treads.pauseBase))

/-! The commands -/

/-- TRG_COMMIT: the head of a source is within 256 ns of its crossing (03 R145). -/
def execTrgCommit (t src : Nat) (s : State) : Outcome :=
  actUnit t "position source" src 4 (fun s => s.lagged fun s => s.trgCommitHead src) s

/-- TRG_EDGE: the time of the first committed edge of a channel has come (03 R152). -/
def execTrgEdge (t c : Nat) (s : State) : Outcome :=
  actUnit t "TRG" c 16 (fun s => s.when s.live fun s => s.trgEdge c) s

/-- TRG_PULSE_END: the width of a KIND 0 pulse has elapsed (03 R152). -/
def execTrgPulseEnd (t c : Nat) (s : State) : Outcome :=
  actUnit t "TRG" c 16 (fun s => s.when s.live fun s => s.trgPulseEnd c) s

/-- TRG_IDLE_CHANGE: a new IDLE level takes the output (03 R152). -/
def execTrgIdleChange (t c : Nat) (s : State) : Outcome :=
  actUnit t "TRG" c 16 (fun s => s.when s.live fun s => s.trgIdleChange c) s

end Sys2Proof.Machine
end

