-- ==== Sys2Proof/Machine/Motion.lean ====
section
/-! DEFINITION. Encoder and position source commands (02). -/
namespace Sys2Proof.Machine

/-- An accepted Z edge at instant `t`: latched after the count of its sample, counted, its spacing checked; presets and anchors that
wait for it act (02 R52, R54, R55, R95; 03 R130). -/
def State.zEdge (s : State) (n t : Nat) : State :=
  let s := s.takeCounts encClock (2 ^ n)
  let mode := s.encCfg n 8
  let e := s.enc n
  let raw := e.raw
  let want : Int := (s.encCfg n 4 * s.encCfg n 2 : Nat)
  let spacing := match e.zRef with | some r => raw - r | none => want
  let bad := mode = 2 && spacing.natAbs ≠ want.natAbs
  let s := s.updEnc n fun e => { e with
    zAt := t, zLatch := raw, zCount := holdMax 32 (e.zCount + 1), zRef := some raw
    zErr := if bad then holdMax 32 (e.zErr + 1) else e.zErr }
  let s := s.when bad fun s => s.ev 0x2003 (leBytes 1 n ++ leBytes 8 (pattern 64 spacing))
  (s.presetsAtZ n).anchorEvent 1 n fun s i => (s.src i).lpc

/-- A rising Z edge is accepted by the filter and the gate (02 R47, R53). -/
def State.zGate (s : State) (n : Nat) : Bool :=
  let g := s.encCfg n 9
  s.held5 n (s.enc n).zAt 2 && (!bitAt g 2 || ((s.enc n).a == bitAt g 0 && (s.enc n).b == bitAt g 1))

/-- Pairs of an input, as a mask, fall below 200 mV; one in use faults the input, after the counts of its position clock (02 R64, R84). A
standby shadows the fault (12 R596). -/
def State.linesLow (s : State) (n pairs : Nat) : State :=
  let s := s.updEnc n fun e => { e with low := Nat.lor e.low pairs }
  s.when (Nat.land (s.pairsInUse n) pairs ≠ 0) fun s => s.sensed (.encSlot n 0 0 2 s.time) fun s =>
    (((s.takeCounts posClock (2 ^ n)).faultEnc n).ev 0x2001 (leBytes 1 n ++ leBytes 1 (s.lineFault n))).forward (.encSlot n 0 0 2 s.time)

/-- A pair is at 200 mV or more again; a quadrature input that awaits its first sample has it when no pair in use is low (02 R44, R64, R65). -/
def State.lineHigh (s : State) (n pair : Nat) : State :=
  let was := s.lineFault n
  let s := s.updEnc n fun e => { e with low := setBit e.low pair false }
  if was ≠ 0 && s.lineFault n = 0 then
    (s.updEnc n fun e => { e with faultAt := s.now, awaiting := e.awaiting && s.encMode n = 2 }).refreshSources
  else s

/-! The commands -/

/-- ENCODER_COUNT: the accepted levels of A and B of ENCn are now `a` and `b` (02 R45). One that was taken ahead of its turn has acted. -/
def execEncoderCount (t n : Nat) (a b : Bool) (s : State) : Outcome :=
  actUnit t "ENC" n 8 (fun s =>
    if (s.enc n).takenAt = some t then s.updEnc n fun e => { e with takenAt := none }
    else s.when s.tracking fun s => s.quadLevels n s.now a b) s

/-- Z_EDGE: a rising Z edge of ENCn (02 R52, R53). -/
def execZEdge (t n : Nat) (s : State) : Outcome :=
  actUnit t "ENC" n 8 (fun s =>
    s.when (s.tracking && s.encMode n = 1 && s.encCfg n 8 ≠ 0 && s.zGate n) fun s =>
      s.sensed (.encSlot n 0 0 1 s.time) fun s => (s.zEdge n s.now).forward (.encSlot n 0 0 1 s.time)) s

/-- SSI_READ: a read of ENCn that began at `t0` completes with its raw bits, error bit and parity bit (02 R57 to R63). -/
def execSsiRead (t n t0 raw : Nat) (err par : Bool) (s : State) : Outcome :=
  actUnit t "ENC" n 8 (fun s =>
    s.when (s.tracking && s.encMode n = 2) fun s =>
      s.sensed (.ssi n raw err par (s.time - (s.now - t0))) fun s => (s.ssiRead n t0 raw err par).forward (.ssi n raw err par (s.time - (s.now - t0)))) s

/-- ABS_START_LOADED: a read of an SSI input that some source awaits completes (02 R102). -/
def execAbsStartLoaded (t n t0 raw : Nat) (err par : Bool) (s : State) : Outcome :=
  actUnit t "ENC" n 8 (fun s =>
    s.when (s.tracking && s.encMode n = 2 && s.line.srcs.any (fun r => r.awaitAbs = some n)) fun s =>
      s.sensed (.ssi n raw err par (s.time - (s.now - t0))) fun s => (s.ssiRead n t0 raw err par).forward (.ssi n raw err par (s.time - (s.now - t0)))) s

/-- ENC_LINE_FAULT: pair 0 A, 1 B or 2 Z of ENCn has been below 200 mV for 1 µs (02 R64). -/
def execEncLineFault (t n pair : Nat) (s : State) : Outcome :=
  actUnit t "ENC" n 8 (fun s =>
    s.when (s.live && pair < 3) fun s => s.linesLow n (2 ^ pair)) s

/-- LINE_FAULT_CLEAR: a pair of ENCn has been at 200 mV or more for 1 µs (02 R64). -/
def execLineFaultClear (t n pair : Nat) (s : State) : Outcome :=
  actUnit t "ENC" n 8 (fun s => s.when (s.live && pair < 3) fun s => s.lagged fun s => s.lineHigh n pair) s

/-- FAULT_READMIT: a faulted input has been free of faults for 100 ms (02 R65). -/
def execFaultReadmit (t n : Nat) (s : State) : Outcome :=
  actUnit t "ENC" n 8 (fun s => s.lagged fun s =>
    s.when (s.live && (s.enc n).faulted && s.lineFault n = 0 && (s.enc n).faultAt + 100000000 ≤ s.now) fun s =>
      (s.updEnc n fun e => { e with faulted := false, ssiBad := 0 }).refreshSources) s

/-- ESTIMATOR_TICK: at an instant of its grid, a source predicts, corrects and publishes (02 R85, R111). -/
def execEstimatorTick (t i : Nat) (s : State) : Outcome :=
  actUnit t "position source" i 4 (fun s => s.when s.tracking fun s => s.lagged fun s =>
    s.when (s.onGrid i && (s.src i).tickAt ≤ s.now) fun s => s.estimatorTick i) s

/-- STANDSTILL: no count has reached a source for STILL_TIME (02 R89). No count reaches an imported source, and the model never sets
STANDSTILL on one (log 139). -/
def execStandstill (t i : Nat) (s : State) : Outcome :=
  actUnit t "position source" i 4 (fun s => s.lagged fun s =>
    s.when (s.tracking && s.srcCfg i 1 = 0 && !(s.src i).standstill && (s.src i).lastCount + 1000000 * s.srcCfg i 6 ≤ s.now) fun s =>
      s.updSrc i fun r => { r with v := 0, a := 0, standstill := true }) s

/-- A sample of the stream of source i waits in the present position clock (02 R108). -/
def State.sampleComing (s : State) (i : Nat) : Bool :=
  s.coming posClock fun c => match c with
    | .roseloPositionRx _ _ _ major minor stream _ valid _ _ _ _ => major = 1 && 1 ≤ minor && stream = s.srcCfg i 0x18 && valid
    | _ => false

/-- IMPORT_STALE: no sample of an imported source for STALE_TIME, nor in this position clock; the sender lock is free (02 R107, R108, 10 R526). -/
def execImportStale (t i : Nat) (s : State) : Outcome :=
  actUnit t "position source" i 4 (fun s =>
    s.when (s.tracking && s.srcCfg i 1 = 1 && !(s.src i).stale && !s.sampleComing i && (s.src i).sampleAt + 1000 * s.srcCfg i 0x19 ≤ s.now) fun s =>
      (s.updSrc i fun r => { r with stale := true, sender := none }).ev 0x2017 (leBytes 1 i ++ leBytes 1 (s.srcCfg i 0x18))) s

/-- IMPORT_HOLDOVER: no sample until HOLDOVER; the source is lost (02 R107). -/
def execImportHoldover (t i : Nat) (s : State) : Outcome :=
  actUnit t "position source" i 4 (fun s =>
    s.when (s.tracking && s.srcCfg i 1 = 1 && !(s.src i).lost && (s.src i).sampleAt + 1000 * s.srcCfg i 0x1A ≤ s.now) fun s =>
      s.loseSource i) s

end Sys2Proof.Machine
end

