-- ==== Sys2Proof/Machine/Engines.lean ====
section
/-! DEFINITION. Commands of the Loop Engine and the Dispatcher that no client sends (07, 08). -/
namespace Sys2Proof.Machine

/-- CLASS_PERIOD of a rate class in ns (07 R349). -/
def State.classPeriod (s : State) (k : Nat) : Nat := 1000 * s.cfg 0x3EFF (0x28 + k)

/-- An evaluation, and the field output that its OUT_POINT feeds (07 R354, 09 R449). -/
def State.evaluateNext (s : State) : State :=
  let s := s.engineBegin
  match s.loops.current with
  | none => s
  | some e =>
    s.when (e.endAt ≤ s.now) fun s =>
      let s := s.loopEvaluation e
      s.takeOutputs (fun _ => false) fun a => a = pointAddr (e.cfg.getD 0x12 0)

/-- CLASS_TICK: rate class k ticks, n × CLASS_PERIOD from the start of Run (07 R350, R351). -/
def execClassTick (t k : Nat) (s : State) : Outcome :=
  actUnit t "rate class" k 8 (fun s => s.lagged fun s =>
    let p := s.classPeriod k
    s.when (s.loopsRun && p ≠ 0 && (s.now - s.tasks.runAt) % p = 0) fun s => s.classTick k) s

/-- LOOP_EVALUATION: the evaluation of the next latched sample ends, 50 core clocks after it began (07 R352, R354, R369). -/
def execLoopEvaluation (t : Nat) (s : State) : Outcome :=
  act t (fun s => s.when s.live fun s => s.lagged State.evaluateNext) s

/-- DISPATCH_EVAL_DONE: 3,600 µs after its start an evaluation completes (08 R399). -/
def execDispatchEvalDone (t : Nat) (s : State) : Outcome :=
  act t (fun s => s.when s.live State.dspDone) s

end Sys2Proof.Machine
end

