-- ==== Sys2Proof/Machine/Network.lean ====
section
/-! DEFINITION. Ethernet ports, process frames, PTP and Roselo, with their commands (10 R481 to R496, R520 to R532). -/
namespace Sys2Proof.Machine

def State.port (s : State) (p : Nat) : Port := s.net.ports.getD p default
def State.updPort (s : State) (p : Nat) (f : Port → Port) : State := { s with net := { s.net with ports := upd s.net.ports p f } }
def State.portCfg (s : State) (p sub : Nat) : Nat := s.cfg (0x1200 + p) sub

/-- A port can send: enabled, with link, and not absent from the wire. -/
def State.canSend (s : State) (p : Nat) : Bool := s.live && s.mode ≠ .boot && s.cfgOn (0x1200 + p) 1 && (s.port p).link ≠ 0

/-- PCP of a frame that leaves port p (10 R483). -/
def State.framePcp (s : State) (p : Nat) : Emission → Nat
  | .ptp _ _ => 7
  | .roselo _ _ _ => 6
  | .udp _ _ _ _ => 5
  | .bamcon _ _ _ _ => s.portCfg p 8
  | _ => 0

/-- Send a frame by a port, tagged with its VID, or drop it and count it (10 R483). -/
def State.transmit (s : State) (p : Nat) (e : Emission) : State :=
  if s.canSend p then (s.updPort p fun x => { x with txFrames := holdMax 32 (x.txFrames + 1) }).emit (.tagged (s.framePcp p e) (s.portCfg p 7) e)
  else s.updPort p fun x => { x with txDropped := holdMax 32 (x.txDropped + 1) }

/-- A frame reached a port. -/
def State.received (s : State) (p : Nat) : State := s.updPort p fun x => { x with rxFrames := holdMax 32 (x.rxFrames + 1) }
def State.discarded (s : State) (p : Nat) : State := s.updPort p fun x => { x with rxDiscarded := holdMax 32 (x.rxDiscarded + 1) }

/-- The addresses that a port answers: its own, and PAIR_IP on the active module (10 R484, 12 R622). -/
def State.ownIp (s : State) (p ip : Nat) : Bool :=
  ip ≠ 0 && ((s.port p).ip = ip || (s.pair.role = 1 && s.cfg 0x1400 (0x13 + p) = ip))

/-- The MAC of a resolved address; multicast needs none (10 R495). -/
def State.resolved (s : State) (p ip : Nat) : Bool :=
  (224 ≤ ip / 2 ^ 24 && ip / 2 ^ 24 < 240) || (s.port p).arp.any (·.1 = ip)

/-- Send a datagram; an unresolved destination drops it (10 R495). -/
def State.datagram (s : State) (p ip udpPort : Nat) (d : Bytes) : State :=
  if s.resolved p ip then s.transmit p (.udp p ip udpPort d)
  else s.updPort p fun x => { x with txDropped := holdMax 32 (x.txDropped + 1) }

/-- Close a session slot and record why: 1 idle, 2 phase 3, 3 address lost (10 R505). Its transfers stay (R517). -/
def State.closeSession (s : State) (k cause : Nat) : State :=
  let x := s.net.bamcon.sessions.getD k default
  let b := s.net.bamcon
  let s := { s with net := { s.net with bamcon := { b with
    sessions := upd b.sessions k fun _ => default
    subs := b.subs.filter (·.session ≠ x.number)
    waits := b.waits.filter (·.session ≠ x.number) } } }
  s.when (x.state = 2) fun s => s.ev 0x6021 (leBytes 1 k ++ leBytes 1 cause)

/-- A port loses its address: its sessions close (10 R505). -/
def State.loseAddress (s : State) (p : Nat) : State :=
  let s := s.updPort p fun x => { x with ip := 0 }
  (List.range 16).foldl (fun s k =>
    let x := s.net.bamcon.sessions.getD k default
    if x.state ≠ 0 && x.link = p then s.closeSession k 3 else s) s

/-! Process frames (10 R492, R493, R496) -/

/-- COUNTER is newer than the last one accepted (10 R496). -/
def newer (count last : Nat) : Bool :=
  let d := (count + 2 ^ 32 - last) % 2 ^ 32
  1 ≤ d && d < 2 ^ 31

/-- The input blocks of a port and a UDP port (10 R492). -/
def State.framesAt (s : State) (p udpPort : Nat) : List InFrame :=
  match s.plans.active with
  | some pl => pl.inFrames.filter fun (f : InFrame) => bitAt f.ports p && f.udpPort = udpPort
  | none => []
/-- Source and length are those of the block. -/
def frameFits (ip : Nat) (d : Bytes) (f : InFrame) : Bool := (f.ip = 0 || f.ip = ip) && f.len = d.length
/-- With HEADER = 1, COUNTER is not newer than the last one accepted (10 R496). -/
def State.frameOld (s : State) (d : Bytes) (f : InFrame) : Bool :=
  f.header && match s.net.inCount.find? (·.1 = f.block) with | some l => !newer (leNat (d.take 4)) l.2 | none => false

/-- The input blocks for which a datagram would be accepted (10 R492, R496). -/
def State.frameBlocks (s : State) (p ip udpPort : Nat) (d : Bytes) : List Nat :=
  ((s.framesAt p udpPort).filter fun f => frameFits ip d f && !s.frameOld d f).map (·.block)

/-- A datagram arrives for the input blocks of a port; every block that it matches takes it (10 R492). -/
def State.processFrame (s : State) (p ip udpPort : Nat) (d : Bytes) : State :=
  let fs := s.framesAt p udpPort
  let reject (s : State) : State := { s with net := { s.net with rejected := holdMax 32 (s.net.rejected + 1) } }
  if fs.isEmpty then s.discarded p
  else if !fs.any (frameFits ip d) then reject s
  else
    (fs.filter (frameFits ip d)).foldl (fun s f =>
      if s.frameOld d f then reject s
      else
        let s := if f.header then { s with net := { s.net with inCount := (f.block, leNat (d.take 4)) :: s.net.inCount.filter (·.1 ≠ f.block) } } else s
        s.blockFrame f.block (if f.header then d.drop 8 else d)) s

/-! PTP (10 R486 to R491) -/

/-- The ports that PTP uses (10 R487). -/
def State.ptpPorts (s : State) : List Nat :=
  match s.cfg 0x1210 1 with
  | 0 => []
  | 3 => [0, 1]
  | _ => [s.cfg 0x1210 3 % 2]

/-- Rebase the clock at this instant with a new time and frequency. -/
def State.setClock (s : State) (time : Nat) (ppb : Int) : State :=
  { s with clock := { s.clock with refNow := s.now, refTime := time, ppb := ppb } }

/-- PTP becomes valid or invalid; imported sources need it (10 R490, 02 R109). -/
def State.setPtpValid (s : State) (v : Bool) (cause : Nat) : State :=
  if s.clock.ptpValid = v then s
  else
    let s := { s with clock := { s.clock with ptpValid := v } }
    if v then s.ev 0x6010 (leBytes 8 s.net.ptp.gm)
    else
      let s := s.ev 0x6011 (leBytes 1 cause)
      (List.range 4).foldl (fun s i => if s.srcCfg i 1 = 1 && !(s.src i).lost && (s.src i).enabled then s.loseSource i else s) s

/-- Every PTP port is MASTER, and the time has been set: VALID (10 R490). -/
def State.masterValid (s : State) : State :=
  let ps := s.ptpPorts
  if !ps.isEmpty && ps.all (fun p => (s.port p).ptp = 6) && s.net.ptp.timeSet then s.setPtpValid true 0 else s

/-- A free frequency adjustment within ±500 ppm; the spec bounds it and does not state it (10 R489, log 16). -/
def State.freePpb (s : State) : Int := ((s.free 32).toNat % 1000001 : Nat) - 500000

/-- PTP time steps: queued trigger frames follow it (10 R489, R529). -/
def State.stepTime (s : State) (step : Int) : State :=
  let s := s.setClock ((s.time : Int) + step).toNat s.clock.ppb
  let move (f : TrigFrame) : TrigFrame := { f with fire := ((f.fire : Int) + step).toNat }
  { s with treads := { s.treads with srcs := s.treads.srcs.map fun (r : TreadSrc) => { r with frames := r.frames.map move } } }

/-- A Sync exchange gives an offset from the master and a mean path delay (10 R489, R490). -/
def State.ptpSync (s : State) (offset : Int) (delay : Nat) : State :=
  let big := (s.cfg 0x1210 9 : Int) < offset.natAbs
  let s := { s with net := { s.net with ptp := { s.net.ptp with offset := offset, delay := delay } } }
  let s :=
    if big then
      let s := (s.stepTime (-offset)).ev 0x6012 (leBytes 8 (pattern 64 (-offset)))
      { s with net := { s.net with ptp := { s.net.ptp with steps := holdMax 32 (s.net.ptp.steps + 1) } } }
    else (s.setClock s.time s.freePpb).spend
  let ok := offset.natAbs ≤ s.cfg 0x1210 8
  let good : Nat := if ok then s.net.ptp.good + 1 else 0
  let bad : Nat := if ok then 0 else s.net.ptp.bad + 1
  let s := { s with net := { s.net with ptp := { s.net.ptp with good := good, bad := bad } } }
  if 8 ≤ good then s.setPtpValid true 0 else if 4 ≤ bad then s.setPtpValid false 1 else s

/-! Roselo (10 R520 to R529) -/

def State.roseloOn (s : State) (p : Nat) : Bool := bitAt (s.cfg 0x2500 1) p
def State.updRoselo (s : State) (f : Roselo → Roselo) : State := { s with net := { s.net with roselo := f s.net.roselo } }

/-- MINOR_USE of a port: the lowest announced within the last 1 s, its own included (10 R523). -/
def State.minorUse (s : State) (p : Nat) : Nat :=
  ((s.net.roselo.stations.filter fun x => x.1 = p && s.now < x.2.2.2 + 1000000000).map (·.2.2.1)).foldl min 2

/-- Take MINOR_USE anew; a change is recorded (10 R523). -/
def State.refreshMinor (s : State) (p : Nat) : State :=
  let m := s.minorUse p
  if s.net.roselo.minor.getD p 2 = m then s
  else (s.updRoselo fun r => { r with minor := upd r.minor p fun _ => m }).ev 0x6030 (leBytes 1 p ++ leBytes 1 m)

/-- The common header (10 R521). -/
def roseloHeader (minor type_ len seq number : Nat) : Bytes :=
  leBytes 1 (16 + minor) ++ leBytes 1 type_ ++ leBytes 2 len ++ leBytes 2 seq ++ leBytes 1 number ++ [0#8]

/-- Padding to 42 payload bytes (10 R520). -/
def roseloPad (b : Bytes) : Bytes := b ++ List.replicate (42 - b.length) 0#8

/-- A position frame of a source's published sample (10 R521, R524). -/
def positionFrame (minor seq id : Nat) (x : Pub) : Bytes :=
  let b := leBytes 8 x.stamp ++ leBytes 8 x.lpc.toNat ++ leBytes 8 (pattern 64 x.v) ++ leBytes 4 (f32Of ((x.a : Rat) / 2 ^ 32)).toNat
    ++ leBytes 4 x.quality ++ (if 2 ≤ minor then leBytes 4 x.q else [])
  roseloPad (roseloHeader minor 1 (8 + b.length) seq id ++ b)

/-- A trigger frame (10 R521). -/
def triggerFrame (minor seq : Nat) (f : TrigFrame) : Bytes :=
  let b := leBytes 8 f.fire ++ leBytes 1 f.code ++ [0#8] ++ leBytes 2 f.tread ++ (if 2 ≤ minor then leBytes 8 f.pos.toNat else [])
  roseloPad (roseloHeader minor 2 (8 + b.length) seq f.id ++ b)

/-- Roselo multicast addresses: position, trigger, announce (10 R520). -/
def roseloDest (kind n : Nat) : Nat := 0x034C58000000 + kind * 0x10000 + n

/-- Send a Roselo frame on the ports of a mask that have Roselo enabled; answers how many went. A standby sends none (12 R609). -/
def State.roseloSend (s : State) (mask dest : Nat) (body : Nat → Bytes) : State × Nat :=
  let ps := [0, 1].filter fun p => bitAt mask p && s.roseloOn p && s.base ≠ .standby
  (ps.foldl (fun s p => s.transmit p (.roselo p dest (body (s.net.roselo.minor.getD p 2)))) s, ps.length)

/-- An accepted sample of an imported source: the difference to the old propagation is blended out, STALE ends, a lost source recovers
unless PTP is not valid (02 R105 to R109). The first sample of a source that is not VALID sets the position at once, which is the
model's choice (log 139). -/
def State.takeSample (s : State) (i : Nat) (x : Sample) : State :=
  let old := s.xhat i
  let new := (propagate x s.time).1
  let first := (s.src i).sample.isNone && !(s.src i).valid
  let was := (s.src i).lost
  let ok := s.clock.ptpValid && (s.src i).enabled
  let s := s.updSrc i fun r => { r with
    sample := some x, sampleAt := s.now, blend := if first then 0 else wrap96 (old - new), blendAt := s.now, stale := false
    lost := r.lost && !ok, valid := ok }
  s.when (was && ok) fun s => s.ev 0x2013 (leBytes 1 i ++ leBytes 1 0xFF)

/-- A position frame for source i from a sender (10 R525 to R527). -/
def State.importFrame (s : State) (i mac seq : Nat) (valid : Bool) (x : Sample) : State :=
  let r := s.src i
  let sender := if r.heardAt + 1000 * s.srcCfg i 0x19 ≤ s.now then none else r.sender
  let s := if sender = some mac || sender.isNone then s.updSrc i fun r => { r with heardAt := s.now } else s
  let discard (s : State) : State := s.updRoselo fun q => { q with rxDiscarded := holdMax 32 (q.rxDiscarded + 1) }
  let bump (k : Nat) (l : List Nat) : List Nat := upd l i fun n => holdMax 32 (n + k)
  let accept (s : State) : State :=
    let s := s.updSrc i fun r => { r with sender := some mac, lastSeq := seq }
    let s := s.updRoselo fun q => { q with rx := holdMax 32 (q.rx + 1) }
    if valid then (s.updRoselo fun q => { q with accepted := bump 1 q.accepted }).takeSample i x
    else s.updRoselo fun q => { q with invalid := bump 1 q.invalid }
  match sender with
  | none => accept s
  | some m =>
    if m ≠ mac then discard s
    else
      let d := (seq + 65536 - r.lastSeq) % 65536
      if d = 0 then (discard s).updRoselo fun q => { q with dups := bump 1 q.dups }
      else if 32768 ≤ d then discard s
      else if 1 < d then
        accept ((s.updRoselo fun q => { q with gaps := bump (d - 1) q.gaps }).ev 0x6031 (leBytes 1 i ++ leBytes 2 (d - 1)))
      else accept s

/-- The first queued trigger frame of a source leaves, or is withheld as late; one due at its Flight's anchor is not late (03 R156, R157, R160). -/
def State.sendFrame (s : State) (src : Nat) : State :=
  let r := s.tsrc src
  let free := match r.lastSlot with | some t => t + 10000 ≤ s.now | none => true
  match r.frames with
  | [] => s
  | f :: rest =>
    if !free || !s.clock.ptpValid then s
    else
      let lead := f.fire - s.time
      let late := lead < 1000 * s.cfg (0x2104 + src) 3 && f.pos ≠ (s.flight f.flight).anchor
      let e : WinEnt := ⟨f.tread, f.flight, f.pos, 0⟩
      let s := s.updTsrc src fun r => { r with frames := rest }
      if late && bitAt (s.flPolicy f.flight) 2 then s.skipHead e
      else
        let s := s.when late fun s =>
          let s := s.updFlight f.flight fun x => { x with late := holdMax 32 (x.late + 1) }
          { s with treads := { s.treads with lateTotal := holdMax 32 (s.treads.lateTotal + 1) } }.ev 0x2028
            (leBytes 2 f.tread ++ leBytes 1 f.id ++ leBytes 4 lead)
        let n := sget 0 s.net.roselo.sent f.id
        let (s, k) := s.roseloSend (s.cfg (0x2520 + f.id / 128) (f.id % 128 + 1)) (roseloDest 1 f.id) fun m => triggerFrame m (n % 65536) f
        let s := s.when (0 < k || s.base = .standby) fun s => s.updRoselo fun q => { q with sent := sput 0 q.sent f.id (n + 1), trgTx := holdMax 32 (q.trgTx + ofBool (0 < k)) }
        (s.fired e).updTsrc src fun r => { r with lastSlot := some s.now }

/-! The commands -/

/-- A port without an address asks for a lease, or probes IP_ADDR with ARP (10 R484). -/
def State.probe (s : State) (p : Nat) : State :=
  let s := s.when (s.portCfg p 3 = 1 && !(s.port p).lease) fun s => s.transmit p (.dhcp p)
  s.when (s.portCfg p 4 ≠ 0 && !(s.port p).lease) fun s => s.transmit p (.arp p (s.portCfg p 4) false)

/-- LINK_CHANGE: the link of a port is now 0 down, 1 or 2 by speed (10 R483; R505); a PHY that has retrained resynchronises its crossings
(01 R36; log 145). -/
def execLinkChange (t p link : Nat) (s : State) : Outcome :=
  actUnit t "ETH" p 2 (fun s =>
    s.when (s.live && (s.port p).link ≠ link && link < 3) fun s =>
      let s := (s.updPort p fun x => { x with link := link }).ev 0x6001 (leBytes 1 p ++ leBytes 1 link)
      if link = 0 then s.loseAddress p else ((s.resync (6 + 2 * p) 0).resync (7 + 2 * p) 0).probe p) s

/-- IP_ASSIGNED: an ARP probe of an address ends, with the MAC of a station that already uses it, if any; after a conflict the next
attempt follows 10 s later (10 R484). -/
def execIpAssigned (t p ip : Nat) (dhcp : Bool) (conflict : Option Nat) (s : State) : Outcome :=
  actUnit t "ETH" p 2 (fun s =>
    let right := if dhcp then s.portCfg p 3 = 1 else ip = s.portCfg p 4 && !(s.port p).lease
    let waited := match (s.port p).conflictAt with | some c => c + 10000000000 ≤ s.now | none => true
    s.when (s.canSend p && ip ≠ 0 && right && waited) fun s =>
      match conflict with
      | some mac => ((s.loseAddress p).updPort p fun x => { x with conflictAt := some s.now }).ev 0x6003 (leBytes 1 p ++ leBytes 4 ip ++ beBytes 6 mac)
      | none => ((if (s.port p).ip ≠ 0 && (s.port p).ip ≠ ip then s.loseAddress p else s).updPort p fun x =>
          { x with ip := ip, lease := dhcp, conflictAt := none }).ev 0x6002 (leBytes 1 p ++ leBytes 4 ip ++ leBytes 1 (ofBool dhcp))) s

/-- DHCP_LEASE_EXPIRED: a lease has run out; IP_ADDR is probed as the fallback (10 R484, R505). -/
def execDhcpLeaseExpired (t p : Nat) (s : State) : Outcome :=
  actUnit t "ETH" p 2 (fun s =>
    s.when (s.live && (s.port p).lease) fun s =>
      let s := (s.loseAddress p).updPort p fun x => { x with lease := false }
      let s := s.transmit p (.dhcp p)
      if s.portCfg p 4 ≠ 0 then s.transmit p (.arp p (s.portCfg p 4) false) else s) s

/-- ARP_RX: an ARP request or reply (10 R481, R495). -/
def execArpRx (t p ip mac target : Nat) (request : Bool) (s : State) : Outcome :=
  actUnit t "ETH" p 2 (fun s =>
    s.when (s.canSend p) fun s =>
      let s := s.received p
      let s := s.when (!request || (s.port p).arp.any (·.1 = ip)) fun s =>
        s.updPort p fun x => { x with arp := (ip, mac, s.now) :: x.arp.filter (·.1 ≠ ip) }
      if request && s.ownIp p target then s.transmit p (.arp p ip true) else s) s

/-- ARP_REFRESH: a resolution is 60 s old, or a destination of the Plan is unresolved in Stop (10 R495). -/
def execArpRefresh (t p ip : Nat) (s : State) : Outcome :=
  actUnit t "ETH" p 2 (fun s =>
    let old := (s.port p).arp.any fun e => e.1 = ip && e.2.2 + 60000000000 ≤ s.now
    let wanted := s.mode = .stop && !s.resolved p ip && (match s.plans.active with
      | some pl => pl.outFrames.any (fun f => f.port = p && f.ip = ip) || pl.queues.any (fun q => match q with | .udp p' i _ _ => p' = p && i = ip | _ => false)
      | none => false)
    s.when (s.canSend p && (old || wanted)) fun s => s.transmit p (.arp p ip false)) s

/-- ICMP_ECHO: an echo request, answered at most 100 times per second per port (10 R485). -/
def execIcmpEcho (t p ip : Nat) (d : Bytes) (s : State) : Outcome :=
  actUnit t "ETH" p 2 (fun s =>
    s.when (s.canSend p && (s.port p).ip ≠ 0) fun s =>
      let s := s.received p
      let slot := s.mono / 1000000000
      let n := if (s.port p).echoSlot = slot then (s.port p).echoes else 0
      if d.length ≤ 1472 && n < 100 then
        (s.updPort p fun x => { x with echoSlot := slot, echoes := n + 1 }).transmit p (.icmp p ip d)
      else s.discarded p) s

/-- PROCESS_FRAME_RX: a UDP datagram for the input blocks (10 R485, R492). A standby counts it only. -/
def execProcessFrameRx (t p ip udpPort : Nat) (d : Bytes) (s : State) : Outcome :=
  actUnit t "ETH" p 2 (fun s =>
    s.when (s.canSend p && (s.port p).ip ≠ 0) fun s =>
      let s := s.received p
      s.when (s.base ≠ .standby) fun s => s.processFrame p ip udpPort d) s

/-- PTP_SYNC: a Sync exchange on a slave port (10 R489). A standby keeps pair time instead (12 R592). -/
def execPtpSync (t p : Nat) (offset : Int) (delay : Nat) (s : State) : Outcome :=
  actUnit t "ETH" p 2 (fun s =>
    s.when (s.canSend p && (s.port p).ptp = 9 && s.ptpPorts.contains p) fun s =>
      let s := s.received p
      s.when (s.base ≠ .standby) fun s => s.ptpSync offset delay) s

/-- PTP_ANNOUNCE_RX: an Announce; `state` and `gm` are the port state and grandmaster that the best master clock algorithm gives (10 R487, R490; log 17). -/
def execPtpAnnounceRx (t p state gm : Nat) (s : State) : Outcome :=
  actUnit t "ETH" p 2 (fun s =>
    s.when (s.canSend p && s.ptpPorts.contains p && !(s.cfg 0x1210 1 = 2 && state = 6)) fun s =>
      let moved := (s.port p).ptp ≠ state
      let s := (s.received p).updPort p fun x => { x with ptp := state }
      let s := s.when moved fun s => { s with net := { s.net with ptp := { s.net.ptp with good := 0, bad := 0 } } }
      let changed := s.net.ptp.gm ≠ gm
      let s := { s with net := { s.net with ptp := { s.net.ptp with gm := gm, announceAt := s.now } } }
      (s.when changed fun s => s.ev 0x6013 (leBytes 8 gm)).masterValid) s

/-- PTP_ANNOUNCE_TIMEOUT: the announce receipt timeout of a port; it becomes MASTER or listens (10 R490). -/
def execPtpAnnounceTimeout (t p : Nat) (master : Bool) (s : State) : Outcome :=
  actUnit t "ETH" p 2 (fun s =>
    s.when (s.live && s.ptpPorts.contains p) fun s =>
      let m := master && s.cfg 0x1210 1 ≠ 2
      let s := (s.updPort p fun x => { x with ptp := if m then 6 else 4 }).masterValid
      if s.ptpPorts.any (fun q => (s.port q).ptp = 6) then s else s.setPtpValid false 2) s

/-- PTP_SYNC_TX: a MASTER port sends Sync and Announce (10 R486). A standby sends none (12 R592). -/
def execPtpSyncTx (t p : Nat) (s : State) : Outcome :=
  actUnit t "ETH" p 2 (fun s =>
    s.when (s.canSend p && s.ptpPorts.contains p && (s.port p).ptp = 6 && s.base ≠ .standby) fun s =>
      (s.transmit p (.ptp p false)).transmit p (.ptp p true)) s

/-- PPS_IN: an edge on PPS_IN; with PPS_MODE 1 and every PTP port MASTER it disciplines the frequency (10 R491). -/
def execPpsIn (t : Nat) (s : State) : Outcome :=
  act t (fun s =>
    s.when s.live fun s =>
      let s := { s with net := { s.net with ptp := { s.net.ptp with ppsAt := s.time } } }
      if s.cfg 0x1210 0x0B = 1 && !s.ptpPorts.isEmpty && s.ptpPorts.all (fun p => (s.port p).ptp = 6) then
        let s := (s.setClock s.time s.freePpb).spend
        { s with net := { s.net with ptp := { s.net.ptp with timeSet := true } } }.masterValid
      else s) s

/-- PPS_OUT: the output is high for 100 ms from each whole second of the module's time (10 R491). -/
def execPpsOut (t : Nat) (s : State) : Outcome :=
  act t (fun s =>
    let high := s.time % 1000000000 < 100000000
    s.when (s.live && s.mode ≠ .boot && s.net.ptp.pps ≠ high) fun s =>
      { s with net := { s.net with ptp := { s.net.ptp with pps := high } } }.emit (.pps high s.now)) s

/-- ROSELO_POSITION_RX: a position frame (10 R525 to R527); its acceleration is an F32 in pu/µs². -/
def execRoseloPositionRx (t p mac major minor stream seq : Nat) (valid : Bool) (x : Dword) (v : Int) (a : Word) (at_ : Nat) (s : State) : Outcome :=
  actUnit t "ETH" p 2 (fun s =>
    s.when (s.canSend p && s.tracking) fun s =>
      let s := s.received p
      let is := (List.range 4).filter fun i => s.srcCfg i 1 = 1 && s.srcCfg i 0x18 = stream && (s.src i).enabled
      if major ≠ 1 || minor = 0 || 2 < minor || !s.roseloOn p || is.isEmpty then
        s.updRoselo fun q => { q with rxDiscarded := holdMax 32 (q.rxDiscarded + 1) }
      else is.foldl (fun s i => s.importFrame i mac seq valid ⟨x, v, estRound (f32Val a * 2 ^ 32), at_⟩) s) s

/-- ROSELO_EXPORT: an exported source sends the sample that waits (10 R524); a frame counts once, whatever ports it leaves by (log 150). -/
def execRoseloExport (t i : Nat) (s : State) : Outcome :=
  actUnit t "position source" i 4 (fun s =>
    match (s.src i).export_ with
    | none => s
    | some x =>
    s.when (s.tracking && s.cfgOn (0x2040 + i) 0x1B && s.base ≠ .standby) fun s =>
      let s := s.updSrc i fun r => { r with export_ := none }
      let n := s.net.roselo.exports.getD i 0
      let id := s.srcCfg i 0x1C
      let (s, k) := s.roseloSend (s.cfg (0x2504 + i) 1) (roseloDest 0 id) fun m => positionFrame m (n % 65536) id x
      s.when (0 < k) fun s => s.updRoselo fun q => { q with exports := upd q.exports i (· + 1), posTx := holdMax 32 (q.posTx + 1) }) s

/-- REMOTE_FRAME_SEND: the next 10 µs slot of a source (03 R156). -/
def execRemoteFrameSend (t src : Nat) (s : State) : Outcome :=
  actUnit t "position source" src 4 (fun s => s.when s.tracking fun s => s.sendFrame src) s

/-- The announce of a station: the highest MINOR that it speaks, MAJOR and its clock identity (10 R517, R523). -/
def announceFrame (minor seq : Nat) : Bytes :=
  roseloPad (roseloHeader minor 3 24 (seq % 65536) 0 ++ leBytes 1 2 ++ leBytes 1 1 ++ List.replicate 6 0#8 ++ leBytes 8 Config.clockIdentity)

/-- ROSELO_ANNOUNCE_TX: every 100 ms an announce leaves a port with Roselo enabled (10 R523). -/
def execRoseloAnnounceTx (t p : Nat) (s : State) : Outcome :=
  actUnit t "ETH" p 2 (fun s =>
    s.when (s.canSend p && s.roseloOn p) fun s =>
      let s := s.refreshMinor p
      (s.updRoselo fun q => { q with annSeq := q.annSeq + 1 }).transmit p (.roselo p (roseloDest 2 0) (announceFrame (s.net.roselo.minor.getD p 2) s.net.roselo.annSeq))) s

/-- ROSELO_ANNOUNCE_RX: an announce of a station (10 R523). -/
def execRoseloAnnounceRx (t p mac major minorMax : Nat) (s : State) : Outcome :=
  actUnit t "ETH" p 2 (fun s =>
    s.when (s.canSend p && s.roseloOn p) fun s =>
      let s := s.received p
      if major ≠ 1 || minorMax < 1 then
        (s.updRoselo fun q => { q with low := holdMax 32 (q.low + 1) }).ev 0x6032 (leBytes 1 p ++ beBytes 6 mac)
      else
        (s.updRoselo fun q => { q with
          rx := holdMax 32 (q.rx + 1)
          stations := (p, mac, minorMax, s.now) :: q.stations.filter fun x => (x.1 ≠ p || x.2.1 ≠ mac) && s.now < x.2.2.2 + 1000000000 }).refreshMinor p) s

end Sys2Proof.Machine
end

