-- ==== Sys2Proof/Machine/Can.lean ====
section
/-! DEFINITION. CAN channels: error states, the transmit queue, the filter list and the mailbox queues (11). -/
namespace Sys2Proof.Machine

def State.can (s : State) (n : Nat) : Can := s.cans.getD n default
def State.updCan (s : State) (n : Nat) (f : Can → Can) : State := { s with cans := upd s.cans n f }
/-- CAN_CFG, CAN_FILTER, CAN_BAMCON and CAN_MBOX values of a channel (11 R580 to R585). -/
def State.canCfg (s : State) (n sub : Nat) : Nat := s.cfg (0x1300 + 0x40 * n) sub
def State.canFil (s : State) (n sub : Nat) : Nat := s.cfg (0x1303 + 0x40 * n) sub
def State.canBam (s : State) (n sub : Nat) : Nat := s.cfg (0x1304 + 0x40 * n) sub
def State.canBox (s : State) (n q sub : Nat) : Nat := s.cfg (0x1310 + 0x40 * n + q) sub

def State.canEnabled (s : State) (n : Nat) : Bool := s.canCfg n 1 ≠ 0
def State.canListen (s : State) (n : Nat) : Bool := s.canCfg n 2 = 2
def State.canFd (s : State) (n : Nat) : Bool := s.canCfg n 7 ≠ 0

/-! Bit timing (11 R544 to R550) -/

def State.canNomRate (s : State) (n : Nat) : Nat := 80000000 / (s.canCfg n 3 * (1 + s.canCfg n 4 + s.canCfg n 5))
def State.canDataRate (s : State) (n : Nat) : Nat :=
  if s.canFd n then 80000000 / (s.canCfg n 8 * (1 + s.canCfg n 9 + s.canCfg n 0xA)) else 0

/-- Timing sets that an apply rejects with PAIRED (11 R546), and FORMAT 1 without FD (11 R584). -/
def State.canTimingBad (s : State) (n : Nat) : Bool :=
  let brp := s.canCfg n 3; let t1 := s.canCfg n 4; let t2 := s.canCfg n 5; let sjw := s.canCfg n 6
  let dbrp := s.canCfg n 8; let d1 := s.canCfg n 9; let d2 := s.canCfg n 0xA; let dsjw := s.canCfg n 0xB
  let nom := brp * (1 + t1 + t2)
  let dat := dbrp * (1 + d1 + d2)
  t1 < sjw || t2 < sjw || d2 < dsjw || 1 + t1 + t2 < 8 || 1 + d1 + d2 < 5 || 80000000 > 1000000 * nom
    || (s.canFd n && (80000000 > 8000000 * dat || nom < dat))
def State.canFormatBad (s : State) (n : Nat) : Bool := s.canBam n 3 = 1 && !s.canFd n

/-! States (11 R568, R569, R575, R576) -/

/-- The channel takes part on the bus by its mode: powered, and not in Backup, Boot or the activation pause (11 R575). -/
def State.canPowered (s : State) (n : Nat) : Bool :=
  s.live && s.mode ≠ .boot && s.canEnabled n && !s.pausing

/-- The channel receives and may send: error active or passive. -/
def State.canOn (s : State) (n : Nat) : Bool := s.canPowered n && ((s.can n).state = 2 || (s.can n).state = 3)

/-- A change of state records event 0x6101 (11 R568). -/
def State.canState (s : State) (n st : Nat) : State :=
  if (s.can n).state = st then s
  else
    let s := s.updCan n fun x => { x with state := st }
    s.ev 0x6101 (leBytes 1 n ++ leBytes 1 st ++ leBytes 2 (s.can n).tec ++ leBytes 2 (s.can n).rec_)

/-- Discard every queued frame, count them and record event 0x6106: 1 bus-off, 2 reconfiguration, 3 activation pause. -/
def State.canFlush (s : State) (n cause : Nat) : State :=
  let k := (s.can n).queue.length
  (s.updCan n fun x => { x with queue := [], flushed := holdMax 32 (x.flushed + k) }).ev 0x6106 (leBytes 1 n ++ leBytes 1 cause ++ leBytes 2 k)

/-- Enter bus-off (11 R569); a RECOVERY_DELAY of 0 starts recovery at once. -/
def State.canBusOff (s : State) (n : Nat) : State :=
  let s := s.canState n 4
  let s := s.updCan n fun x => { x with busOffs := holdMax 32 (x.busOffs + 1), busOffAt := s.now }
  let s := s.canFlush n 1
  if s.canCfg n 0x10 = 1 && s.canCfg n 0x11 = 0 then s.canState n 5 else s

/-- The state that the error counters give (11 R568). -/
def State.canJudge (s : State) (n : Nat) : State :=
  let x := s.can n
  if 255 < x.tec then s.canBusOff n else s.canState n (if 127 < x.tec || 127 < x.rec_ then 3 else 2)

/-- An error on the bus with its kind: counted, and the counters moved by ISO 11898-1 (log 18). -/
def State.canError (s : State) (n kind tec rec_ : Nat) : State :=
  (s.updCan n fun x => { x with
    lastError := kind, errFrames := holdMax 32 (x.errFrames + 1), tec := x.tec + tec, rec_ := min 255 (x.rec_ + rec_) }).canJudge n

/-- The channel returns to error active (11 R568, R569). -/
def State.canRecovered (s : State) (n : Nat) : State :=
  let s := (s.updCan n fun x => { x with tec := 0, rec_ := 0 }).canState n 2
  s.ev 0x6102 (leBytes 1 n ++ leBytes 4 (s.can n).busOffs)

/-- A CAN_CFG field applies (11 R576): leave the bus, flush, clear the counters, resynchronise, integrate; or power down. -/
def State.canReconfigure (s : State) (n : Nat) : State :=
  let s := s.canFlush n 2
  let s := s.updCan n fun x => { x with tec := 0, rec_ := 0 }
  let s := (s.resync 4 0).resync 5 0
  let s := s.canState n (if s.canEnabled n then 1 else 0)
  s.ev 0x6108 (leBytes 1 n ++ leBytes 4 (s.canNomRate n) ++ leBytes 4 (s.canDataRate n))

/-- The activation pause: integrating, queued frames flushed (11 R575). -/
def State.canPause (s : State) (n : Nat) : State :=
  if s.canEnabled n then (s.canFlush n 3).canState n 1 else s

/-! Transmitting (11 R551 to R557) -/

/-- The shortest valid data length that holds `k` bytes (11 R555). -/
def canLen (k : Nat) : Nat :=
  if k ≤ 8 then k else if k ≤ 12 then 12 else if k ≤ 16 then 16 else if k ≤ 20 then 20 else if k ≤ 24 then 24
  else if k ≤ 32 then 32 else if k ≤ 48 then 48 else 64

/-- DLC of a data length (ISO 11898-1). -/
def canDlc (k : Nat) : Nat :=
  if k ≤ 8 then k else if k ≤ 12 then 9 else if k ≤ 16 then 10 else if k ≤ 20 then 11 else if k ≤ 24 then 12
  else if k ≤ 32 then 13 else if k ≤ 48 then 14 else 15

def canPad (l : Nat) (b : Bytes) : Bytes := b ++ List.replicate (l - b.length) 0#8

/-- A frame of a Landing is dropped: counted, and event 0x6105 with its cause and identifier. -/
def State.canDrop (s : State) (n cause id : Nat) : State :=
  (s.updCan n fun x => { x with txDropped := holdMax 32 (x.txDropped + 1) }).ev 0x6105 (leBytes 1 n ++ leBytes 1 cause ++ leBytes 4 id)

/-- A Bamcon segment that took the last place in the present core clock gives it back to its service (11 R551, R578). -/
def State.canYield (s : State) (n : Nat) : State :=
  match (s.can n).queue.getLast? with
  | some f =>
    match f.client with
    | some c =>
      if (s.can n).queue.length < 32 || f.tried || coreClock f.at_ ≠ coreClock s.now then s
      else
        let back (l : List CanSegs) : List CanSegs :=
          match l.find? fun e => e.client = c with
          | some e => ⟨c, f.data :: e.segs, none⟩ :: l.erase e
          | none => ⟨c, [f.data], none⟩ :: l
        s.updCan n fun x => { x with queue := x.queue.dropLast, segs := back x.segs }
    | none => s
  | none => s

/-- Where a frame of a Landing enters: behind all, but ahead of Bamcon segments of the same core clock (11 R551, R578). -/
def canInsert (now : Nat) (f : CanTx) : List CanTx → List CanTx
  | [] => [f]
  | g :: l => if g.client.isSome && !g.tried && coreClock g.at_ = coreClock now then f :: g :: l else g :: canInsert now f l

/-- A frame of a Landing enters the queue, or is dropped when 32 stand (11 R551, R553). -/
def State.canEnqueue (s : State) (n : Nat) (f : CanTx) : State :=
  let s := s.canYield n
  if 32 ≤ (s.can n).queue.length then s.canDrop n 1 f.id else s.updCan n fun x => { x with queue := canInsert s.now f x.queue }

/-- A frame that leaves at a Landing: identifier, format and data. -/
def State.canFrame (s : State) (id : Nat) (ide fdf brs : Bool) (data : Bytes) (client : Option Nat) : CanTx :=
  ⟨id, ide, fdf, brs, data, s.now, client, false⟩

/-- Output objects and messages may enter: enabled, in Run or Edit, not on a standby (11 R575). -/
def State.canSends (s : State) (n : Nat) : Bool := s.canPowered n && (s.base = .run || s.base = .edit)

/-- An output object enters at step 2 of its task's Landing (11 R551, R555). -/
def State.canObject (s : State) (o : CanOut) : State :=
  if s.canSends o.channel then
    s.canEnqueue o.channel (s.canFrame o.id o.ide o.fdf o.brs (canPad o.len (o.data.flatMap s.getRange)) none)
  else s

/-- A MSG payload bound to a channel enters, or is not sent (11 R556). -/
def State.canMessage (s : State) (n : Nat) (idword : Bool) (id : Nat) (ide fdf brs : Bool) (l : List Word) : State :=
  if !s.canSends n then s
  else if idword then
    let w := (l.headD 0).toNat
    let id := Sys2Proof.field w 28 0
    let ide := bitAt w 29
    let fdf := bitAt w 30
    let data := packWords (l.drop 1)
    if (!ide && 0x7FF < id) || (!fdf && 8 < data.length) then s.canDrop n 4 id
    else s.canEnqueue n (s.canFrame id ide fdf (bitAt w 31) (canPad (canLen data.length) data) none)
  else
    let data := packWords l
    s.canEnqueue n (s.canFrame id ide fdf brs (canPad (canLen data.length) data) none)

/-- A queued frame has outlived LIFETIME (11 R554). -/
def State.canExpired (s : State) (n : Nat) (f : CanTx) : Bool :=
  let l := s.canCfg n 0x0F
  l ≠ 0 && f.at_ + 1000000 * l < s.now

/-- The head is discarded as expired (11 R554). -/
def State.canExpire (s : State) (n : Nat) (f : CanTx) : State :=
  (s.updCan n fun x => { x with queue := x.queue.drop 1, txExpired := holdMax 32 (x.txExpired + 1) }).ev 0x6105
    (leBytes 1 n ++ leBytes 1 3 ++ leBytes 4 f.id)

/-- Expired frames that reach the head are discarded; `k` bounds them. -/
def State.canSettle (n : Nat) : Nat → State → State
  | 0, s => s
  | k + 1, s =>
    match (s.can n).queue with
    | f :: _ => if !f.tried && s.canExpired n f then State.canSettle n k (s.canExpire n f) else s
    | [] => s

/-- The head leaves the queue. -/
def State.canPop (s : State) (n : Nat) : State := State.canSettle n 32 (s.updCan n fun x => { x with queue := x.queue.drop 1 })

/-- The LAST bit of a Bamcon segment (11 R571). -/
def lastSegment (f : CanTx) : Bool := f.client.isSome && (f.data.headD 0).getLsbD 6

/-- Loop delay in mtq, rounded up (11 R549). -/
def mtq (ns : Nat) : Nat := (2 * ns + 24) / 25

/-- The head has been sent; its start of frame was at `t0` and its transmitter loop delay is `ns` (11 R549, R550, R552). -/
def State.canSent (s : State) (n t0 ns : Nat) : State :=
  match (s.can n).queue with
  | [] => s
  | f :: _ =>
    let s := s.emit (.can n f)
    let s := s.updCan n fun x => { x with
      txFrames := holdMax 32 (x.txFrames + 1), tec := x.tec - 1, waitMax := max x.waitMax (holdMax 32 ((t0 - f.at_) / 1000))
      txMessages := if lastSegment f then holdMax 32 (x.txMessages + 1) else x.txMessages }
    let tdc := f.fdf && f.brs && s.canCfg n 0x0C = 1
    let above := 127 < mtq ns + s.canCfg n 0x0D
    let s := if f.fdf then s.updCan n fun x => { x with tdc := if tdc then holdMax 8 (mtq ns) else x.tdc, tdcFail := tdc && above } else s
    let s := s.when (tdc && above) fun s => s.ev 0x6107 (leBytes 1 n ++ leBytes 1 1)
    (s.canPop n).canJudge n

/-- The head lost arbitration, or met an error of a kind; `spared` marks the errors that leave TEC as it is (11 R552, R554, R568). -/
def State.canFailed (s : State) (n kind : Nat) (spared : Bool) : State :=
  match (s.can n).queue with
  | [] => s
  | f :: _ =>
    let s := s.updCan n fun x => { x with queue := upd x.queue 0 fun f => { f with tried := true } }
    let s := if kind = 0 then s.updCan n fun x => { x with arbLost := holdMax 32 (x.arbLost + 1) }
      else s.canError n kind (if spared then 0 else 8) 0
    if (s.can n).state = 4 || (s.can n).state = 5 then s
    else if s.canExpired n f then State.canSettle n 32 (s.canExpire n f)
    else if s.canCfg n 0x0E ≠ 0 then
      State.canSettle n 32 ((s.updCan n fun x => { x with queue := x.queue.drop 1 }).canDrop n 2 f.id)
    else s

/-! Receiving (11 R558 to R567) -/

/-- A mask/match pair matches a frame (11 R559). -/
def pairMatches (p id : Nat) (ide : Bool) : Bool :=
  bitAt p 31 && bitAt p 29 == ide && Nat.land (Nat.xor id (Sys2Proof.field p 28 0)) (Sys2Proof.field p 60 32) = 0

/-- Where the pairs route a frame: 0 RXQ0, 1 RXQ1, 2 reject. -/
def State.canRoute (s : State) (n id : Nat) (ide : Bool) : Nat :=
  match (List.range 8).find? fun k => pairMatches (s.canFil n (1 + k)) id ide with
  | some k => Sys2Proof.field (s.canFil n (1 + k)) 62 61
  | none => s.canFil n 9

/-- A pair that no write may bring: MATCH above 11 bits for a base identifier, or TARGET 3 (11 R559; RANGE is the model's, log 151). -/
def canPairBad (p : Nat) : Bool := (!bitAt p 29 && Sys2Proof.field p 28 11 ≠ 0) || Sys2Proof.field p 62 61 = 3

/-- A received frame is routed to an RXQ (11 R558, R560). -/
def State.canRoutes (s : State) (n : Nat) (f : CanFrame) : State :=
  let r := s.canRoute n f.id f.ide
  if 2 ≤ r then s
  else
    let x := s.can n
    if 64 ≤ (if r = 0 then x.rxq0 else x.rxq1).length then
      (s.updCan n fun x => { x with overflow := holdMax 32 (x.overflow + 1) }).ev 0x6103 (leBytes 1 n ++ leBytes 1 r)
    else
      let f := { f with rxq := r }
      s.updCan n fun x => if r = 0 then { x with rxq0 := x.rxq0 ++ [f] } else { x with rxq1 := x.rxq1 ++ [f] }

/-- An element of the filter list (11 R561). -/
structure CanElem where
  id1  : Nat
  id2  : Nat
  ctrl : Nat
deriving DecidableEq, Repr

/-- The elements that a LIST blob spells, 12 bytes each. -/
def canElems : Nat → Bytes → List CanElem
  | 0, _ => []
  | n + 1, b =>
    if b.length < 12 then []
    else ⟨leNat (b.take 4) % 2 ^ 29, leNat ((b.drop 4).take 4) % 2 ^ 29, leNat ((b.drop 8).take 4)⟩ :: canElems n (b.drop 12)

def State.canList (s : State) (n : Nat) : List CanElem := canElems 512 (s.cfgBytes (0x1303 + 0x40 * n) 0x0A)
/-- The list that a frame completes with: it entered the list engine 1.6 µs ago (11 R561, R562). -/
def State.canListThen (s : State) (n : Nat) : List CanElem :=
  match (s.can n).listAt with
  | some a => if s.now < a + 1600 then canElems 512 (s.can n).listWas else s.canList n
  | none => s.canList n

/-- A staged list that an apply rejects with PAIRED (11 R562). -/
def canElemBad (e : CanElem) : Bool :=
  (Sys2Proof.field e.ctrl 1 0 = 1 && e.id2 < e.id1) || 16 < Sys2Proof.field e.ctrl 12 8 || Sys2Proof.field e.ctrl 4 3 = 3
    || (!bitAt e.ctrl 2 && (0x7FF < e.id1 || 0x7FF < e.id2))

/-- An element matches a frame (11 R561). -/
def elemMatches (e : CanElem) (f : CanFrame) : Bool :=
  bitAt e.ctrl 2 == f.ide && (Sys2Proof.field e.ctrl 4 3 = 0 || Sys2Proof.field e.ctrl 4 3 = f.rxq + 1) &&
  match Sys2Proof.field e.ctrl 1 0 with
  | 0 => false
  | 1 => e.id1 ≤ f.id && f.id ≤ e.id2
  | 2 => f.id = e.id1 || f.id = e.id2
  | _ => Nat.land (Nat.xor f.id e.id1) e.id2 = 0

/-- The lowest-numbered matching element, with its number. -/
def elemFind : List CanElem → CanFrame → Nat → Option (Nat × CanElem)
  | [], _, _ => none
  | e :: es, f, k => if elemMatches e f then some (k, e) else elemFind es f (k + 1)

/-- The words of a slot (11 R564). -/
def canSlot (f : CanFrame) (maxlen element : Nat) : List Word :=
  let data := if f.rtr then [] else f.data
  let kept := data.take maxlen
  let trunc := maxlen < data.length
  [BitVec.ofNat 32 (f.id % 2 ^ 29 + 2 ^ 29 * ofBool f.ide + 2 ^ 30 * ofBool f.rtr + 2 ^ 31 * ofBool f.fdf),
   BitVec.ofNat 32 (f.dlc % 16 + 16 * ofBool f.brs + 32 * ofBool f.esi + 64 * ofBool trunc + 128 * f.rxq + 256 * element),
   BitVec.ofNat 32 f.stamp, BitVec.ofNat 32 (f.stamp / 2 ^ 32)]
  ++ unpackWords (maxlen / 4) (canPad maxlen kept)

/-- Write words to the live Hall from a word address on. -/
def State.putWords (s : State) (a : Nat) (l : List Word) : State :=
  l.zipIdx.foldl (fun s e => (s.putWord (a + e.2) e.1).forwardPoint false (a + e.2)) s

/-- A frame is lost for a queue (11 R563, R565). -/
def State.canLost (s : State) (n q : Nat) : State :=
  let s := s.updCan n fun x => { x with boxes := upd x.boxes q fun b =>
    { b with lost := b.lost + 1, lostCount := holdMax 32 (b.lostCount + 1) } }
  if s.canBox n q 1 = 0 then s
  else
    let lost := ((s.can n).boxes.getD q default).lost
    (s.putWords (s.canBox n q 3 % 2 ^ 18 + 1) [lost]).ev 0x6104 (leBytes 1 n ++ leBytes 1 q ++ leBytes 4 lost.toNat)

/-- A frame for mailbox queue q (11 R565, R567). -/
def State.canMailbox (s : State) (n q : Nat) (f : CanFrame) (element : Nat) : State :=
  let depth := s.canBox n q 1
  let b := (s.can n).boxes.getD q default
  if depth = 0 then s.canLost n q
  else if (b.head - b.ack).toNat < depth || s.canBox n q 5 ≠ 0 then
    let area := s.canBox n q 3 % 2 ^ 18
    let maxlen := s.canBox n q 2
    let s := s.putWords (area + 4 + (b.head.toNat % depth) * (4 + maxlen / 4)) (canSlot f maxlen element)
    let s := s.putWords area [b.head + 1, b.lost]
    let s := s.updCan n fun x => { x with boxes := upd x.boxes q fun b =>
      { b with head := b.head + 1, received := holdMax 32 (b.received + 1) } }
    let s := s.freshBlock (s.canBox n q 6)
    if b.head = b.ack then s.occurrence 3 (16 * n + q) else s
  else s.canLost n q

/-- Mailbox queue, 16 where none, that the filter list or its default gives a frame, and the number of its element (11 R561). -/
def State.canSorted (s : State) (n : Nat) (f : CanFrame) : Nat × Nat :=
  match elemFind (s.canListThen n) f 0 with
  | some (k, e) => (Sys2Proof.field e.ctrl 12 8, k)
  | none => (s.canFil n 0x0B, 0x1FF)

/-- Where the filter list routes the next frame, from RXQ0, else from RXQ1: mailbox queue, frame and element; none where it rejects
the frame or there is none (11 R560, R561). -/
def State.canTarget (s : State) (n : Nat) : Option (Nat × CanFrame × Nat) :=
  ((s.can n).rxq0 ++ (s.can n).rxq1).head?.bind fun f =>
    let (q, k) := s.canSorted n f
    if q = 16 then none else some (q, f, k)

/-- The filter list takes the next frame and routes it (11 R560, R561). -/
def State.canFilter (s : State) (n : Nat) : State :=
  let place := s.canTarget n
  let s := s.updCan n fun x => if x.rxq0.isEmpty then { x with rxq1 := x.rxq1.drop 1 } else { x with rxq0 := x.rxq0.drop 1 }
  match place with
  | some (q, f, k) => s.canMailbox n q f k
  | none => s

/-! HS words and status (11 R579, R581) -/

def State.canWarning (s : State) (n : Nat) : Bool := 96 ≤ (s.can n).tec || 96 ≤ (s.can n).rec_
/-- PENDING of a queue: HEAD − ACK. -/
def State.canPending (s : State) (n q : Nat) : Nat :=
  let b := (s.can n).boxes.getD q default
  (b.head - b.ack).toNat

/-- HS:1792 to 2047 (11 R579). -/
def State.canHs (s : State) (w : Nat) : Word :=
  let n := (w - 1792) / 64
  let o := (w - 1792) % 64
  let x := s.can n
  if o = 0 then BitVec.ofNat 32 (x.state + 8 * ofBool (s.canWarning n) + 16 * ofBool (s.canListen n))
  else if o = 1 then BitVec.ofNat 32 (x.tec + 65536 * x.rec_)
  else if o = 2 then BitVec.ofNat 32 x.queue.length
  else if 16 ≤ o ∧ o < 32 then BitVec.ofNat 32 (s.canPending n (o - 16))
  else 0

/-! The commands -/

/-- CAN_TX_DONE: the head, whose start of frame was at `t0`, has been sent; `ns` is the measured loop delay (11 R549, R552). -/
def execCanTxDone (t n t0 ns : Nat) (s : State) : Outcome :=
  actUnit t "CAN" n 4 (fun s => s.when (s.canOn n && !s.canListen n) fun s => s.canSent n t0 ns) s

/-- CAN_TX_FAILED: the head lost arbitration (kind 0) or met an error of kind 1 to 6 (11 R552, R581). -/
def execCanTxFailed (t n kind : Nat) (spared : Bool) (s : State) : Outcome :=
  actUnit t "CAN" n 4 (fun s => s.when (s.canOn n && !s.canListen n && kind < 7) fun s => s.canFailed n kind spared) s

/-- CAN_BUS_ERROR: an error of kind 1 to 6 while receiving; `heavy` adds 8 to REC, else 1 (11 R568, ISO 11898-1). -/
def execCanBusError (t n kind : Nat) (heavy : Bool) (s : State) : Outcome :=
  actUnit t "CAN" n 4 (fun s =>
    s.when (s.canOn n && 1 ≤ kind && kind < 7) fun s => s.canError n kind 0 (if heavy then 8 else 1)) s

/-- CAN_RECOVERY_START: RECOVERY_DELAY has passed since bus-off (11 R569). -/
def execCanRecoveryStart (t n : Nat) (s : State) : Outcome :=
  actUnit t "CAN" n 4 (fun s =>
    s.when (s.canPowered n && (s.can n).state = 4 && s.canCfg n 0x10 = 1 && (s.can n).busOffAt + 1000000 * s.canCfg n 0x11 ≤ s.now) fun s =>
      s.canState n 5) s

/-- CAN_RECOVERED: 128 sequences of 11 recessive bits (11 R568). -/
def execCanRecovered (t n : Nat) (s : State) : Outcome :=
  actUnit t "CAN" n 4 (fun s => s.when (s.canPowered n && (s.can n).state = 5) fun s => s.canRecovered n) s

/-- CAN_INTEGRATED: 11 recessive bits on the bus of an integrating channel (11 R568). -/
def execCanIntegrated (t n : Nat) (s : State) : Outcome :=
  actUnit t "CAN" n 4 (fun s => s.when (s.canPowered n && (s.can n).state = 1) fun s => (s.canState n 2).canJudge n) s

end Sys2Proof.Machine
end

