-- ==== Sys2Proof/Machine/Respond.lean ====
section
/-! DEFINITION. Bamcon messages, sessions and answers: layout, TAG, sequence, the replies and the answers that wait (10 R497 to R504, R507 to R514). -/
namespace Sys2Proof.Machine

def State.bam (s : State) : Bamcon := s.net.bamcon
def State.updBam (s : State) (f : Bamcon → Bamcon) : State := { s with net := { s.net with bamcon := f s.net.bamcon } }
def State.sess (s : State) (k : Nat) : Session := s.bam.sessions.getD k default
def State.updSess (s : State) (k : Nat) (f : Session → Session) : State := s.updBam fun b => { b with sessions := upd b.sessions k f }

/-! Layout (10 R497, R500) -/

/-- The 16 bytes of a header. -/
def bamHeader (version type_ flags status session seq len : Nat) : Bytes :=
  leBytes 1 version ++ leBytes 1 type_ ++ leBytes 1 flags ++ leBytes 1 status ++ leBytes 4 session ++ leBytes 4 seq
    ++ leBytes 2 len ++ leBytes 2 0

/-- TAG over header and payload. -/
def bamTag (key body : Bytes) : Bytes := (hmacSha256 key body).take 16

/-- Number of a status code (00 R21). -/
def statusCode : Status → Nat
  | .ok => 0 | .noEntry => 1 | .noSub => 2 | .access => 3 | .type => 4 | .range => 5 | .state => 6 | .locked => 7
  | .busy => 8 | .paired => 9 | .auth => 10 | .version => 11 | .integrity => 12

/-- A RESULT (10 R510). -/
def resultBytes (r : WriteResult) : Bytes :=
  leBytes 2 r.idx ++ leBytes 1 r.sub ++ leBytes 1 (statusCode r.status) ++ leBytes 2 r.accepted ++ leBytes 2 r.refused

/-- The status of a response with results: that of the first that is not OK (10 R512). -/
def resultsStatus (l : List WriteResult) : Status :=
  match l.find? fun (r : WriteResult) => r.status ≠ .ok with
  | some r => r.status
  | none => .ok

/-! Sending -/

/-- The segments of a message on a CAN channel: SEG byte and message bytes (11 R571); `k` counts, `n` bounds. -/
def canSegments (size : Nat) : Nat → Nat → Bytes → List Bytes
  | 0, _, _ => []
  | n + 1, k, b =>
    let rest := b.drop size
    let seg := 0x80 * ofBool (k = 0) + 0x40 * ofBool rest.isEmpty + k % 64
    let d := leBytes 1 seg ++ b.take size
    let d := canPad (canLen d.length) d
    if rest.isEmpty then [d] else d :: canSegments size n (k + 1) rest

/-- A Bamcon message leaves to a peer: a datagram, or segments that wait for their places; `push` names the subscription whose push
it is (10 R497; 11 R571, R574). -/
def State.deliverAs (s : State) (push : Option (Nat × Nat)) (link ip port : Nat) (msg : Bytes) : State :=
  if link < 16 then s.transmit link (.bamcon link ip port msg)
  else
    let n := link - 16
    let size := if s.canBam n 3 = 1 then 63 else 7
    s.updCan n fun x => { x with segs := x.segs ++ [⟨port, canSegments size 300 0 msg, push⟩] }

def State.deliver (s : State) (link ip port : Nat) (msg : Bytes) : State := s.deliverAs none link ip port msg

/-- A response without a session key: to a message that names no open session, and to a HELLO (10 R497, R503). -/
def State.replyBare (s : State) (o : Origin) (type_ : Nat) (st : Status) (payload : Bytes) : State :=
  s.deliver o.link o.ip o.port
    (bamHeader 0x13 type_ (ofBool s.forced) (statusCode st) o.session o.seq payload.length ++ payload)

/-- A response in session slot k, with its TAG and FORCED as it is now (10 R497, R498). -/
def State.sessionMsg (s : State) (k type_ flags seq : Nat) (st : Status) (payload : Bytes) : Bytes :=
  let x := s.sess k
  let b := bamHeader (16 + x.minor) type_ (ofBool s.forced + flags) (statusCode st) x.number seq payload.length ++ payload
  b ++ bamTag x.key b

/-- Send a response without keeping it. -/
def State.replyOnce (s : State) (k type_ seq : Nat) (st : Status) (payload : Bytes) : State :=
  let x := s.sess k
  s.deliver x.link x.peerIp x.peerPort (s.sessionMsg k (type_ + 0x80) 0 seq st payload)

/-- Answer an accepted request: the response is kept among the 4 last answered, and the request is answered (10 R504). -/
def State.reply (s : State) (k type_ seq : Nat) (st : Status) (payload : Bytes) : State :=
  let x := s.sess k
  let m := s.sessionMsg k (type_ + 0x80) 0 seq st payload
  (s.updSess k fun x => { x with cache := ((seq, m) :: x.cache).take 4, open_ := x.open_.filter (· ≠ seq) }).deliver x.link x.peerIp x.peerPort m

/-- VERSION of a STR or BLOB entry increases with each change of its value by a write (10, Block transfers). -/
def State.bumpVersion (s : State) (idx sub : Nat) : State :=
  s.updBam fun b => { b with versions := sput 0 b.versions (key idx sub) (sget 0 b.versions (key idx sub) + 1) }

/-! Admitting a request (10 R503, R504) -/

/-- The slot of the open session with a number, reached through the link that opened it. -/
def State.slotOf (s : State) (o : Origin) : Option Nat :=
  (List.range 16).find? fun k => (s.sess k).state = 2 && (s.sess k).number = o.session && (s.sess k).link = o.link

/-- A message is discarded and counted in REPLAYS. -/
def State.replayed (s : State) : State := s.updBam fun b => { b with replays := holdMax 32 (b.replays + 1) }

/-- Bamcon is served: not in Boot, Backup or the activation pause, and the link can carry it (04 R22; 11 R575; 14 R697). -/
def State.served (s : State) (link : Nat) : Bool :=
  s.live && s.mode ≠ .boot && !s.pausing && if link < 16 then s.canSend link && (s.port link).ip ≠ 0 else s.canOn (link - 16) && s.canBam (link - 16) 1 ≠ 0

/-- A request whose TAG is right, by its SEQ: processed by `f`, its cached response resent, answered BUSY, or discarded. Any
request of the session ends an arming that it does not use (10 R504, R508). -/
def State.admitReq (s : State) (o : Origin) (k type_ : Nat) (f : State → State) : State :=
  let x := s.sess k
  if x.highSeq < o.seq then
    if 4 ≤ x.open_.length then (s.updSess k fun x => { x with armed := none }).replyOnce k type_ o.seq .busy []
    else f (s.updSess k fun x => { x with highSeq := o.seq, validAt := s.now, open_ := x.open_ ++ [o.seq] })
  else
    match x.cache.find? fun (e : Nat × Bytes) => e.1 = o.seq with
    | some (_, m) => (s.updSess k fun x => { x with validAt := s.now }).deliver x.link x.peerIp x.peerPort m
    | none => s.replayed

/-- A request whose TAG was right reaches its session, or is answered AUTH without TAG (10 R503). -/
def State.request (s : State) (o : Origin) (type_ : Nat) (f : Nat → State → State) : State :=
  if !s.served o.link then s
  else
    let s := s.received o.link
    match s.slotOf o with
    | none => s.replyBare o (type_ + 0x80) .auth []
    | some k => s.admitReq o k type_ (f k)

/-- Whether a request would be processed: served, in an open session, its SEQ new and fewer than 4 unanswered. -/
def State.accepts (s : State) (o : Origin) : Option Nat :=
  if s.served o.link then
    match s.slotOf o with
    | some k => if (s.sess k).highSeq < o.seq && (s.sess k).open_.length < 4 then some k else none
    | none => none
  else none

/-! Answers that wait (10 R514, 13 R636) -/

/-- A waiting answer leaves once none of its items waits any more. -/
def State.finishWait (s : State) (w : Waiting) : State :=
  if !w.left.isEmpty || w.commit.isSome then s
  else
    let s := s.updBam fun b => { b with waits := b.waits.filter fun (x : Waiting) => x.session ≠ w.session || x.seq ≠ w.seq }
    match (List.range 16).find? fun k => (s.sess k).state = 2 && (s.sess k).number = w.session with
    | none => s
    | some k =>
      let body := w.results.flatMap resultBytes
      s.reply k w.type_ w.seq (resultsStatus w.results) (if w.type_ = 5 then leBytes 1 w.results.length ++ [0#8] ++ body else body)

/-- A write through a loop group or to every loop at once (07 R382). -/
def isGroup (idx : Nat) : Bool := (0x3E00 ≤ idx && idx ≤ 0x3E3F) || idx = 0x3EFF

/-- A RESULT once a staged change of entry `idx` that it covers has ended with a status (10 R512, R514). -/
def settled (idx : Nat) (st : Status) (r : WriteResult) : WriteResult :=
  if isGroup r.idx then
    if st = .ok then r
    else { r with
      status := if r.status = .ok then st else r.status, accepted := r.accepted - 1
      refused := if r.refused = 0xFFFF then idx - 0x4000 else r.refused }
  else { r with status := st, accepted := ofBool (st = .ok) }

/-- A staged change of entry `idx` that an item of a waiting request made has applied, or was refused with a status (10 R514). -/
def State.settleWait (s : State) (w : Option (Nat × Nat × Nat)) (idx : Nat) (st : Status) : State :=
  match w with
  | none => s
  | some (session, seq, item) =>
    let hit (x : Waiting) : Bool := x.session = session && x.seq = seq
    let put (x : Waiting) : Waiting :=
      if hit x then { x with results := upd x.results item (settled idx st), left := x.left.erase item } else x
    let s := s.updBam fun b => { b with waits := b.waits.map put }
    match s.bam.waits.find? hit with
    | some x => s.finishWait x
    | none => s

/-- Commits of every record up to number `n` are written: COMMIT requests that waited for them are answered (13 R636). -/
def State.answerCommits (s : State) (n : Nat) : State :=
  let ready (w : Waiting) : Bool := match w.commit with | some m => m ≤ n | none => false
  let l := s.bam.waits.filter ready
  let s := s.updBam fun b => { b with waits := b.waits.filter fun w => !ready w }
  l.foldl (fun s (w : Waiting) =>
    match (List.range 16).find? fun k => (s.sess k).state = 2 && (s.sess k).number = w.session with
    | none => s
    | some k => s.reply k 9 w.seq .ok []) s

end Sys2Proof.Machine
end

