-- ==== Sys2Proof/Machine/Persist.lean ====
section
/-! DEFINITION. The NOR: ordinary records and commits, privileged records and the retained area, Raw Pages, the staging journal (13 R627 to R664; 14 R688, R689). -/
namespace Sys2Proof.Machine

def State.updNvm (s : State) (f : Nvm → Nvm) : State := { s with nvm := f s.nvm }

/-- A reserve that has fallen below half since `old` records event 0x8007: 1 ordinary, 2 privileged, 3 Raw Pages (13 R629). -/
def State.reserveCheck (s : State) (old : Nvm) : State :=
  let low (half a b : Nat) : Bool := half ≤ a && b < half
  let s := s.when (low 131072 old.reserve s.nvm.reserve) fun s => s.ev 0x8007 (leBytes 1 1)
  let s := s.when (low 131072 old.privReserve s.nvm.privReserve) fun s => s.ev 0x8007 (leBytes 1 2)
  s.when (low 2048 old.rpReserve s.nvm.rpReserve) fun s => s.ev 0x8007 (leBytes 1 3)

/-- An invalid copy, if there is one. -/
def spoilt (c : Option PsCopy) : Option PsCopy := c.map fun x => { x with valid := false }

/-- One finding of a NOR read: a corrected error is counted and recorded, an uncorrectable one makes its record copy invalid (13 R628). -/
def State.norError (s : State) : NorErr → State
  | .corrected addr => (s.updNvm fun v => { v with corrected := holdMax 32 (v.corrected + 1) }).ev 0x800C (leBytes 4 addr)
  | .copyA n => s.updNvm fun v => { v with records := v.records.map fun e => if e.1 = n then (e.1, { e.2 with a := spoilt e.2.a }) else e }
  | .copyB n => s.updNvm fun v => { v with records := v.records.map fun e => if e.1 = n then (e.1, { e.2 with b := spoilt e.2.b }) else e }
  | .priv ty ix seq => s.updNvm fun v => { v with
      priv := v.priv.map fun r => if r.type_ = ty && r.index = ix && r.seq = seq then { r with valid := false } else r }

/-- What NOR reads find (13 R628). -/
def State.norRead (s : State) (l : List NorErr) : State := l.foldl State.norError s

/-! Types of the dictionary (00 R14, 10 R511) -/

/-- DTYPE of a type (10 R511). -/
def tyCode : Ty → Nat
  | .bool => 1 | .u8 => 2 | .u16 => 3 | .u32 => 4 | .u64 => 5 | .i32 => 6 | .i64 => 7 | .f32 => 8 | .bfp => 9 | .pos => 10
  | .time => 11 | .str => 12 | .blob => 13

/-- Bytes of a type's value; none for STR and BLOB, whose length is free (00 R14). -/
def tySize : Ty → Option Nat
  | .bool => some 1 | .u8 => some 1 | .u16 => some 2 | .u32 => some 4 | .u64 => some 8 | .i32 => some 4 | .i64 => some 8
  | .f32 => some 4 | .bfp => some 4 | .pos => some 8 | .time => some 8 | .str => none | .blob => none

/-- The bytes of a value of a type. -/
def valBytes (ty : Ty) (v : Val) : Bytes :=
  match tySize ty with
  | some n => leBytes n (valNat v)
  | none => valRaw v

/-- The value that bytes of a type's length spell. -/
def bytesVal (ty : Ty) (b : Bytes) : Val :=
  match tySize ty with
  | some _ => .num (leNat b)
  | none => .bytes b

/-! Ordinary records (13 R630 to R637, R640) -/

def pad16 (n : Nat) : Nat := (n + 15) / 16 * 16

/-- Bytes of both copies of a record as they will be written (13 R630, R634). -/
def psSize (data : Bytes) : Nat := 2 * pad16 (data.length + 16)

def bufferFill (b : PsBuffer) : Nat := (b.items.map fun e => psSize e.2).sum

/-- A quarter, a half or all of a space is protected: the upper part (13 R640, R664). -/
def protectedBy (level size n : Nat) : Bool :=
  match level with
  | 0 => false
  | 1 => size - size / 4 ≤ n
  | 2 => size / 2 ≤ n
  | _ => true

def State.psProtected (s : State) (rec_ : Nat) : Bool := protectedBy s.nvm.protect 32768 rec_

/-- The staged value of a record: the filling buffer first, then the running commit (13 R633). -/
def State.psStaged (s : State) (rec_ : Nat) : Option Bytes :=
  match s.nvm.filling.items.find? fun (e : Nat × Bytes) => e.1 = rec_ with
  | some e => some e.2
  | none =>
    match s.nvm.running with
    | some b => (b.items.find? fun (e : Nat × Bytes) => e.1 = rec_).map (·.2)
    | none => none

/-- The copies of a record. -/
def State.psRecord (s : State) (rec_ : Nat) : PsRecord := sget default s.nvm.records rec_

/-- The copy that a read serves, 1 A or 2 B, and its data; 0 where none is valid (13 R632). -/
def psServe (r : PsRecord) : Nat × Option PsCopy :=
  match r.a, r.b with
  | none, none => (0, none)
  | some a, b => if a.valid then (1, some a) else match b with | some b => if b.valid then (2, some b) else (0, none) | none => (0, none)
  | none, some b => if b.valid then (2, some b) else (0, none)

/-- A read of a record: its data, or INTEGRITY (none), with event 0x8002 where copy A, or both, are invalid (13 R632). -/
def State.psRead (s : State) (rec_ : Nat) : State × Option Bytes :=
  match s.psStaged rec_ with
  | some d => (s.updNvm fun v => { v with copyRead := 0 }, some d)
  | none =>
    let r := s.psRecord rec_
    let (k, c) := psServe r
    let s := s.updNvm fun v => { v with copyRead := k }
    match c with
    | some c =>
      let bad := match r.a with | some a => !a.valid | none => false
      (s.when bad fun s => s.ev 0x8002 (leBytes 2 rec_ ++ leBytes 1 1), some c.data)
    | none => if r.a.isNone && r.b.isNone then (s, some []) else (s.ev 0x8002 (leBytes 2 rec_ ++ leBytes 1 3), none)

/-- A commit starts on what the filling buffer holds, or follows the running one (13 R635, R636). -/
def State.commitTrigger (s : State) : State :=
  if s.nvm.filling.items.isEmpty then s
  else
    match s.nvm.running with
    | some _ => s.updNvm fun v => { v with again := true }
    | none => s.updNvm fun v => { v with running := some v.filling, filling := default }

/-- A write fits the filling buffer, or the other one is free to take over (13 R634). -/
def State.psFits (s : State) (rec_ : Nat) (data : Bytes) : Bool :=
  let rest := s.nvm.filling.items.filter fun (e : Nat × Bytes) => e.1 ≠ rec_
  (rest.map fun e => psSize e.2).sum + psSize data ≤ 65536 || s.nvm.running.isNone

/-- Stage a value: it replaces an earlier staged one and takes its place in staging order by its own number (13 R633 to R635). -/
def State.psStage (s : State) (rec_ : Nat) (data : Bytes) : State :=
  let put (s : State) : State := s.updNvm fun v =>
    let f := v.filling
    let items := f.items.filter (fun (e : Nat × Bytes) => e.1 ≠ rec_) ++ [(rec_, data)]
    { v with filling := { items := items, upto := v.stagings + 1, first := if f.items.isEmpty then s.now else f.first }, stagings := v.stagings + 1 }
  let rest := s.nvm.filling.items.filter fun (e : Nat × Bytes) => e.1 ≠ rec_
  if (rest.map fun e => psSize e.2).sum + psSize data ≤ 65536 then put s else put s.commitTrigger

/-- One record of a commit written: copy A, then copy B (13 R631). -/
def psWrite (no : Nat) (m : List (Nat × PsRecord)) (e : Nat × Bytes) : List (Nat × PsRecord) :=
  sput default m e.1 ⟨some ⟨no, e.2, true⟩, some ⟨no, e.2, true⟩⟩

/-- The running commit ends with its summary block: counters, answers that wait, and the commit that follows it (13 R635 to R637). -/
def State.commitDone (s : State) : State :=
  match s.nvm.running with
  | none => s
  | some b =>
    let old := s.nvm
    let s := s.updNvm fun v => { v with
      records := b.items.foldl (psWrite (v.commitNo + 1)) v.records
      running := none, written := b.upto, commits := holdMax 32 (v.commits + 1), commitNo := v.commitNo + 1
      recordCommits := holdMax 64 (v.recordCommits + b.items.length), lastCommit := s.time
      reserve := v.reserve - (bufferFill b + 256) }
    let s := s.reserveCheck old
    let s := if s.nvm.again then (s.updNvm fun v => { v with again := false }).commitTrigger else s
    s.answerCommits b.upto

/-- A write of a commit that stopped in its `k`-th half step: copies are whole after 2, torn at 1 (13, Outcomes of an interrupted commit). -/
def psTear (no : Nat) : Nat → List (Nat × Bytes) → List (Nat × PsRecord) → List (Nat × PsRecord)
  | _, [], m => m
  | k, (n, d) :: rest, m =>
    if k = 0 then m
    else
      let old := sget default m n
      let a : PsCopy := ⟨no, d, decide (2 ≤ k)⟩
      let b : Option PsCopy := if k ≤ 2 then old.b else some ⟨no, d, decide (4 ≤ k)⟩
      psTear no (k - 4) rest (sput default m n ⟨some a, b⟩)

/-- A reset stops a commit after `cut` half steps of its copies; its summary block is the last (13 R666). -/
def cutCommit (v : Nvm) (b : PsBuffer) (cut : Nat) : Nvm :=
  let m := b.items.length
  if cut = 0 then v
  else if 4 * m + 2 ≤ cut then
    { v with records := b.items.foldl (psWrite (v.commitNo + 1)) v.records, commitNo := v.commitNo + 1
             recordCommits := holdMax 64 (v.recordCommits + m) }
  else
    { v with records := psTear (v.commitNo + 1) cut b.items v.records, commitNo := v.commitNo + 1
             halted := some (v.commitNo + 1, m - (cut + 3) / 4) }

/-- Records present: a valid copy with data (13 R668). -/
def State.psPresent (s : State) : Nat :=
  (s.nvm.records.filter fun e => match (psServe e.2).2 with | some c => !c.data.isEmpty | none => false).length

/-- STATE of a record: 0 absent, 1 present, 2 deleted, 3 staged (13 R669). -/
def State.psState (s : State) (rec_ : Nat) : Nat :=
  if (s.psStaged rec_).isSome then 3
  else
    let r := s.psRecord rec_
    match (psServe r).2 with
    | some c => if c.data.isEmpty then 2 else 1
    | none => 0

/-- The Plan's record number of a persisted entry (13 R642). -/
def State.persistedAs (s : State) (idx sub : Nat) : Option Nat :=
  match s.plans.active with
  | none => none
  | some p => (p.persisted.find? fun (e : Nat × Nat × Nat) => e.1 = idx && e.2.1 = sub).map (·.2.2)

/-- The DATA of a persisted entry's record (13 R642). -/
def persistData (idx sub : Nat) (ty : Ty) (v : Val) : Bytes :=
  leBytes 2 idx ++ leBytes 1 sub ++ leBytes 1 (tyCode ty) ++ valBytes ty v

/-- A write that takes effect stages the record of a persisted entry (13 R643). -/
def State.persist (s : State) (idx sub : Nat) (v : Val) : State :=
  match s.persistedAs idx sub, rowOf idx sub with
  | some rec_, some r => s.psStage rec_ (persistData idx sub r.ty v)
  | _, _ => s

/-! Privileged records (13 R645 to R649) -/

/-- The record in force of a TYPE and INDEX: valid, highest SEQ, later of equals; of LENGTH 0, none (13 R647). -/
def privInForce (l : List PrivRec) (type_ index : Nat) : Option PrivRec :=
  let go (best : Option PrivRec) (r : PrivRec) : Option PrivRec :=
    if r.type_ = type_ && r.index = index && r.valid then
      match best with
      | some b => if b.seq < r.seq then some r else some b
      | none => some r
    else best
  match l.foldl go none with
  | some r => if r.data.isEmpty then none else some r
  | none => none

/-- The highest SEQ that a TYPE and INDEX carry, 0 before the first. -/
def privSeq (l : List PrivRec) (type_ index : Nat) : Nat :=
  (l.filter fun (r : PrivRec) => r.type_ = type_ && r.index = index).foldl (fun m (r : PrivRec) => max m r.seq) 0

/-- Bytes that a privileged record takes in its stream (13 R645). -/
def privSize (data : Bytes) : Nat := pad16 (20 + data.length)

/-- Append a privileged record. -/
def privPush (v : Nvm) (type_ index ckpt : Nat) (data : Bytes) (valid : Bool) : Nvm :=
  { v with
    priv := ⟨type_, index, privSeq v.priv type_ index + 1, ckpt, data, valid⟩ :: v.priv
    privBytes := holdMax 64 (v.privBytes + privSize data), privReserve := v.privReserve - privSize data }

def State.privAppend (s : State) (type_ index : Nat) (data : Bytes) : State :=
  (s.updNvm fun v => privPush v type_ index 0 data true).reserveCheck s.nvm

/-! The retained area (13 R650, R651; 04 R226) -/

/-- Words of a retained record (04 R226). -/
def State.retainedRec (s : State) (o : Nat) : Bytes := wordsAt s.hall.words (0x20000 + o) 4

/-- The retained image: the retained declarations in order. -/
def State.retainedImage (s : State) (p : Plan) : Bytes := p.retained.flatMap s.getRange ++ p.retainedRecs.flatMap s.retainedRec

def chunkCount (n : Nat) : Nat := (n + 255) / 256

/-- Chunk k of an image, the last one padded with zeros. -/
def chunkAt (b : Bytes) (k : Nat) : Bytes := canPad 256 ((b.drop (256 * k)).take 256)

/-- Chunks of an image that differ from another image. -/
def dirtyChunks (new old : Bytes) : List Nat :=
  (List.range (chunkCount new.length)).filter fun k => chunkAt new k ≠ chunkAt old k || old.length ≤ 256 * k

/-- The payload of a RETAIN_COMMIT (13 R646). -/
def retainCommit (schema landings : Nat) (img : Bytes) : Bytes :=
  let n := chunkCount img.length
  let padded := (List.range n).flatMap (chunkAt img)
  leBytes 8 schema ++ leBytes 8 landings ++ leBytes 4 img.length ++ leBytes 2 n ++ leBytes 2 0 ++ leBytes 4 (crc32c padded).toNat

/-- One append of a checkpoint or save: TYPE, INDEX, CKPT and payload. -/
structure PrivOp where
  type_ : Nat
  index : Nat
  ckpt  : Nat
  data  : Bytes
deriving DecidableEq, Repr

/-- What a checkpoint appends: the chunks that differ from the last committed one, then the RETAIN_COMMIT (13 R650). -/
def State.checkpointOps (s : State) (p : Plan) (img : Bytes) : List PrivOp :=
  let seq := privSeq s.nvm.priv 2 0 + 1
  ((dirtyChunks img s.nvm.committed).map fun k => ⟨1, k, seq, chunkAt img k⟩)
    ++ [⟨2, 0, 0, retainCommit p.schema (s.tasks.tasks.getD 0 default).landings img⟩]

/-- Append the first `cut` half steps of a list of records: whole at 2 each, torn at an odd one. -/
def appendOps : Nat → List PrivOp → Nvm → Nvm
  | _, [], v => v
  | cut, o :: rest, v =>
    if cut = 0 then v
    else if cut = 1 then privPush v o.type_ o.index o.ckpt o.data false
    else appendOps (cut - 2) rest (privPush v o.type_ o.index o.ckpt o.data true)

/-- A checkpoint of an image (13 R650). -/
def State.checkpointOf (s : State) (p : Plan) (img : Bytes) : State :=
  let ops := s.checkpointOps p img
  (s.updNvm fun v => { appendOps (2 * ops.length) ops v with
    committed := img, checkpoints := holdMax 32 (v.checkpoints + 1), lastCheckpoint := s.time, ckptAt := s.now }).reserveCheck s.nvm

/-- The retained image that a RETAIN_COMMIT assembles, or none: SCHEMA, chunks and DATA_CRC (13 R651). -/
def assemble (l : List PrivRec) (schema : Nat) (c : PrivRec) : Option Bytes :=
  if leNat (c.data.take 8) ≠ schema || c.data.length ≠ 28 then none
  else
    let bytes := leNat ((c.data.drop 16).take 4)
    let n := leNat ((c.data.drop 20).take 2)
    let chunk (k : Nat) : Bytes :=
      match (l.filter fun (r : PrivRec) => r.type_ = 1 && r.index = k && r.valid && r.ckpt ≤ c.seq).foldl
          (fun (b : Option PrivRec) (r : PrivRec) => match b with | some x => if x.seq < r.seq then some r else some x | none => some r) none with
      | some r => canPad 256 r.data
      | none => []
    let all := (List.range n).flatMap chunk
    if (crc32c all).toNat = leNat ((c.data.drop 24).take 4) then some (all.take bytes) else none

/-- The next older valid RETAIN_COMMIT below a SEQ. -/
def olderCommit (l : List PrivRec) (seq : Nat) : Option PrivRec :=
  (l.filter fun (r : PrivRec) => r.type_ = 2 && r.valid && r.seq < seq).foldl
    (fun (b : Option PrivRec) (r : PrivRec) => match b with | some x => if x.seq < r.seq then some r else some x | none => some r) none

/-- The image that a warm restart restores, with the SEQ it came from; none with the cause of event 0x1022 (13 R651). -/
def State.retainFind (s : State) (schema : Nat) : (Option (Bytes × Nat)) × Nat :=
  match privInForce s.nvm.priv 2 0 with
  | none => (none, 1)
  | some c =>
    match assemble s.nvm.priv schema c with
    | some b => (some (b, c.seq), 0)
    | none =>
      match olderCommit s.nvm.priv c.seq with
      | some d => (match assemble s.nvm.priv schema d with | some b => (some (b, d.seq), 0) | none => (none, 2))
      | none => (none, 2)

/-- Write a retained image back to the live Hall. -/
def State.retainRestore (s : State) (p : Plan) (b : Bytes) : State :=
  let step (a : State × Bytes) (r : Range) : State × Bytes := (a.1.putRange r (a.2.take (rangeBytes r)), a.2.drop (rangeBytes r))
  let (s, rest) := p.retained.foldl step (s, b)
  (p.retainedRecs.foldl (fun a o => step a ⟨.wm, o, 4⟩) (s, rest)).1

/-- DIRTY: chunks changed since the last committed checkpoint (13 R671). -/
def State.dirtyNow (s : State) : Nat :=
  match s.plans.active with
  | some p => (dirtyChunks (s.retainedImage p) s.nvm.committed).length
  | none => 0

/-- CHECKPOINT_INT in force, in ms: as certified until the ledger shortens it (16 R745). -/
def State.ckptInterval (s : State) : Nat := if s.sup.ledger.ckptInt = 0 then (s.plans.active.getD default).checkpoint else s.sup.ledger.ckptInt

/-- SAVE_NEED in µs: steps 1 to 5 of the save at their maxima, as things stand (13 R654, R655). -/
def State.saveNeed (s : State) : Nat := 300 + 1000 + 50 + 150 * s.dirtyNow + 50 + 100

/-- POS_SAVE of the four sources (13 R646). -/
def State.posSave (s : State) : Bytes :=
  (List.range 4).flatMap fun i => leBytes 8 (s.src i).lpc.toNat ++ leBytes 2 (s.src i).rem ++ List.replicate 6 0#8

/-- ACT_PLAN naming a slot (13 R646). -/
def actPlan (slot : Nat) (digest : Bytes) : Bytes := leBytes 1 slot ++ List.replicate 7 0#8 ++ leBytes 8 (beNat (digest.take 8))

/-! Raw Pages (13 R658 to R664) -/

def State.page (s : State) (n : Nat) : Bytes := sget (List.replicate 256 0xFF#8) s.nvm.pages n

/-- A write of up to 256 bytes wraps within its page (13 R658). -/
def pageMerge (old : Bytes) (off : Nat) (b : Bytes) : Bytes :=
  (b.zipIdx).foldl (fun p e => p.set ((off + e.2) % 256) e.1) old

/-- The page in force after a write; on the active module of a pair the next delta carries the write (13 R657, R661). -/
def State.pageWrite (s : State) (a : Nat) (b : Bytes) : State :=
  if b.isEmpty then s
  else
    let n := a / 256
    let s := s.when (s.pair.role = 1 && (s.pair.state = 3 || s.pair.state = 4)) fun s =>
      { s with pair := { s.pair with pageOut := s.pair.pageOut ++ [(a, b)] } }
    (s.updNvm fun v => { v with
      pages := sput (List.replicate 256 0xFF#8) v.pages n (pageMerge (s.page n) (a % 256) b)
      pageWrites := holdMax 64 (v.pageWrites + 1), rpReserve := v.rpReserve - 1 }).reserveCheck s.nvm

/-- A read of `n` bytes across page boundaries (13 R660). -/
def State.pageRead (s : State) (a n : Nat) : Bytes :=
  let p0 := a / 256
  (((List.range (n / 256 + 2)).flatMap fun k => s.page (p0 + k)).drop (a % 256)).take n

/-! The staging journal (14 R688, R689) -/

/-- The slot that staging writes: the firmware slot not run, the Plan slot in the staging role (14, Staging firmware). -/
def State.vestibule (s : State) (target : Nat) : Nat := if target = 1 then 1 - s.sup.fw.booted else 1 - s.plans.slot

/-- The bytes programmed in a slot. -/
def State.slotBytes (s : State) (target slot : Nat) : Bytes :=
  if target = 1 then s.nvm.fwSlots.getD slot [] else s.plans.slots.getD slot []

def State.setSlot (s : State) (target slot : Nat) (b : Bytes) : State :=
  if target = 1 then s.updNvm fun v => { v with fwSlots := upd v.fwSlots slot fun _ => b }
  else { s with plans := { s.plans with slots := upd s.plans.slots slot fun _ => b } }

def State.gen (s : State) (target : Nat) : Nat := s.nvm.gens.getD (target - 1) 0
def State.stageTotal (s : State) (target : Nat) : Nat := s.nvm.totals.getD (target - 1) 0

/-- Consecutive sectors from 0 with an entry of the newest generation. -/
def sectorRun (l : List Journal) (target slot gen : Nat) : Nat → Nat → Nat
  | 0, k => k
  | n + 1, k =>
    if l.any fun (j : Journal) => j.target = target && j.slot = slot && j.gen = gen && j.sector = k
    then sectorRun l target slot gen n (k + 1) else k

/-- A generation has been opened for the present Vestibule slot. -/
def State.staging (s : State) (target : Nat) : Bool :=
  s.nvm.journal.any fun (j : Journal) => j.target = target && j.slot = s.vestibule target && j.gen = s.gen target && j.sector = 0xFFFF

/-- STAGED (14 R689). -/
def State.stagedBytes (s : State) (target : Nat) : Nat :=
  if s.staging target then min (s.stageTotal target) (65536 * sectorRun s.nvm.journal target (s.vestibule target) (s.gen target) 2048 0) else 0

def State.journalise (s : State) (target sector : Nat) : State :=
  s.updNvm fun v => { v with journal := ⟨target, s.vestibule target, s.gen target, sector, s.stageTotal target⟩ :: v.journal }

/-- A BLOCK_WRITE start to an IMAGE: continues the generation of an equal TOTAL, or opens a new one; answers NEXT (14 R689). -/
def State.stageOpen (s : State) (target total : Nat) : State × Nat :=
  let slot := s.vestibule target
  if s.staging target && s.stageTotal target = total then
    let n := s.stagedBytes target
    (s.setSlot target slot ((s.slotBytes target slot).take n), n)
  else
    let s := s.updNvm fun v => { v with
      gens := upd v.gens (target - 1) fun g => (g + 1) % 65536, totals := upd v.totals (target - 1) fun _ => total
      journal := v.journal.filter fun (j : Journal) => j.target ≠ target }
    ((s.setSlot target slot []).journalise target 0xFFFF, 0)

/-- Program bytes that follow those already programmed; every sector that completes is journalised (14 R688). -/
def State.stageData (s : State) (target : Nat) (b : Bytes) : State :=
  let slot := s.vestibule target
  let old := s.slotBytes target slot
  let new := old ++ b
  let s := s.setSlot target slot new
  let done (n : Nat) : Nat := if n = s.stageTotal target then (n + 65535) / 65536 else n / 65536
  (List.range (done new.length - done old.length)).foldl (fun s k => s.journalise target (done old.length + k)) s

/-- Staged bytes are discarded: a later start opens a new generation. -/
def State.stageDrop (s : State) (target : Nat) : State :=
  (s.setSlot target (s.vestibule target) []).updNvm fun v => { v with
    journal := v.journal.filter fun (j : Journal) => j.target ≠ target, totals := upd v.totals (target - 1) fun _ => 0 }

end Sys2Proof.Machine
end

