-- ==== Sys2Proof/Machine/Status.lean ====
section
/-! DEFINITION. What the module reports of itself: modes, redundancy and health, fuses, watchdog counts, the Margin Ledger and the Hall system area. -/
namespace Sys2Proof.Machine

/-- HS:1 (04 R182). Backup has no number. -/
def modeNo : Mode → Nat
  | .backup => 0 | .boot => 1 | .stop => 2 | .run => 3 | .edit => 4 | .standby => 5 | .update => 6 | .fault => 7

/-- The mode a number names. -/
def modeOf : Nat → Mode
  | 1 => .boot | 2 => .stop | 3 => .run | 4 => .edit | 5 => .standby | 6 => .update | 7 => .fault | _ => .backup

def State.updSup (s : State) (f : Sup → Sup) : State := { s with sup := f s.sup }
def State.updFuses (s : State) (f : Fuses → Fuses) : State := { s with fuses := f s.fuses }
def State.updPair (s : State) (f : Pair → Pair) : State := { s with pair := f s.pair }
def State.updPlans (s : State) (f : Plans → Plans) : State := { s with plans := f s.plans }
def State.updTasks (s : State) (f : Tasks → Tasks) : State := { s with tasks := f s.tasks }
def State.task (s : State) (k : Nat) : TaskSt := s.tasks.tasks.getD k default
def State.updTask (s : State) (k : Nat) (f : TaskSt → TaskSt) : State := s.updTasks fun v => { v with tasks := upd v.tasks k f }
def State.gallery (s : State) (g : Nat) : Gallery := s.tasks.galleries.getD g default
def State.updGallery (s : State) (g : Nat) (f : Gallery → Gallery) : State := s.updTasks fun v => { v with galleries := upd v.galleries g f }

/-- The active Plan, or an empty one. -/
def State.plan (s : State) : Plan := s.plans.active.getD default

/-! Fuses (00 R2 to R6, R10) -/

/-- A fuse group whose slots are consumed without a commit; a slot that still burns is not consumed yet (00 R5, R6, R10). -/
def fuseSpent (f : Fuse) : Bool := 2 ≤ f.used && f.committed.isEmpty && f.burn ≠ 1

/-- The window fraction in quarters: 0 while unprogrammed (00 R2). -/
def State.windowQuarters (s : State) : Nat := if s.fuses.win.value.isEmpty then 0 else leNat s.fuses.win.value

/-- WDT_WINDOW (00 R10). -/
def State.windowCode (s : State) : Nat :=
  let f := s.fuses.win
  if !f.value.isEmpty then leNat f.value else if fuseSpent f then 0xFE else 0xFF

/-- PLAN_KEY_STATE (00 R10). -/
def State.keyState (s : State) : Nat :=
  let f := s.fuses.key
  if !f.value.isEmpty then 1 else if fuseSpent f then 2 else 0

/-- First 4 bytes of a key's SHA-256 digest, most significant byte first (00 R10, 06 R310). -/
def keyId (key : Bytes) : Nat := beNat ((sha256 key).take 4)

/-- PLAN_KEY_ID (00 R10). -/
def State.planKeyId (s : State) : Nat := if s.fuses.key.value.isEmpty then 0 else keyId s.fuses.key.value

/-- ORDER_CODE (00 R1, R10). -/
def State.orderCode (s : State) : Bytes :=
  let w := s.windowCode
  let f : Nat := if w < 4 then 0x30 + w else 0x46
  [0x4C#8, 0x58#8, 0x2D#8, 0x38#8, 0x34#8, 0x30#8, 0x2D#8, if Config.gradeX then 0x58#8 else 0x41#8, 0x2D#8, 0x57#8] ++ leBytes 1 f
    ++ [0x2D#8, 0x4B#8, if s.keyState = 1 then 0x31#8 else 0x30#8]

/-- FW_VERSION of the running firmware and of the other slot (00 R10, 14 R704). -/
def State.fwVersion (s : State) : Nat := Config.fwVersion (s.slotBytes 1 s.sup.fw.booted)
def State.fwOther (s : State) : Nat := Config.fwVersion (s.slotBytes 1 (1 - s.sup.fw.booted))

/-! Watchdogs (15 R706, R707) -/

def State.wdt (s : State) (w : Nat) : Wdt := s.sup.wdts.getD w default
def State.updWdt (s : State) (w : Nat) (f : Wdt → Wdt) : State := s.updSup fun v => { v with wdts := upd v.wdts w f }
def State.wdtCfg (s : State) (w sub : Nat) : Nat := s.cfg (0x1700 + w) sub

/-- PERIOD in µs: 100,000 for the Supervisor's when no Plan is loaded (15 R733). -/
def State.wdtPeriod (s : State) (w : Nat) : Nat := if w = 0 && s.plans.active.isNone then 100000 else s.wdtCfg w 3

/-- W: PERIOD × f (15 R707). -/
def State.wdtOpen (s : State) (w : Nat) : Nat := s.wdtPeriod w * s.windowQuarters / 4

/-- C: 1 µs ticks since it was last 0, never beyond PERIOD (15 R706, R708). -/
def State.wdtC (s : State) (w : Nat) : Nat := min (s.wdtPeriod w) (s.now / 1000 - (s.wdt w).startAt / 1000)

/-- ENABLE of a watchdog (15 R733). -/
def State.wdtEnabled (s : State) (w : Nat) : Bool := w = 0 || (s.plans.active.isSome && s.wdtCfg w 1 ≠ 0)

/-! The Margin Ledger (16 R738 to R745) -/

/-- Sectors of the nine partitions (13 R627): both firmware slots, both Plan slots, the two streams, the archive, Raw Pages, and
their pool. -/
def partitionSectors : List Nat := [512, 512, 2048, 2048, 640, 384, 1024, 256, 64]

def State.margin (s : State) (q : Nat) : Margin := s.sup.ledger.items.getD q default
def State.updMargin (s : State) (q : Nat) (f : Margin → Margin) : State :=
  s.updSup fun v => { v with ledger := { v.ledger with items := upd v.ledger.items q f } }

/-- An automatic action of a quantity (16 R738, R760). -/
def State.marginActs (s : State) (q : Nat) : State :=
  s.updMargin q fun m => { m with actions := holdMax 32 (m.actions + 1), lastAction := s.time }

/-- Time spent in Run, Edit included (16 R745; log 155). -/
def State.runTime (s : State) : Nat :=
  s.sup.ledger.runNs + if s.mode = .run || s.mode = .edit then s.now - s.sup.ledger.runFrom else 0

/-- VALUE of a quantity: VBAT and TRIM as last measured, NOR_ERASE at its limit once 2 % of a partition is retired (16 R738, R744). -/
def State.marginValue (s : State) (q : Nat) : Rat :=
  let worn := (s.sup.ledger.retired.zip partitionSectors).any fun e => 2 * e.2 ≤ 100 * e.1
  if q = 5 then (s.sup.backup.vbat : Rat) / 1000
  else if 8 ≤ q then (s.field.aio.getD (q - 8) default).trim
  else if q = 2 && worn then 36
  else (s.margin q).value

/-- LIMIT of a quantity (16 R738); that of HOLDUP is REQ at the shortest interval (R745). -/
def State.marginLimit (s : State) (q : Nat) : Rat :=
  match q with
  | 0 => 40 | 1 => 95 | 2 => 36 | 3 => 64 | 4 => (s.margin 4).limit | 5 => 5 / 2 | 6 => 500 | 7 => 0 | _ => 1 / 5

/-- CROSS_HOURS: operating seconds ahead; 0 none (16 R740). -/
def crossSeconds (m : Margin) : Nat := match m.cross with | some h => min (2 ^ 40 - 1) (h * 3600).floor.toNat | none => 0

/-- CROSS_DATE: the calendar on the assumption of continuous operation; 0 while OSF is set or none is predicted (16 R740). -/
def State.crossDate (s : State) (m : Margin) : Nat :=
  match m.cross with
  | some _ => if s.clock.osf then 0 else calendarWord (min calendarEnd (s.rtcTicks + 32768 * crossSeconds m))
  | none => 0

/-- The quantity with the earliest crossing, or 0xFF (16 R760). -/
def State.worstQ (s : State) : Nat :=
  ((List.range 16).foldl (fun (b : Option (Nat × Rat)) q =>
    match (s.margin q).cross, b with
    | some h, some (_, g) => if h < g then some (q, h) else b
    | some h, none => some (q, h)
    | none, _ => b) none).elim 0xFF (·.1)

/-! The pair (12 R588, R603, R618) -/

def State.paired (s : State) : Bool := s.cfgOn 0x1400 1

/-- A partner is present: PAIR_SENSE shows it powered (12 R588). -/
def State.partnerPresent (s : State) : Bool := s.paired && s.pair.sense

/-- DEGRADED (12 R603). -/
def State.degraded (s : State) : Bool :=
  s.paired && (s.pair.state = 0 || s.pair.state = 1 || s.pair.state = 2 || s.pair.state = 3 || s.pair.state = 5)

/-- PLAN_ACTIVE DIGEST: its first 8 bytes as a number (06 R307). -/
def digestNo (b : Bytes) : Nat := beNat (b.take 8)

/-- BEHIND: major Landings between the active count and the standby's last applied (12 R622). -/
def State.behindCount (s : State) : Nat := if s.paired && s.pair.role ≠ 0 then (s.task 0).landings - s.pair.applied else 0

/-- An instant lies within the last 60 s. -/
def State.within60 (s : State) (x : Option Nat) : Bool := match x with | some t => s.now < t + 60000000000 | none => false

/-- FINDINGS (12 R618, 16 R742). -/
def State.findings (s : State) : Nat :=
  let p := s.pair
  let bit (b : Bool) (k : Nat) : Nat := if b then 2 ^ k else 0
  bit (s.paired && p.lanes.countP (·.up) = 1) 0 + bit (s.within60 p.divergedAt) 1 + bit (s.within60 p.shadowAt) 2 + bit p.loopback 3
    + bit (100 < p.scrubCount) 4 + bit p.uncorrectable 5 + bit p.selfcheck 6 + bit (s.tasks.fallback ≠ 0) 7
    + bit (1 < s.behindCount) 8 + bit (s.sup.ledger.items.any fun (m : Margin) => 2 ≤ m.state) 9 + bit (s.within60 p.supplyAt) 10
    + bit ((s.margin 4).state = 3) 11 + bit p.unaligned 12
    + bit (match p.partner with | some x => p.state = 4 && x.digest ≠ digestNo s.plan.digest | none => false) 13

/-- Penalties of the findings, by bit (12 R618). -/
def penalties : List Nat := [10, 40, 15, 20, 5, 60, 50, 20, 10, 10, 10, 20, 5, 15]

/-- SCORE of a set of findings (12 R618). -/
def scoreOf (f : Nat) : Nat := 100 - ((penalties.zipIdx.filter fun e => bitAt f e.2).map (·.1)).sum

/-! Indicators (14 R679, R687; 01 R31) -/

def State.ledRun (s : State) : Led :=
  if s.inReset then .off else match s.mode with | .run => .on | .edit => .flash2Hz | .standby => .flashHalfHz | _ => .off
/-- Boot that stays has failed its ROM check (R692). -/
def State.ledFault (s : State) : Led :=
  if s.inReset then .off else match s.mode with | .fault => .on | .boot => .flash2Hz | _ => .off
def State.ledForce (s : State) : Led := if s.live && s.forced then .on else .off
def State.ledRed (s : State) : Led := if !s.live || !s.paired then .off else if s.pair.state = 4 then .on else .flash2Hz
def State.ledNet (s : State) : Led :=
  if !s.live || !s.net.ports.any (fun x => x.link ≠ 0 && x.ip ≠ 0) then .off
  else if s.clock.ptpValid || s.cfg 0x1210 1 = 0 then .on else .flash2Hz
def State.ledSvc (s : State) : Led :=
  if !s.live then .off else if s.mode = .update then .on else if s.sup.fw.state = 1 then .flash2Hz else .off

/-! The Hall system area (04 R182, R183) -/

def State.staleBlock (s : State) (b : Nat) : Bool := (s.hall.blocks.getD b default).stale
/-- STALE_NOW: input blocks stale at present (04 R234). -/
def State.staleNow (s : State) : Nat := s.hall.blocks.countP (·.stale)

/-- HS:0 (04 R183). -/
def State.moduleStatus (s : State) : Nat :=
  ofBool s.forced + 2 * ofBool (s.plans.editState = 3) + 4 * ofBool s.tasks.warm + 8 * ofBool s.tasks.retainLost
    + 16 * ofBool (s.tasks.fallback ≠ 0) + 32 * ofBool (s.line.srcs.any (·.overspeed)) + 64 * ofBool (s.staleNow ≠ 0)
    + 128 * ofBool s.clock.ptpValid

/-- HS:6 (04 R182). -/
def State.redundancy (s : State) : Nat := s.pair.role + 4 * ofBool s.degraded + 8 * ofBool s.partnerPresent

/-- A source's eight words from its last estimator tick (04 R182, 02 R111). -/
def pubWord (x : Pub) (o : Nat) : Word :=
  match o with
  | 0 => x.lpc.setWidth 32
  | 1 => (x.lpc >>> 32).setWidth 32
  | 2 => velocityF32 x.v
  | 3 => accelF32 x.a
  | 4 => BitVec.ofNat 32 x.quality
  | 5 => BitVec.ofNat 32 x.stamp
  | 6 => BitVec.ofNat 32 (x.stamp / 2 ^ 32)
  | _ => BitVec.ofNat 32 x.q

/-- µs since the last accepted import sample of a source, holding at the maximum (10 R533). -/
def State.importAge (s : State) (i : Nat) : Nat :=
  if (s.src i).sample.isNone then 0xFFFFFFFF else holdMax 32 ((s.now - (s.src i).sampleAt) / 1000)

/-- The grandmaster is this module: a port is MASTER and none is SLAVE (10 R533). -/
def State.isGm (s : State) : Bool := s.net.ports.any (·.ptp = 6) && !s.net.ports.any (·.ptp = 9)

/-- HS:1536 to 1791 (10 R533). -/
def State.netHs (s : State) (w : Nat) : Nat :=
  if w = 1536 ∨ w = 1537 then
    let x := s.port (w - 1536)
    ofBool (x.link ≠ 0) + 2 * ofBool (x.link = 2) + 4 * ofBool (x.ip ≠ 0) + 8 * ofBool x.lease
  else if w = 1538 then
    (s.port 0).ptp % 16 + 16 * ((s.port 1).ptp % 16) + 256 * ofBool s.clock.ptpValid + 512 * ofBool s.isGm
  else if w = 1539 then pattern 32 (clampInt (-(2 ^ 31)) (2 ^ 31 - 1) s.net.ptp.offset)
  else if w = 1540 then s.bam.sessions.countP (·.state = 2)
  else if w = 1541 then s.net.roselo.minor.getD 0 2 + 16 * s.net.roselo.minor.getD 1 2
  else if 1544 ≤ w ∧ w < 1548 then s.importAge (w - 1544)
  else 0

/-- A mask over loops: bit n mod 32 of word n ÷ 32 (04 R182). -/
def State.loopMask (s : State) (w : Nat) (f : Nat → Bool) : Nat :=
  ((s.loops.loops.filter fun e => e.1 / 32 = w && f e.2.status).map fun e => 2 ^ (e.1 % 32)).sum

/-- A word of the Hall system area, as a copy-in takes it (04 R182). -/
def State.hs (s : State) (w : Nat) : Word :=
  let n (x : Nat) : Word := BitVec.ofNat 32 x
  if w = 0 then n s.moduleStatus
  else if w = 1 then n (modeNo s.mode)
  else if w = 2 then n s.time
  else if w = 3 then n (s.time / 2 ^ 32)
  else if w = 4 then n (ofBool s.clock.ptpValid + 2 * ofBool (!s.clock.ptpValid))
  else if w = 5 then n (scoreOf s.findings)
  else if w = 6 then n s.redundancy
  else if w = 7 then n s.dspStatus
  else if 16 ≤ w ∧ w < 48 then pubWord (s.src ((w - 16) / 8)).pub ((w - 16) % 8)
  else if 64 ≤ w ∧ w < 192 then n ((s.task ((w - 64) / 2)).landings / (if w % 2 = 0 then 1 else 2 ^ 32))
  else if 192 ≤ w ∧ w < 256 then n (s.task (w - 192)).info
  else if 256 ≤ w ∧ w < 264 then n (maskOf s.staleBlock (32 * (w - 256)))
  else if 512 ≤ w ∧ w < 1024 then s.fieldHs w
  else if 1024 ≤ w ∧ w < 1088 then n (s.loopMask (w - 1024) fun st => Nat.land st (stSatHi + stSatLo + stRate) ≠ 0)
  else if 1088 ≤ w ∧ w < 1152 then n (s.loopMask (w - 1088) fun st => Nat.land st (stWindHi + stWindLo) ≠ 0)
  else if 1152 ≤ w ∧ w < 1536 then s.dspHs w
  else if 1536 ≤ w ∧ w < 1792 then n (s.netHs w)
  else if 1792 ≤ w ∧ w < 2048 then s.canHs w
  else 0

end Sys2Proof.Machine
end

