-- ==== Sys2Proof/Machine/DictRead.lean ====
section
/-! DEFINITION. Reading the object dictionary: what every entry that the machine computes reads as (00 R10 to 17 R783, the entry tables of the chapters). An entry without a reader here reads its configuration value in force. -/
namespace Sys2Proof.Machine

def vN (n : Nat) : Val := .num n
def vB (b : Bool) : Val := .num (ofBool b)
def vF (x : Rat) : Val := .num (f32Of x).toNat
def vW (w : Word) : Val := .num w.toNat
def vI (w : Nat) (i : Int) : Val := .num (pattern w i)

/-- The selector of an entry in a session slot; its default is 0 (10 R506). -/
def State.selOf (s : State) (k idx sub : Nat) : Nat := sget 0 (s.sess k).sel (key idx sub)

/-- A measured quantity that no command delivers reads as a free value (log 20). -/
def State.measured (s : State) : State × Val := (s.spend, .num (s.free 64).toNat)

/-! Families -/

/-- 0x1000 (00 R10). -/
def State.readIdentity (s : State) (sub : Nat) : Val :=
  match sub with
  | 1 => .bytes s.orderCode
  | 2 => .bytes moduleSerial
  | 3 => vN (Config.hwIssue % 65536)
  | 4 => vN s.fwVersion
  | 5 => vN s.windowCode
  | 6 => vN s.keyState
  | 7 => vN s.planKeyId
  | _ => vN (Config.macEth (sub - 8) % 2 ^ 48)

/-- 0x1020 (14 R701). -/
def State.readPower (s : State) (sub : Nat) : Val :=
  let p := s.sup.power
  match sub with
  | 1 => vF ((p.vl : Rat) / 1000)
  | 2 => vB p.holdReady
  | 3 => vF p.holdMs
  | 4 => vN p.fails
  | 5 => vN p.lastFail
  | _ => vN p.pinResets

/-- 0x1030 (14 R702). -/
def State.readBoot (s : State) (sub : Nat) : Val :=
  let p := s.sup.power
  match sub with
  | 1 => vN p.cause
  | 2 => vN s.sup.fw.booted
  | 3 => vN p.fwMs
  | 4 => vN p.selftestMs
  | 5 => vN p.planMs
  | _ => vN p.bootMs

/-- 0x1100 (14 R700). -/
def State.readMode (s : State) (sub : Nat) : Val :=
  match sub with
  | 1 => vN (modeNo s.mode)
  | 2 => vN s.sup.prevMode
  | 3 => vN s.sup.since
  | 7 => vN (ofBool s.sup.pinRun + 2 * ofBool s.sup.pinStop + 4 * ofBool s.sup.pinMres)
  | 8 => vN s.sup.cause
  | 9 => vN s.sup.transitions
  | _ => s.val 0x1100 sub

/-- 0x1110 (04 R232). -/
def State.readRestart (s : State) (sub : Nat) : Val :=
  let found := match s.plans.active with | some p => (s.retainFind p.schema).1 | none => none
  match sub with
  | 2 => vN s.tasks.lastKind
  | 3 => vB found.isSome
  | 4 => vN (match found with | some x => x.2 | none => 0)
  | 5 => vN s.ckptInterval
  | 6 => vN s.plan.checkpoint
  | _ => vN s.plan.retainBytes

/-- A staged operation on the force tables. -/
def isForce (x : Staged) : Bool := match x.op with | .force _ => true | _ => false

/-- 0x1120 (04 R233). -/
def State.readForcing (s : State) (sub : Nat) : Val :=
  match sub with
  | 1 => vB s.forced
  | 2 => vN s.bitPoints
  | 3 => vN s.wordPoints
  | 4 => vN s.hall.forcedSince
  | _ => vB (s.staged.any isForce)

/-- 0x1200 + p (10 R534). -/
def State.readPort (s : State) (p sub : Nat) : Val :=
  let x := s.port p
  match sub with
  | 9 => vN x.link
  | 0x0A => vN x.ip
  | 0x0B => vN x.rxFrames
  | 0x0C => vN x.txFrames
  | 0x0D => vN x.rxErrors
  | 0x0E => vN x.rxDiscarded
  | 0x0F => vN x.txDropped
  | 0x10 => vN (Config.macEth p % 2 ^ 48)
  | _ => s.val (0x1200 + p) sub

/-- 0x1210 (10 R535). -/
def State.readPtp (s : State) (sub : Nat) : Val :=
  let x := s.net.ptp
  match sub with
  | 0x0C => vN ((s.port 0).ptp % 16 + 16 * ((s.port 1).ptp % 16))
  | 0x0D => vB s.clock.ptpValid
  | 0x0E => vI 64 x.offset
  | 0x0F => vN x.delay
  | 0x10 => vN x.gm
  | 0x11 => vN x.steps
  | _ => s.val 0x1210 sub

/-- 0x1220 (10 R536). -/
def State.readBamcon (s : State) (sub : Nat) : Val :=
  let b := s.bam
  match sub with
  | 2 => vN (b.sessions.countP (·.state = 2))
  | 4 => vN b.authFails
  | 5 => vN b.lockoutCount
  | 6 => vN b.replays
  | 7 => vN b.pushOverruns
  | 8 => vB b.keyFactory
  | _ => s.val 0x1220 sub

/-- 0x1230 + k (10 R537). -/
def State.readSession (s : State) (j sub : Nat) : Val :=
  let x := s.sess j
  match sub with
  | 1 => vN x.state
  | 2 => vN x.role
  | 3 => vN x.peerIp
  | 4 => vN x.peerPort
  | 5 => vN x.link
  | 6 => vN x.minor
  | _ => vN (if x.state = 0 then 0 else holdMax 32 ((s.now - x.validAt) / 1000000))

/-- 0x1240 (10 R538). -/
def State.readNetmap (s : State) (sub : Nat) : Val :=
  let p := s.plan
  match sub with
  | 1 => vN ((p.inFrames.map (·.block)).eraseDups.length)
  | 2 => vN p.outFrames.length
  | 3 => vN (p.queues.countP fun q => match q with | .udp _ _ _ _ => true | _ => false)
  | 4 => vN s.net.rejected
  | _ => vN s.net.sentOut

/-- CAN_CFG to CAN_MBOX of a channel; `o` is the offset of the index in the channel's block (11 R580 to R585). -/
def State.readCan (s : State) (n o idx sub : Nat) : Val :=
  let x := s.can n
  let dflt := s.val idx sub
  if o = 1 then
    match sub with
    | 1 => vN (if s.canEnabled n then x.state else 0)
    | 2 => vB (s.canWarning n)
    | 3 => vN x.tec
    | 4 => vN x.rec_
    | 5 => vN (s.canNomRate n)
    | 6 => vN (s.canDataRate n)
    | 7 => vF (((1 + s.canCfg n 4 : Nat) : Rat) * 100 / ((1 + s.canCfg n 4 + s.canCfg n 5 : Nat) : Rat))
    | 8 => vN x.tdc
    | 9 => vN x.lastError
    | 0x0A => vN x.rxFrames
    | 0x0B => vN x.errFrames
    | 0x0C => vN x.busOffs
    | 0x0D => vN x.overflow
    | 0x0E => vB x.tdcFail
    | _ => dflt
  else if o = 2 then
    match sub with
    | 1 => vN x.queue.length
    | 2 => vN (s.plan.canOuts.countP fun c => c.channel = n)
    | 3 => vN x.txFrames
    | 4 => vN x.txDropped
    | 5 => vN x.txExpired
    | 6 => vN x.flushed
    | 7 => vN x.arbLost
    | 8 => vN x.waitMax
    | _ => dflt
  else if o = 3 then (if sub = 0x0C then vN (s.canList n).length else dflt)
  else if o = 4 then
    match sub with
    | 4 => vN x.rxMessages
    | 5 => vN x.txMessages
    | 6 => vN x.segErrors
    | _ => dflt
  else if 0x10 ≤ o then
    let b := x.boxes.getD (o - 0x10) default
    match sub with
    | 7 => vN (min (s.canPending n (o - 0x10)) (s.canBox n (o - 0x10) 1))
    | 8 => vN b.received
    | 9 => vN b.lostCount
    | _ => dflt
  else dflt

/-- 0x1400 (12 R622). -/
def State.readPair (s : State) (sub : Nat) : Val :=
  let p := s.pair
  match sub with
  | 2 => vN p.role
  | 3 => vN p.state
  | 4 => vB s.degraded
  | 5 => vN p.roleSel
  | 6 => vB p.sense
  | 7 => vN s.behindCount
  | 0x0E => vN p.switchAt
  | 0x0F => vN p.takeovers
  | 0x10 => vN p.switchovers
  | 0x11 => vN p.skipped
  | 0x12 => vN p.lastTakeover
  | _ => s.val 0x1400 sub

/-- 0x1401 (12 R623). -/
def State.readPartner (s : State) (sub : Nat) : Val :=
  match s.pair.partner with
  | none => if sub = 1 then .bytes [] else vN 0
  | some x =>
    match sub with
    | 1 => .bytes x.serial
    | 2 => vN x.fw
    | 3 => vN x.schema
    | 4 => vN x.digest
    | 5 => vN x.mode
    | 6 => vN x.score
    | _ => vN x.findings

/-- 0x1410 (12 R624), without its two rates. -/
def State.readCorridor (s : State) (sub : Nat) : Val :=
  let p := s.pair
  match sub with
  | 1 => vN (maskOf (fun i => (p.lanes.getD i default).up) 0 % 4)
  | 3 => vN p.minor
  | 5 => vN p.framesTx
  | 6 => vN p.framesRx
  | 7 => vN p.crcErrors
  | 8 => vN p.naks
  | 9 => vN (p.buffer.map (·.2)).sum
  | 0x0A => vN p.peak
  | 0x0D => vN p.silences
  | _ => s.val 0x1410 sub

/-- 0x1420 and 0x1430 (12 R625). -/
def State.readHealth (s : State) (sub : Nat) : Val :=
  match sub with
  | 1 => vN (scoreOf s.findings)
  | 2 => vN s.findings
  | 3 => vN s.pair.healthAt
  | _ => vB s.pair.recommend

def State.readCompare (s : State) (sub : Nat) : Val :=
  let p := s.pair
  match sub with
  | 1 => vN p.intervals
  | 2 => vN p.mismatches
  | 3 => vN p.lastClasses
  | 4 => vN p.resyncs
  | 5 => vN p.shadowDiff
  | _ => vN p.loopbackFail

/-- 0x1500 (13 R668). -/
def State.readPstore (s : State) (sub : Nat) : Val :=
  let v := s.nvm
  match sub with
  | 1 => vN (if v.running.isSome then 1 else 0)
  | 2 => vN s.psPresent
  | 3 => vN (bufferFill v.filling)
  | 4 => vN v.commits
  | 5 => vN v.recordCommits
  | 6 => vN v.lastCommit
  | 7 => vN v.protect
  | 8 => vN v.eraseMax
  | 9 => vN v.privEraseMax
  | _ => vN v.reserve

/-- 0x1530 (13 R671). -/
def State.readRetain (s : State) (sub : Nat) : Val :=
  let v := s.nvm
  match sub with
  | 1 => vN (chunkCount s.plan.retainBytes)
  | 2 => vN s.dirtyNow
  | 3 => vN s.saveNeed
  | 4 => vN v.checkpoints
  | 5 => vN v.lastCheckpoint
  | 6 => vN v.lastSave
  | _ => vN v.privBytes

/-- The bytes that a read of the recorder returns for a SEQ: from the ring, else from the archive slot (16 R756). -/
def State.recordAt (s : State) (seq : Nat) : Bytes :=
  let r := s.recorder
  let back := (r.next + 2 ^ 32 - 1 - seq % 2 ^ 32) % 2 ^ 32
  match r.ring[back]? with
  | some e => recordBytes e
  | none =>
    match (r.archive.find? fun e => e.1 = seq % 1048576).map (·.2) with
    | some e => recordBytes e
    | none => List.replicate 64 0xFF#8

/-- 0x1600 (16 R758), for a session slot. -/
def State.readRecorder (s : State) (k sub : Nat) : Val :=
  let r := s.recorder
  let w (n : Nat) : Val := vN (n % 2 ^ 32)
  match sub with
  | 1 => w (r.next + 2 ^ 32 - 1)
  | 2 => w (r.next - r.ring.length)
  | 3 => w (r.archNext + 2 ^ 32 - 1)
  | 4 => w r.archTail
  | 5 => vN (s.selOf k 0x1600 5)
  | 6 => vN (s.selOf k 0x1600 6)
  | 7 => .bytes ((List.range (s.selOf k 0x1600 6)).flatMap fun j => s.recordAt (s.selOf k 0x1600 5 + j))
  | 8 => vN r.recorded
  | 9 => vN r.suppressed
  | _ => vN r.lost

/-- 0x1610 (16 R759), for a session slot. -/
def State.readRate (s : State) (k sub : Nat) : Val :=
  let j := s.selOf k 0x1610 1
  let b := s.recorder.buckets.getD j default
  match sub with
  | 1 => vN j
  | 2 => vN b.code
  | 3 => vN b.burst
  | 4 => vN b.interval
  | 5 => vN b.tokens
  | 6 => vN b.suppressed
  | _ => vN (s.recorder.buckets.countP (·.code ≠ 0))

/-- 0x1700 + w (15 R733). -/
def State.readWdt (s : State) (w sub : Nat) : Val :=
  let x := s.wdt w
  match sub with
  | 1 => vB (s.wdtEnabled w)
  | 2 => vN x.state
  | 3 => vN (s.wdtPeriod w)
  | 4 => vN (if w = 0 then 0 else s.wdtCfg w 4)
  | 5 => vB x.lock
  | 6 => vN (if x.state = 1 then s.wdtC w else 0)
  | 7 => vN (s.wdtOpen w)
  | 8 => vN x.lastService
  | 9 => vN x.services
  | 0x0A => vN x.premature
  | 0x0B => vN x.warnings
  | 0x0C => vN x.refused
  | 0x0E => vN (if w = 0 then 1 else s.wdtCfg w 0x0E)
  | _ => s.val (0x1700 + w) sub

/-- 0x1710 (15 R734). -/
def State.readEvidence (s : State) (sub : Nat) : Val :=
  let e := s.sup.backup.evidence
  match sub with
  | 1 => vB e.valid
  | 2 => vN e.wdt
  | 3 => vN e.cause
  | 4 => vN e.mode
  | 9 => vN e.pcSup
  | 0x0A => vN e.lastHours
  | 0x0B => vN e.lastRtc
  | 0x0C => vN e.expiryRtc
  | 0x0D => vN e.count
  | _ => vN (e.pcs.getD (sub - 5) 0)

/-- 0x1720 and 0x1721 (15 R735). -/
def State.readRtc (s : State) (sub : Nat) : Val :=
  match sub with
  | 1 => vN (calendarWord s.rtcTicks)
  | 3 => vN (ofBool s.clock.osf + 2 * ofBool s.sup.backup.lost + 4 * ofBool s.clock.rtcEnd + 8 * ofBool s.sup.backup.vbatLow)
  | 5 => vN (s.rtcTicks / 32768)
  | 6 => vN s.sup.backup.lastSet
  | _ => s.val 0x1720 sub

def State.readBackup (s : State) (sub : Nat) : Val :=
  let b := s.sup.backup
  match sub with
  | 1 => .bytes b.bytes
  | 2 => vB b.valid
  | 3 => vF ((b.vbat : Rat) / 1000)
  | 4 => vN s.hours
  | _ => vN s.clock.cycles

/-- 0x1730 (17 R783). -/
def State.readThermal (s : State) (sub : Nat) : Val :=
  let x := s.sup.thermal
  match sub with
  | 1 => vF ((x.case_ : Rat) / 1000)
  | 2 => vF (if Config.gradeX then 120 else 110)
  | 3 => vF (((x.peak.getD 0 : Int) : Rat) / 1000)
  | 4 => vF ((x.junction : Rat) / 1000)
  | 5 => vF ((s.field.va.mv : Rat) / 1000)
  | 6 => vF ((x.pVa : Rat) / 1000)
  | 7 => vF ((x.pModule : Rat) / 1000)
  | 0x0C => vN x.vencOff
  | _ => vN (f32Of ((x.venc.getD (sub - 8) 0 : Nat) : Rat)).toNat

/-- 0x1800 and 0x1801 (14 R703, R704). -/
def State.readFwStage (s : State) (sub : Nat) : Val :=
  match sub with
  | 2 => vN (s.stageTotal 1)
  | 3 => vN (s.stagedBytes 1)
  | 4 => vN s.sup.fw.stage
  | 6 => vN (if s.sup.fw.stage = 0 then 0 else Config.fwVersion (s.slotBytes 1 (s.vestibule 1)))
  | 7 => vN s.sup.fw.reject
  | 8 => vN (s.vestibule 1)
  | _ => vN (s.gen 1)

def State.readFwActive (s : State) (sub : Nat) : Val :=
  let x := s.sup.fw
  match sub with
  | 1 => vN x.state
  | 2 => vB x.healthOk
  | 3 => vN (if x.state = 1 then (x.actAt + 300000000000 - s.now) / 1000000000 else 0)
  | 6 => vN s.fwOther
  | 7 => vN x.rollbacks
  | 8 => vN x.lastPause
  | _ => s.val 0x1801 sub

/-- 0x1900 and 0x1910 + q (16 R760). -/
def State.readLedger (s : State) (sub : Nat) : Val :=
  let l := s.sup.ledger
  match sub with
  | 1 => vN (l.items.foldl (fun (m : Nat) (x : Margin) => max m x.state) 0)
  | 2 => vN s.worstQ
  | 3 => vN (if s.worstQ = 0xFF then 0 else s.crossDate (s.margin s.worstQ))
  | 4 => vN l.avsStep
  | 5 => vN l.retired.sum
  | _ => vN l.refreshed

def State.readMargin (s : State) (q sub : Nat) : Val :=
  let m := s.margin q
  if q = 7 then vN 0
  else
    match sub with
    | 1 => vF (s.marginValue q)
    | 2 => vF (s.marginLimit q)
    | 3 => vF m.trend
    | 4 => vN (crossSeconds m)
    | 5 => vN (s.crossDate m)
    | 6 => vN m.state
    | 7 => vN m.actions
    | 8 => vN m.lastAction
    | _ => vN m.samples.length

/-- 0x2020 + n (02 R116) and 0x2050 + s (02 R118). -/
def State.readEnc (s : State) (n sub : Nat) : Val :=
  let e := s.enc n
  match sub with
  | 1 => vI 64 e.raw
  | 2 => vI 64 e.zLatch
  | 3 => vN e.zCount
  | 4 => vN e.quadErr
  | 5 => vN e.zErr
  | 6 => vN e.ssiErr
  | 7 => vN (s.lineFault n)
  | 8 => vN (s.encState n)
  | _ => vF ((s.rate n : Rat))

def State.readSrc (s : State) (i sub : Nat) : Val :=
  let r := s.src i
  match sub with
  | 1 => vN r.pub.lpc.toNat
  | 2 => vW (velocityF32 r.pub.v)
  | 3 => vW (accelF32 r.pub.a)
  | 4 => vN r.pub.quality
  | 5 => vN r.pub.stamp
  | 6 => vN (s.activeMask i)
  | 7 => vN (s.q i)
  | 8 => vN r.slipCount
  | 9 => vN r.wrapCount
  | _ => vN r.presetStep.toNat

/-- 0x2100 and 0x2104 + s (03 R169, R170). -/
def State.readTreadEngine (s : State) (sub : Nat) : Val :=
  let x := s.treads
  match sub with
  | 2 => vN ((List.range 16384).countP fun i => (s.flightOf i).isSome)
  | 3 => vN x.lateTotal
  | 4 => vN x.missedTotal
  | 5 => vN x.overrunTotal
  | 6 => vN x.launchDropped
  | 7 => vN x.editDropped
  | 8 => vN x.pauseSkipped
  | 9 => vN x.firedTotal
  | _ => s.val 0x2100 sub

def State.readTreadSrc (s : State) (i sub : Nat) : Val :=
  let r := (s.fillNow i).tsrc i
  match sub with
  | 4 => vN (r.running.getD 0xFFFF)
  | 5 => vN r.queued.length
  | 6 => vN (match r.window with | e :: _ => e.tread | [] => 0xFFFF)
  | 7 => vN r.window.length
  | 8 => vN (match r.window with | e :: _ => (s.due e).toNat | [] => 0)
  | _ => s.val (0x2104 + i) sub

/-- 0x2110 + c (03 R171). -/
def State.readTrg (s : State) (c sub : Nat) : Val :=
  let x := s.treads.trgs.getD c default
  match sub with
  | 5 => vN x.pulses
  | 6 => vN x.overruns
  | 7 => vN (holdMax 16 ((s.now - x.swapAt) / 1000000))
  | _ => s.val (0x2110 + c) sub

/-- FL_STATE as a number (03 R173). -/
def flStateNo : FlState → Nat
  | .idle => 0 | .armed => 1 | .queued => 2 | .running => 3 | .done => 4

/-- The tables of Flights from FL_STATE on (03 R173). -/
def State.readFlight (s : State) (j f idx sub : Nat) : Val :=
  let x := s.flight f
  match j with
  | 7 => vN (flStateNo x.state)
  | 8 => vN x.anchor.toNat
  | 9 => vN x.done
  | 10 => vN x.late
  | 11 => vN x.missed
  | 12 => vN x.skipped
  | _ => s.val idx sub

/-- 0x5000 + i (03 R174). -/
def State.readTread (s : State) (i sub : Nat) : Val :=
  let w := s.tread i
  match sub with
  | 1 => vN (treadPos w).toNat
  | 2 => vN (treadPitch w)
  | 3 => vB (treadRel w)
  | 4 => vN (treadRepeats w)
  | 5 => vN (treadSource w)
  | 6 => vN (treadAction w)
  | 7 => vN (treadOperand w)
  | 8 => .bytes (leBytes 16 w.toNat)
  | 9 => vN (s.treadState i)
  | _ => vN (s.treadRemaining i)

/-- Major frame of the active Plan in ns: T0's period (04 R186); 0 without a Plan. -/
def State.majorFrame (s : State) : Nat := (s.plan.tasks.getD 0 default).period

/-- 0x2200 (04 R234). -/
def State.readTasks (s : State) (sub : Nat) : Val :=
  let p := s.plan
  match sub with
  | 1 => vN (p.tasks.countP fun d => d.kind ≠ 0)
  | 2 => vN (s.majorFrame / 1000)
  | 4 => vN (p.tasks.foldl (fun (m : Nat) (d : TaskDecl) => if d.kind = 1 ∨ d.kind = 3 then max m d.period else m) 0 / 1000)
  | 5 => vN s.tasks.fallback
  | 6 => vN s.staleNow
  | _ => s.val 0x2200 sub

/-- STATE of a Gallery: 0 halted, 1 running, 2 clock-gated, 3 failed (04 R235, 01 Power by block). -/
def State.galleryState (s : State) (g : Nat) : Nat :=
  let x := s.gallery g
  let on := s.live && (s.base = .run || s.base = .edit || (g = 3 && s.base = .standby))
  if x.failed then 3
  else if !on || x.halted then 0
  else if (s.plan.tasks.zipIdx.any fun e => e.1.gallery = g && (s.task e.2).phase = .running) then 1 else 2

/-- 0x2210 + g (04 R235) and 0x2220 + g (05 R301). -/
def State.readGallery (s : State) (g sub : Nat) : Val :=
  let x := s.gallery g
  match sub with
  | 1 => vN (s.galleryState g)
  | 2 => vW (s.plan.table.util.getD g 0)
  | 3 => vN x.bundles
  | 4 => vN (s.plan.code.getD g []).length
  | 5 => vN ((s.plan.tasks.filter fun d => d.kind ≠ 0 && d.gallery = g).map fun d => (d.bitSize + 7) / 8 + 4 * d.wordSize).sum
  | _ => vN x.selfFails

def State.readGalleryExec (s : State) (g sub : Nat) : Val :=
  let x := s.gallery g
  match sub with
  | 1 => vN x.held
  | 2 => vN x.flagsSeen
  | 3 => vN x.bounds
  | 4 => vN x.evtDropped
  | 5 => vN x.msgDropped
  | 6 => vN x.codeCorrected
  | _ => vN x.selftests

/-- 0x2240 + k (04 R236). -/
def State.readTask (s : State) (k sub : Nat) : Val :=
  let d := s.plan.tasks.getD k default
  let x := s.task k
  match sub with
  | 1 => vN d.kind
  | 2 => vN d.gallery
  | 3 => vN (d.period / 1000)
  | 4 => vN (d.offset / 1000)
  | 5 => vN d.eventKind
  | 6 => vN d.eventArg
  | 7 => vN d.wcet
  | 8 => vN x.execLast
  | 9 => vN x.execMax
  | 0x0A => vN x.landings
  | 0x0B => vN x.missed
  | 0x0C => vN (d.inputs.length + 256 * d.outputs.length)
  | 0x0D => vN (copyNs d.inputs)
  | _ => vN (copyNs d.outputs)

/-- 0x2300 (04 R237). -/
def State.readHall (s : State) (sub : Nat) : Val :=
  match sub with
  | 1 => vN 262144
  | 2 => vN 262144
  | 3 => vN 524288
  | 4 => vN 65536
  | 5 => vN 65536
  | 6 => vN 131072
  | 7 => vN 4096
  | _ => vN s.hall.corrected

def State.window (s : State) (w : Nat) : Window := s.hall.windows.getD w default

/-- The largest LENGTH of a window of a space (04 R238). -/
def windowMax (bit : Bool) : Nat := if bit then 11168 else 349

/-- A window's DATA lies within its space and its limit (04 R238). -/
def windowFits (sp : Space) (w : Window) : Bool := w.off + w.len ≤ spaceSize sp && w.len ≤ windowMax (spaceIsBit sp)

/-- Bytes of a window's DATA (04 R238). -/
def windowBytes (sp : Space) (w : Window) : Nat := if spaceIsBit sp then (w.len + 7) / 8 else 4 * w.len

/-- A snapshot of a window, in its view (04 R208, R238). -/
def State.windowData (s : State) (sp : Space) (w : Window) : Bytes :=
  let a := spaceBase sp + w.off
  match sp with
  | .hs => packWords ((List.range w.len).map fun j => s.hs (w.off + j))
  | _ =>
    if spaceIsBit sp then packBits ((w.len + 7) / 8) ((List.range w.len).map fun j => if w.view = 0 then s.viewBit (a + j) else s.seenBit (a + j))
    else packWords ((List.range w.len).map fun j => if w.view = 0 then s.viewWord (a + j) else s.seenWord (a + j))

/-- A DATA read of window w: one snapshot, with STAMP, or RANGE (04 R238). -/
def State.readWindow (s : State) (w : Nat) : State × Option Bytes :=
  let x := s.window w
  match spaceOf x.space with
  | none => (s, none)
  | some sp =>
    if windowFits sp x then
      ({ s with hall := { s.hall with windows := upd s.hall.windows w fun x => { x with stamp := s.time } } }, some (s.windowData sp x))
    else (s, none)

/-- The space that SPACE of 0x2340 names (04 R241). -/
def forceSpace : Nat → Option Space
  | 0 => some .hi | 1 => some .ho | 3 => some .wi | 4 => some .wo | _ => none

/-- MASK_NOW and VALUE_NOW: 1,024 bytes from OFFSET; points past the end read 0 (04 R241). -/
def State.forceNow (s : State) (k : Nat) (mask : Bool) : Bytes :=
  match forceSpace (s.selOf k 0x2340 1) with
  | none => []
  | some sp =>
    let a := s.selOf k 0x2340 2
    if spaceIsBit sp then
      let m := if mask then s.hall.maskBits else s.hall.valueBits
      packBits 1024 ((List.range 8192).map fun j => a + j < spaceSize sp && sget false m (spaceBase sp + a + j))
    else
      let m := if mask then s.hall.maskWords else s.hall.valueWords
      packWords ((List.range 256).map fun j => if a + j < spaceSize sp then sget 0 m (spaceBase sp + a + j) else 0)

/-- 0x2400 to 0x2405 (06 R342 to R346). -/
def State.readPlanActive (s : State) (sub : Nat) : Val :=
  let p := s.plan
  match sub with
  | 1 => vB s.plans.active.isSome
  | 2 => vN p.planId
  | 3 => vN (digestNo p.digest)
  | 4 => vN p.schema
  | 5 => vN p.format
  | 6 => vN s.plans.slot
  | 7 => vN s.plans.swaps
  | _ => vN s.plans.lastSwap

def State.readPlanStage (s : State) (sub : Nat) : Val :=
  let x := s.plans
  match sub with
  | 2 => vN (s.stagedBytes 2)
  | 3 => vN x.stageState
  | 5 => vN x.actKind
  | 6 => vN (if x.stageState = 3 then (match x.staged with | some p => digestNo p.digest | none => 0) else 0)
  | 7 => vN x.rejectReason
  | 8 => vN x.rejectDetail
  | _ => s.val 0x2401 sub

/-- EARLIEST: L + max(3, ceil(10 ÷ F)), F the major frame in ms (06 R336). -/
def State.earliest (s : State) : Nat :=
  let f := s.majorFrame
  (s.task 0).landings + max 3 (if f = 0 then 0 else (10000000 + f - 1) / f)

def State.readEdit (s : State) (sub : Nat) : Val :=
  match sub with
  | 1 => vN s.plans.editState
  | 2 => vN s.plans.swapAt
  | 3 => vN s.earliest
  | _ => vB s.plans.partnerReady

def State.readPlanKey (s : State) (sub : Nat) : Val :=
  match sub with
  | 1 => .bytes s.plans.pubKey
  | _ => vN s.fuses.key.burn

def State.readFallback (s : State) (sub : Nat) : Val :=
  match sub with
  | 1 => vN (maskOf (fun g => (s.plan.falls.getD g default).allowed) 0 % 16)
  | 2 => vN s.tasks.fallback
  | _ => vN (s.plan.falls.getD 3 default).host

/-- 0x2500 to 0x2513 (10 R539, R540). -/
def State.readRoselo (s : State) (sub : Nat) : Val :=
  let x := s.net.roselo
  match sub with
  | 3 => vN (x.minor.getD 0 2 + 16 * x.minor.getD 1 2)
  | 4 => vN x.posTx
  | 5 => vN x.trgTx
  | 6 => vN x.rx
  | 7 => vN x.rxDiscarded
  | 8 => vN ((x.stations.filter fun e => s.now < e.2.2.2 + 1000000000).map (·.2.1)).eraseDups.length
  | 9 => vN x.low
  | _ => s.val 0x2500 sub

def State.readExport (s : State) (i sub : Nat) : Val :=
  let n := s.net.roselo.exports.getD i 0
  match sub with
  | 2 => vN (if n = 0 then 0 else (n - 1) % 65536)
  | 3 => vN (holdMax 32 n)
  | _ => s.val (0x2504 + i) sub

def State.readImport (s : State) (i sub : Nat) : Val :=
  let x := s.net.roselo
  match sub with
  | 1 => vN ((s.src i).sender.getD 0)
  | 2 => vN (s.importAge i)
  | 3 => vN (x.accepted.getD i 0)
  | 4 => vN (x.gaps.getD i 0)
  | 5 => vN (x.dups.getD i 0)
  | _ => vN (x.invalid.getD i 0)

/-- 0x2600 + n and 0x2640 + g (09 R476, R477). -/
def State.readDio (s : State) (n sub : Nat) : Val :=
  let x := s.dio n
  match sub with
  | 0x0F => vB x.level
  | 0x10 => vW (dioSettled s.now x).counter
  | 0x11 => vW x.freq
  | 0x12 => vN (s.dioStatus n)
  | 0x14 => vN x.faults
  | _ => s.val (0x2600 + n) sub

/-- 0x2700 + n and 0x2720 + n (09 R478, R479). -/
def State.readAio (s : State) (n sub : Nat) : Val :=
  let x := s.aio n
  match sub with
  | 0x12 => vW x.value
  | 0x13 => vF x.current
  | 0x14 => vF x.readback
  | 0x15 => vF x.terminal
  | 0x16 => vF x.trim
  | 0x17 => vN (s.aioStatus n)
  | _ => s.val (0x2700 + n) sub

def State.readFsk (s : State) (n sub : Nat) : Val :=
  let x := s.aio n
  match sub with
  | 3 => vN x.framesTx
  | 4 => vN x.framesRx
  | 5 => vN x.errors
  | _ => s.val (0x2720 + n) sub

/-- The result in force for an item, if any. -/
def State.dspOutOf (s : State) (kind no : Nat) : Option DspOut :=
  match s.dsp.inForce with
  | some r => r.outs.find? fun o => o.kind = kind && o.no = no
  | none => none

/-- 0x2800 to 0x33FF (08 R417 to R420). -/
def State.readDispatch (s : State) (sub : Nat) : Val :=
  let f (g : DspResult → Rat) : Val := match s.dsp.inForce with | some r => vF (g r) | none => vN 0
  match sub with
  | 0x09 => vN 3600
  | 0x0A => vN s.dspStatus
  | 0x0B => vN s.dsp.landing
  | 0x0C => vN s.dsp.evals
  | 0x0D => f (·.draw)
  | 0x0E => f (·.base)
  | 0x0F => f (·.capEff)
  | 0x10 => f (·.pi)
  | 0x11 => f fun r => r.lambdas.getD 0 0
  | 0x12 => f fun r => r.lambdas.getD 1 0
  | 0x13 => f fun r => r.lambdas.getD 2 0
  | 0x14 => f fun r => r.lambdas.getD 3 0
  | 0x15 => f (·.cost)
  | 0x16 => vN (s.dsp.hour.getD 0)
  | _ => s.val 0x2800 sub

def State.readDspSource (s : State) (i sub : Nat) : Val :=
  let o := s.dspOutOf 0 i
  match sub with
  | 1 => vN (s.dspBalance 0 i)
  | 0x0C => vF ((o.map (·.out)).getD 0)
  | 0x0D => vN ((o.map (·.state)).getD 0)
  | 0x0E => vB ((o.map (·.margin)).getD false)
  | _ => s.val (0x2900 + i) sub

def State.readDspStore (s : State) (i sub : Nat) : Val :=
  let o := s.dspOutOf 1 i
  match sub with
  | 1 => vN (s.dspBalance 1 i)
  | 0x0C => vF ((o.map (·.out)).getD 0)
  | 0x0D => vF ((o.map (·.soc)).getD 0)
  | 0x0E => vF ((s.dsp.hour.map fun h => (f32List 168 (s.cfgBytes (0x2940 + i) 0x0B)).getD h 0).getD 0)
  | _ => s.val (0x2940 + i) sub

def State.readDspConsumer (s : State) (i sub : Nat) : Val :=
  let o := s.dspOutOf 2 i
  match sub with
  | 1 => vN (s.dspBalance 2 i)
  | 9 => vF ((o.map (·.demand)).getD 0)
  | 0x0A => vF ((o.map (·.out)).getD 0)
  | 0x0B => vF ((o.map (·.curtailed)).getD 0)
  | 0x0C => vF ((o.map (·.offset)).getD 0)
  | _ => s.val (0x3000 + i) sub

/-- 0x3EFF and the loops (07 R389 to R391). -/
def State.readLoopAll (s : State) (k sub : Nat) : Val :=
  let l := s.loops
  match sub with
  | 0x20 => vN s.allLoops.length
  | 0x21 => vN s.plan.evalRate
  | 0x22 => vN l.evals
  | 0x23 => vN l.overruns
  | 0x24 =>
    let slot := s.mono / 1000000000
    vF ((if l.busySlot = slot then (l.busyLast : Rat) else if l.busySlot + 1 = slot then (l.busyAcc : Rat) else 0) * 100 / 10000000)
  | 0x25 => vN (s.selOf k 0x3EFF 0x25)
  | 0x26 => .bytes (gainBytes (s.gainTable (s.selOf k 0x3EFF 0x25)))
  | 0x27 => vN (s.allLoops.countP fun n => s.loopCfg n 4 = s.selOf k 0x3EFF 0x25)
  | _ => s.val 0x3EFF sub

def State.readLoop (s : State) (n sub : Nat) : Val :=
  let x := s.loop n
  match sub with
  | 0x0E => vN (s.loopClass n)
  | 0x13 => vW x.offset
  | 0x14 => vW x.spRamped
  | 0x15 => vW x.pv
  | 0x16 => vW x.pvFilt
  | 0x17 => vW x.error
  | 0x18 => vW x.gain
  | 0x19 => vW x.iTerm
  | 0x1A => vW x.output
  | 0x1B => vN (s.loopStatus n)
  | 0x1C => vN x.evals
  | 0x1D => vN x.overruns
  | 0x1E => vN x.stamp
  | _ => s.val (0x4000 + n) sub

/-- Entries whose reading has an effect or can be refused. -/
def State.readSpecial (s : State) (k idx sub : Nat) : Option (State × Status × Val) :=
  let give (v : Val) : Option (State × Status × Val) := some (s, .ok, v)
  let free : Option (State × Status × Val) := let (t, v) := s.measured; some (t, .ok, v)
  if idx = 0x1221 then give (.bytes [])
  else if idx = 0x1410 ∧ (sub = 0x0B ∨ sub = 0x0C) then free
  else if idx = 0x1500 ∧ sub = 0x0B then free
  else if idx = 0x1700 ∧ (sub = 6 ∨ sub = 8 ∨ sub = 9) then free
  else if idx = 0x1722 then (match sub with | 1 => free | 2 => give (vN s.fuses.win.burn) | _ => give (vN s.fuses.win.used))
  else if idx = 0x1510 then
    let n := s.selOf k 0x1510 1
    match sub with
    | 1 => give (vN n)
    | 2 =>
      match s.psRead n with
      | (s, some d) => some (s, .ok, .bytes d)
      | (s, none) => some (s, .integrity, .bytes [])
    | 3 => give (vN (s.psState n))
    | 4 => give (vN s.nvm.copyRead)
    | 5 => give (vB (s.psProtected n))
    | _ => give (vN (match (psServe (s.psRecord n)).2 with | some c => c.commit | none => 0))
  else if idx = 0x1520 then
    let a := s.selOf k 0x1520 1
    let l := s.selOf k 0x1520 2
    match sub with
    | 1 => give (vN a)
    | 2 => give (vN l)
    | 3 => if a + l ≤ 0x1000000 then give (.bytes (s.pageRead a l)) else some (s, .range, .bytes [])
    | 4 => give (vN s.nvm.rpProtect)
    | 5 => give (vN s.nvm.pageWrites)
    | 6 => give (vN (s.nvm.rpReserve / 256))
    | _ => give (vN s.nvm.recovered)
  else if 0x2310 ≤ idx ∧ idx ≤ 0x231F then
    let w := idx - 0x2310
    match sub with
    | 1 => give (vN (s.window w).space)
    | 2 => give (vN (s.window w).off)
    | 3 => give (vN (s.window w).len)
    | 4 => give (vN (s.window w).view)
    | 5 =>
      match s.readWindow w with
      | (s, some d) => some (s, .ok, .bytes d)
      | (s, none) => some (s, .range, .bytes [])
    | _ => give (vN (s.window w).stamp)
  else if idx = 0x2340 then
    match sub with
    | 1 => give (vN (s.selOf k 0x2340 1))
    | 2 => give (vN (s.selOf k 0x2340 2))
    | 3 => give (.bytes (s.forceNow k true))
    | 4 => give (.bytes (s.forceNow k false))
    | 5 => give (.bytes (s.forceNow k true))
    | _ => give (.bytes (s.forceNow k false))
  else if 0x2640 ≤ idx ∧ idx ≤ 0x2645 then
    match sub with
    | 1 => give (vF (((s.group (idx - 0x2640)).mv : Rat) / 1000))
    | 2 => give (vN (s.group (idx - 0x2640)).state)
    | _ => free
  else none

/-- Entries of the module's own groups, 0x1000 to 0x1FFF. -/
def State.readModule (s : State) (k idx sub : Nat) : Val :=
  if idx = 0x1000 then s.readIdentity sub
  else if idx = 0x1010 then vN (if sub = 13 then s.resyncs else s.crossings.getD (sub - 1) 0)
  else if idx = 0x1020 then s.readPower sub
  else if idx = 0x1030 then s.readBoot sub
  else if idx = 0x1100 then s.readMode sub
  else if idx = 0x1110 then s.readRestart sub
  else if idx = 0x1120 then s.readForcing sub
  else if idx = 0x1200 ∨ idx = 0x1201 then s.readPort (idx - 0x1200) sub
  else if idx = 0x1210 then s.readPtp sub
  else if idx = 0x1220 then s.readBamcon sub
  else if 0x1230 ≤ idx ∧ idx ≤ 0x123F then s.readSession (idx - 0x1230) sub
  else if idx = 0x1240 then s.readNetmap sub
  else if 0x1300 ≤ idx ∧ idx < 0x1400 then s.readCan ((idx - 0x1300) / 0x40) (idx % 0x40) idx sub
  else if idx = 0x1400 then s.readPair sub
  else if idx = 0x1401 then s.readPartner sub
  else if idx = 0x1410 then s.readCorridor sub
  else if idx = 0x1420 then s.readHealth sub
  else if idx = 0x1430 then s.readCompare sub
  else if idx = 0x1500 then s.readPstore sub
  else if idx = 0x1530 then s.readRetain sub
  else if idx = 0x1600 then s.readRecorder k sub
  else if idx = 0x1610 then s.readRate k sub
  else if 0x1700 ≤ idx ∧ idx ≤ 0x1704 then s.readWdt (idx - 0x1700) sub
  else if idx = 0x1710 then s.readEvidence sub
  else if idx = 0x1720 then s.readRtc sub
  else if idx = 0x1721 then s.readBackup sub
  else if idx = 0x1730 then s.readThermal sub
  else if idx = 0x1800 then s.readFwStage sub
  else if idx = 0x1801 then s.readFwActive sub
  else if idx = 0x1900 then s.readLedger sub
  else if 0x1910 ≤ idx ∧ idx ≤ 0x191F then s.readMargin (idx - 0x1910) sub
  else s.val idx sub

/-- Entries of the line, the tasks, the field and the loops, 0x2000 and above. -/
def State.readLine (s : State) (k idx sub : Nat) : Val :=
  if idx = 0x2000 then (if sub = 3 then vN s.line.slipTotal else s.val idx sub)
  else if 0x2020 ≤ idx ∧ idx ≤ 0x2027 then s.readEnc (idx - 0x2020) sub
  else if 0x2050 ≤ idx ∧ idx ≤ 0x2053 then s.readSrc (idx - 0x2050) sub
  else if idx = 0x2100 then s.readTreadEngine sub
  else if 0x2104 ≤ idx ∧ idx ≤ 0x2107 then s.readTreadSrc (idx - 0x2104) sub
  else if 0x2110 ≤ idx ∧ idx ≤ 0x211F then s.readTrg (idx - 0x2110) sub
  else if 0x2180 ≤ idx ∧ idx ≤ 0x2199 then s.readFlight ((idx - 0x2180) / 2) ((idx % 2) * 128 + (sub - 1)) idx sub
  else if idx = 0x2200 then s.readTasks sub
  else if 0x2210 ≤ idx ∧ idx ≤ 0x2213 then s.readGallery (idx - 0x2210) sub
  else if 0x2220 ≤ idx ∧ idx ≤ 0x2223 then s.readGalleryExec (idx - 0x2220) sub
  else if 0x2240 ≤ idx ∧ idx ≤ 0x227F then s.readTask (idx - 0x2240) sub
  else if idx = 0x2300 then s.readHall sub
  else if idx = 0x2400 then s.readPlanActive sub
  else if idx = 0x2401 then s.readPlanStage sub
  else if idx = 0x2402 then s.readEdit sub
  else if idx = 0x2403 then s.readPlanKey sub
  else if idx = 0x2405 then s.readFallback sub
  else if idx = 0x2500 then s.readRoselo sub
  else if 0x2504 ≤ idx ∧ idx ≤ 0x2507 then s.readExport (idx - 0x2504) sub
  else if 0x2510 ≤ idx ∧ idx ≤ 0x2513 then s.readImport (idx - 0x2510) sub
  else if idx = 0x2522 ∨ idx = 0x2523 then vN (holdMax 32 (sget 0 s.net.roselo.sent ((idx % 2) * 128 + (sub - 1))))
  else if 0x2600 ≤ idx ∧ idx ≤ 0x262F then s.readDio (idx - 0x2600) sub
  else if 0x2700 ≤ idx ∧ idx ≤ 0x2707 then s.readAio (idx - 0x2700) sub
  else if 0x2720 ≤ idx ∧ idx ≤ 0x2727 then s.readFsk (idx - 0x2720) sub
  else if idx = 0x2800 then s.readDispatch sub
  else if 0x2900 ≤ idx ∧ idx ≤ 0x293F then s.readDspSource (idx - 0x2900) sub
  else if 0x2940 ≤ idx ∧ idx ≤ 0x294F then s.readDspStore (idx - 0x2940) sub
  else if 0x3000 ≤ idx ∧ idx ≤ 0x33FF then s.readDspConsumer (idx - 0x3000) sub
  else if 0x3E00 ≤ idx ∧ idx ≤ 0x3E3F then (if sub = 0x0E then vN (s.groupLoops (idx - 0x3E00)).length else s.val idx sub)
  else if idx = 0x3EFF then s.readLoopAll k sub
  else if 0x4000 ≤ idx ∧ idx ≤ 0x47FF then s.readLoop (idx - 0x4000) sub
  else if 0x5000 ≤ idx ∧ idx ≤ 0x8FFF then s.readTread (idx - 0x5000) sub
  else s.val idx sub

/-- Sub-indices that an index's family defines and the index itself does not: SUP_DISABLE beside the Supervisor watchdog (15 R733). -/
def subAbsent (idx sub : Nat) : Bool := 0x1701 ≤ idx && idx ≤ 0x1704 && sub = 0x0D

/-- The row of an entry, or the status that says it does not exist (00 R20). -/
def lookup (idx sub : Nat) : Status × Row :=
  match famOf idx with
  | none => (.noEntry, default)
  | some f =>
    match findRow f.rows sub with
    | some r => if subAbsent idx sub then (.noSub, default) else (.ok, r)
    | none => (.noSub, default)

/-- Read an entry for a session slot: status, type and value (10 R507, R510). A write-only entry answers ACCESS. -/
def State.readEntry (s : State) (k idx sub : Nat) : State × Status × Ty × Val :=
  match lookup idx sub with
  | (.ok, r) =>
    if r.acc = .wo then (s, .access, r.ty, .num 0)
    else if sub = 0 then (s, .ok, r.ty, r.dflt)
    else
      match s.readSpecial k idx sub with
      | some (s, st, v) => (s, st, r.ty, v)
      | none => (s, .ok, r.ty, if idx < 0x2000 then s.readModule k idx sub else s.readLine k idx sub)
  | (st, _) => (s, st, .u8, .num 0)

end Sys2Proof.Machine
end

