-- ==== Sys2Proof/Machine/Apply.lean ====
section
/-! DEFINITION. Step 3 of the major Landing: staged changes apply as a whole, with their checks (01 R25, R30; 02 R788; 03 R122 to R128, R165 to R167; 04 R212; 07 R386, R387; 08 R397; 09 R429, R435, R459; 10 R482, R528; 11 R546, R562, R576). -/
namespace Sys2Proof.Machine

/-! One staged change (01 R25) -/

/-- The bits of a Tread word that sub-index `f` of its entry writes: their place and width (03 R120, R174). -/
def treadBits (f : Nat) : Nat × Nat :=
  match f with
  | 1 => (0, 64) | 2 => (64, 31) | 3 => (95, 1) | 4 => (96, 16) | 5 => (112, 2) | 6 => (114, 3) | 7 => (117, 11) | _ => (0, 128)

/-- A Tread word after a write of one of its fields, or of the whole word (03 R174). -/
def treadPut (w : BitVec 128) (f v : Nat) : BitVec 128 :=
  let (lo, n) := treadBits f
  let m : BitVec 128 := BitVec.ofNat 128 ((2 ^ n - 1) * 2 ^ lo)
  (w &&& ~~~ m) ||| (BitVec.ofNat 128 (v * 2 ^ lo) &&& m)

/-- A field of a rate-limit bucket: 2 CODE, 3 BURST, 4 INTERVAL (16 R759). -/
def bucketPut (b : Bucket) (sub v : Nat) : Bucket :=
  match sub with
  | 2 => { b with code := v }
  | 3 => { b with burst := v }
  | _ => { b with interval := v }

/-- The configuration with one staged change in it; force changes have their own set (04 R212). -/
def State.put (s : State) (x : Staged) : State :=
  match x.op with
  | .value idx sub v => s.setVal idx sub v
  | .gain k l => { s with loops := { s.loops with gains := sput [] s.loops.gains k l } }
  | .tread i f v => { s with treads := { s.treads with words := sput 0 s.treads.words i (treadPut (s.tread i) f v) } }
  | .bucket n sub v => { s with recorder := { s.recorder with buckets := upd s.recorder.buckets n fun b => bucketPut b sub v } }
  | .force _ => s

/-! Edits of Flights and Treads that came too late (03 R164 to R166) -/

/-- A Tread that sits in a window, or whose firings of the present run have all been made (03 R164). -/
def State.treadBusy (s : State) (i : Nat) : Bool := 2 ≤ s.treadState i

/-- A Tread that has entered a window since `t`, or enters one in the present position clock with a firing that waits behind the apply
(03 R165, R168; log 137). -/
def State.enteredSince (s : State) (i t : Nat) : Bool :=
  (s.treads.entered.any fun e => e.1 = i && t ≤ e.2) || s.coming posClock fun c => match c with
    | .treadDue _ src _ => (s.tsrc src).window.length = 64 && (match (s.tsrc src).running with | some f => s.nextTread src f = some i | none => false)
    | .trgCommit _ src => (s.tsrc src).window.length = 64 && (match (s.tsrc src).running with | some f => s.nextTread src f = some i | none => false)
    | _ => false

/-- The field of a Flight that an index of the tables holds, and the Flight of a sub-index (03 R173). -/
def flField (idx : Nat) : Nat := (idx - 0x2180) / 2
def flNumber (idx sub : Nat) : Nat := (idx % 2) * 128 + (sub - 1)
def isFlight (idx : Nat) : Bool := 0x2180 ≤ idx && idx ≤ 0x2199

/-- A field that a Flight takes edits of only while it is IDLE or DONE (03 R166). -/
def isFlightEdit (idx : Nat) : Bool := isFlight idx && flField idx ≤ 4

def State.flightBusy (s : State) (f : Nat) : Bool :=
  match (s.flight f).state with | .idle => false | .done => false | _ => true

/-- A staged edit that its Flight's run has overtaken. -/
def State.overtaken (s : State) (x : Staged) : Bool :=
  match x.op with
  | .tread i _ _ => s.treadBusy i || (match x.at_ with | some t => s.enteredSince i t | none => false)
  | .value idx sub _ => isFlightEdit idx && s.flightBusy (flNumber idx sub)
  | _ => false

/-! The checks of the position sources and encoder inputs (02 R48, R58, R68, R71, R72, R100) -/

/-- FILTER is longer than the time between counts at the VMAX of a source that the input feeds (02 R48). -/
def State.filterBad (s : State) (n : Nat) : Bool :=
  s.encCfg n 1 = 1 && (List.range 4).any fun i =>
    s.srcCfg i 1 = 0 && bitAt (s.srcCfg i 2) n
      && ((s.encCfg n 5 : Nat) : Rat) * 1000 < ((s.encCfg n 3 + 1 : Nat) : Rat) * 5 * s.cfgF (0x2040 + i) 8 * (256 / 1000) * ((s.encCfg n 6 : Nat) : Rat)

/-- SSI_PERIOD is shorter than one read (02 R58). -/
def State.ssiBad (s : State) (n : Nat) : Bool :=
  s.encCfg n 1 = 2 && s.encCfg n 0x0D * s.encCfg n 0x0A < (s.encCfg n 0x0B + 1) * 1000000 + s.encCfg n 0x0E * s.encCfg n 0x0A

/-- A scale outside 1/65,536 to 16,777,216 pu per count (02 R68). -/
def State.scaleBad (s : State) (n : Nat) : Bool :=
  s.encCfg n 5 * 65536 < s.encCfg n 6 || 16777216 * s.encCfg n 6 < s.encCfg n 5

/-- RETAIN 2 without an SSI input (02 R100). -/
def State.retainBad (s : State) (i : Nat) : Bool :=
  s.srcCfg i 0x0D = 2 && !(bitsOf (s.srcCfg i 2) 8).any fun n => s.encCfg n 1 = 2

/-- More than four inputs, weights that do not sum to 65,536, or HOLDOVER below STALE_TIME (02 R71, R72, R117). -/
def State.fusionBad (s : State) (i : Nat) : Bool :=
  let l := bitsOf (s.srcCfg i 2) 8
  4 < l.length || (!l.isEmpty && (l.map fun n => s.srcCfg i (0x10 + n)).sum ≠ 65536) || s.srcCfg i 0x1A < s.srcCfg i 0x19

/-! The checks of Treads and Flights (03 R122, R126 to R128, R143; 10 R528) -/

/-- The Treads of a Flight. -/
def State.flTreads (s : State) (f : Nat) : List Nat := (List.range (s.flLength f)).map (s.flFirst f + ·)

/-- A Tread's action names a target that it may not have (03 R126). -/
def State.targetBad (s : State) (i : Nat) : Bool :=
  let w := s.tread i
  let op := treadOperand w
  match treadAction w with
  | 2 => s.dioCfg (op % 64) 1 ≠ 2 || s.dioCfg (op % 64) 9 ≠ 1 || 48 ≤ op % 64
  | 3 => (s.plan.tasks.getD (op % 64) default).kind ≠ 2
  | 4 => s.loopClass op ≠ 8
  | 5 => (s.groupLoops (op % 64)).any fun n => s.loopClass n ≠ 8
  | _ => false

/-- A Tread's action does not suit the ROLE of its source, or names a trigger ID that is disabled (03 R143, 10 R528). -/
def State.roleBad (s : State) (i : Nat) : Bool :=
  let w := s.tread i
  let remote := s.cfg (0x2104 + treadSource w) 1 = 1
  let id := treadOperand w % 256
  match treadAction w with
  | 0 => false
  | 6 => !remote || s.cfg (0x2520 + id / 128) (id % 128 + 1) = 0
  | _ => remote

/-- A Flight leaves Tread memory, mixes sources, overlaps another, or holds an action that its source does not carry (03 R127, R143). -/
def State.flightBad (s : State) (f : Nat) : Bool :=
  let a := s.flFirst f
  let n := s.flLength f
  n ≠ 0 && (16384 < a + n || (s.flTreads f).any (fun i => treadSource (s.tread i) ≠ s.flSource f || s.roleBad i)
    || (List.range 256).any fun g => g ≠ f && s.flLength g ≠ 0 && s.flFirst g < a + n && a < s.flFirst g + s.flLength g)

/-- P of a Tread of a Flight, resolved against an anchor of 0 (03 R128). -/
def State.orderPos (s : State) (f i : Nat) : Dword :=
  let w := s.tread i
  if treadRel w then s.flOffset f + treadPos w else treadPos w

/-- A Flight whose Treads do not follow one another (03 R128). -/
def State.orderBad (s : State) (f : Nat) : Bool :=
  (List.range (s.flLength f - 1)).any fun j =>
    let i := s.flFirst f + j
    let last := s.orderPos f i + BitVec.ofNat 64 (treadRepeats (s.tread i) * treadPitch (s.tread i))
    (s.orderPos f (i + 1) - last).toInt < 0

/-- The Flights that a staged change bears on. -/
def State.flightsOf (s : State) (x : Staged) : List Nat :=
  match x.op with
  | .tread i _ _ => (List.range 256).filter fun f => s.flFirst f ≤ i && i < s.flFirst f + s.flLength f
  | .value idx sub _ => if isFlightEdit idx then [flNumber idx sub] else []
  | _ => []

/-! The other checks -/

/-- Both ports in overlapping IPv4 subnets (10 R482). -/
def State.subnetsBad (s : State) : Bool :=
  let m := Nat.land (s.portCfg 0 5) (s.portCfg 1 5)
  s.portCfg 0 4 ≠ 0 && s.portCfg 1 4 ≠ 0 && Nat.land (s.portCfg 0 4) m = Nat.land (s.portCfg 1 4) m

/-- PERIOD of the Dispatcher is no whole multiple of the major frame (08 R398). -/
def State.periodBad (s : State) : Bool := s.majorFrame ≠ 0 && s.cfg 0x2800 2 * 1000000 % s.majorFrame ≠ 0

/-- The item that a Dispatcher entry configures: 0 source, 1 store, 2 consumer. -/
def dspItemOf (idx : Nat) : Option (Nat × Nat) :=
  if 0x2900 ≤ idx ∧ idx ≤ 0x293F then some (0, idx - 0x2900)
  else if 0x2940 ≤ idx ∧ idx ≤ 0x294F then some (1, idx - 0x2940)
  else if 0x3000 ≤ idx ∧ idx ≤ 0x33FF then some (2, idx - 0x3000) else none

/-- A staged value of entry `idx` that the configuration as it would stand after the apply does not admit. -/
def State.valueBad (c : State) (idx sub : Nat) : Bool :=
  if 0x2010 ≤ idx ∧ idx ≤ 0x2017 then
    let n := idx - 0x2010
    c.filterBad n || c.ssiBad n || c.scaleBad n || (List.range 4).any fun i => bitAt (c.srcCfg i 2) n && c.retainBad i
  else if 0x2040 ≤ idx ∧ idx ≤ 0x2043 then c.retainBad (idx - 0x2040) || c.fusionBad (idx - 0x2040)
  else if 0x2104 ≤ idx ∧ idx ≤ 0x2107 then
    if sub = 1 then (List.range 256).any fun f => c.flLength f ≠ 0 && c.flSource f = idx - 0x2104 && c.flightBad f
    else c.cfg idx 2 < c.cfg idx 3
  else if isFlightEdit idx then c.flightBad (flNumber idx sub)
  else if idx = 0x2520 ∨ idx = 0x2521 then
    c.cfg idx sub = 0 && (List.range 256).any fun f => (c.flTreads f).any fun i =>
      treadAction (c.tread i) = 6 && treadOperand (c.tread i) % 256 = flNumber idx sub
  else if 0x2600 ≤ idx ∧ idx ≤ 0x262F then
    if sub = 2 ∨ sub = 4 then c.dioCfg (idx - 0x2600) 4 ≠ 0 && c.dioCfg (idx - 0x2600) 2 = 1
    else if sub = 3 ∨ sub = 6 then c.dioCfg (idx - 0x2600) 6 ≠ 0 && 4 < c.dioCfg (idx - 0x2600) 3 else false
  else if 0x2700 ≤ idx ∧ idx ≤ 0x2707 then
    (sub ≤ 9 || sub = 0x0C || sub = 0x0D || sub = 0x0E) && c.aioBreaks (idx - 0x2700)
  else if idx = 0x1200 ∨ idx = 0x1201 then (sub = 4 || sub = 5) && c.subnetsBad
  else if idx = 0x1210 then
    if sub = 2 ∨ sub = 4 then c.cfg 0x1210 2 = 1 && c.cfg 0x1210 4 ≠ 0
    else if sub = 8 ∨ sub = 9 then c.cfg 0x1210 9 < c.cfg 0x1210 8 else false
  else if 0x1300 ≤ idx ∧ idx < 0x1400 then
    let n := (idx - 0x1300) / 0x40
    let o := idx % 0x40
    (o = 0 && 3 ≤ sub && sub ≤ 0x0B && c.canTimingBad n) || (((o = 0 && sub = 7) || (o = 4 && sub = 3)) && c.canFormatBad n)
      || (o = 3 && sub = 0x0A && (c.canList n).any canElemBad)
  else if idx = 0x2800 then sub = 2 && c.periodBad
  else if 0x4000 ≤ idx ∧ idx ≤ 0x47FF then (c.loopLimits (idx - 0x4000)).isSome
  else match dspItemOf idx with | some (k, no) => (c.dspBreaks k no).isSome | none => false

/-- A staged change that fails a check in the configuration as it would stand after the apply. -/
def State.refuses (c : State) (x : Staged) : Bool :=
  match x.op with
  | .value idx sub _ => c.valueBad idx sub
  | .gain _ l => (gainReject l).isSome
  | .tread i _ _ => treadBad (c.tread i) || c.targetBad i || c.roleBad i && (c.flightOf i).isSome || (c.flightsOf x).any c.flightBad
  | _ => false

/-- What a refused change records: 0x2025, 0x4002, 0x4003 or 0x4016. -/
def State.refusalEvent (c : State) (x : Staged) : Option (Nat × Bytes) :=
  match x.op with
  | .value idx _ _ =>
    if 0x4000 ≤ idx ∧ idx ≤ 0x47FF then
      (c.loopLimits (idx - 0x4000)).map fun k => (0x4002, leBytes 2 (idx - 0x4000) ++ leBytes 1 k)
    else
      match dspItemOf idx with
      | some (k, no) => (c.dspBreaks k no).map fun r => (0x4016, leBytes 1 (k + 1) ++ leBytes 2 no ++ leBytes 1 r)
      | none => none
  | .gain k l => (gainReject l).map fun r => (0x4003, leBytes 1 k ++ leBytes 1 r)
  | _ => none

/-- Refuse every change that fails a check, and check what is left again; `n` bounds the rounds. Answers what stands, what
was refused and the events of the refusals. -/
def applyChecks (s : State) : Nat → List Staged → List Staged → List (Nat × Bytes) → List Staged × List Staged × List (Nat × Bytes)
  | 0, l, bad, ev => (l, bad, ev)
  | n + 1, l, bad, ev =>
    let c := l.foldl State.put s
    let out := l.filter c.refuses
    if out.isEmpty then (l, bad, ev)
    else applyChecks s n (l.filter fun x => !c.refuses x) (bad ++ out) (ev ++ (out.filterMap c.refusalEvent).filter fun e => !ev.contains e)

/-! What the changes bring about once they are in force -/

/-- A port whose address settings changed uses its address no longer until the new one has been probed; a port switched off
has no link (10 R484, R505, R534). -/
def State.portApplied (old s : State) (p : Nat) : State :=
  let chg (sub : Nat) : Bool := old.portCfg p sub ≠ s.portCfg p sub
  if chg 1 && s.portCfg p 1 = 0 && (s.port p).link ≠ 0 then
    ((s.updPort p fun x => { x with link := 0 }).ev 0x6001 (leBytes 1 p ++ leBytes 1 0)).loseAddress p
  else if chg 3 || (chg 4 && !(s.port p).lease) then
    let s := (if (s.port p).ip ≠ 0 then s.loseAddress p else s).updPort p fun x => { x with lease := false, conflictAt := none }
    if s.canSend p then s.probe p else s
  else s

/-- A change of Z_MODE: the next Z edge has no reference; a Z pair that comes into use below 200 mV faults the input; the last LINE_FAULT
bit that clears with the pair starts the 100 ms of R65, and an input that awaited its first sample for it has it (02 R44, R54, R64, R65; log 27). -/
def State.zModeApplied (s old : State) (n : Nat) : State :=
  let s := s.updEnc n fun e => { e with zRef := none }
  if old.encMode n ≠ s.encMode n then s
  else if !bitAt (old.lineFault n) 2 && bitAt (s.lineFault n) 2 then (s.faultEnc n).ev 0x2001 (leBytes 1 n ++ leBytes 1 (s.lineFault n))
  else if old.lineFault n ≠ 0 && s.lineFault n = 0 then
    (s.updEnc n fun e => { e with faultAt := s.now, awaiting := e.awaiting && s.encMode n = 2 }).refreshSources
  else s

/-- An encoder input whose MODE in force changed resynchronises, but not with a Plan; one whose Z_MODE changed has no Z reference; one
whose scale changed starts with a clear remainder (02 R44, R54, R69). -/
def State.encApplied (plan : Bool) (old s : State) (n : Nat) : State :=
  let s := if old.encMode n ≠ s.encMode n then (if plan then s else s.resync 1 0).startEnc n else s
  let s := if old.encCfg n 8 ≠ s.encCfg n 8 then s.zModeApplied old n else s
  if old.encCfg n 5 ≠ s.encCfg n 5 || old.encCfg n 6 ≠ s.encCfg n 6 then s.updEnc n fun e => { e with rem := 0 } else s

/-- A source whose INPUT changed has no sample and none of the old input's motion (02 R70). -/
def State.inputApplied (s : State) (i : Nat) : State :=
  let s := (s.updSrc i fun r => { r with
    sample := none, sampleAt := s.now, heardAt := s.now, sender := none, stale := false, standstill := false, v := 0, a := 0, valid := false, awaitAbs := none
    x := r.lpc.toInt * 2 ^ 32 }).refreshSource i
  s.when (s.srcCfg i 1 ≠ 0 && (s.src i).enabled && !(s.src i).lost && !s.clock.ptpValid) fun s => s.loseSource i

/-- A source enabled or disabled (02 R787), and a change of its inputs. -/
def State.srcApplied (old s : State) (i : Nat) : State :=
  let on (x : State) : Bool := bitAt (x.cfg 0x2000 2) i
  let s := if old.srcCfg i 1 ≠ s.srcCfg i 1 then s.inputApplied i else s
  if on old ≠ on s then s.enableSource i (on s)
  else if old.srcCfg i 2 ≠ s.srcCfg i 2 then s.refreshSource i else s

/-- An IDLE level of an enabled channel that its output has yet to take (03 R152); a channel newly enabled drives IDLE (03 R151). -/
def State.trgApplied (old s : State) (c : Nat) : State :=
  let on (x : State) : Bool := x.cfgOn (0x2110 + c) 1
  if !on s then s
  else if !on old then s.trgSet c (s.trgIdle c)
  else if old.trgIdle c ≠ s.trgIdle c then s.trgToIdle c else s

/-- A fresh bucket is full (16 R753). -/
def State.bucketApplied (s : State) (n : Nat) : State :=
  { s with recorder := { s.recorder with buckets := upd s.recorder.buckets n fun (b : Bucket) => { b with tokens := b.burst, suppressed := 0, first := 0, added := s.mono } } }

/-- A new PERIOD restarts a watchdog's count (15 R707). -/
def State.wdtApplied (old s : State) (w : Nat) : State :=
  if old.wdtCfg w 3 ≠ s.wdtCfg w 3 then s.updWdt w fun x => { x with startAt := s.now } else s

/-- The CAN channels of which a CAN_CFG field applied (11 R576). -/
def canTouched (l : List Staged) : List Nat :=
  (List.range 4).filter fun n => l.any fun x => match x.op with | .value idx _ _ => idx = 0x1300 + 0x40 * n | _ => false

/-- Buckets of which a field applied. -/
def bucketsTouched (l : List Staged) : List Nat :=
  (l.filterMap fun x => match x.op with | .bucket n _ _ => some n | _ => none).eraseDups

/-- An applied entry is persisted as the Plan declares, and a BLOB entry has a new VERSION (13 R643; 10, Block transfers). -/
def State.recordApplied (s : State) (x : Staged) : State :=
  match x.op with
  | .value idx sub v => (s.persist idx sub v).when (match v with | .bytes _ => true | .num _ => false) fun s => s.bumpVersion idx sub
  | .force _ => s
  | .gain _ _ => s.bumpVersion x.idx x.sub
  | .tread _ _ _ => s.bumpVersion x.idx 8
  | .bucket _ _ _ => s

/-- A filter list applied: a frame in the list engine completes with the one before (11 R562). -/
def State.listApplied (old s : State) (n : Nat) : State :=
  let b := old.cfgBytes (0x1303 + 0x40 * n) 0x0A
  if b ≠ s.cfgBytes (0x1303 + 0x40 * n) 0x0A then s.updCan n fun x => { x with listAt := some s.now, listWas := b } else s

/-- WB_REACT of an input whose WIRE_BREAK is set shows at once (09 R431). -/
def State.dioApplied (old s : State) (n : Nat) : State :=
  if old.dioCfg n 5 ≠ s.dioCfg n 5 && (s.dio n).wireBreak then s.dioIn n else s
/-- Analogue settings applied: a sample of this core clock completes with those before (09 R473). -/
def State.aioApplied (old : State) (l : List Staged) (s : State) : State :=
  if l.any fun x => match x.op with | .value idx _ _ => 0x2700 ≤ idx && idx ≤ 0x2707 | _ => false then
    { s with field := { s.field with aioAt := some (coreClock s.now), aioWas := old.params } }
  else s

/-- Everything that follows from a new configuration; `plan` tells that of an activated Plan. -/
def State.applied (plan : Bool) (old : State) (l : List Staged) (s : State) : State :=
  let s := (List.range 8).foldl (State.encApplied plan old) s
  let s := (List.range 4).foldl (State.srcApplied old) s.refreshSources
  let s := (List.range 16).foldl (State.trgApplied old) s
  let s := [0, 1].foldl (State.portApplied old) s
  let s := if old.cfg 0x1210 1 ≠ 0 && s.cfg 0x1210 1 = 0 then s.setPtpValid false 3 else s
  let s := [0, 1].foldl (fun s p => if s.ptpPorts.contains p then s else s.updPort p fun x => { x with ptp := 0 }) s
  let s := (canTouched l).foldl State.canReconfigure s
  let s := (List.range 5).foldl (State.wdtApplied old) s
  let s := (bucketsTouched l).foldl State.bucketApplied s
  let s := (List.range 4).foldl (State.listApplied old) ((List.range 48).foldl (State.dioApplied old) (State.aioApplied old l s))
  l.foldl State.recordApplied s

/-! The apply -/

/-- Tread edits that were dropped, counted and recorded once for each Tread (03 R165). -/
def State.editsDropped (s : State) (l : List Staged) : State :=
  let ts := (l.filterMap fun x => match x.op with | .tread i _ _ => some i | _ => none).eraseDups
  ts.foldl (fun s i => ({ s with treads := { s.treads with editDropped := holdMax 32 (s.treads.editDropped + 1) } }).ev 0x2025 (leBytes 2 i)) s

def State.settle (s : State) (l : List Staged) (st : Status) : State := l.foldl (fun s x => s.settleWait x.wait x.idx st) s

/-- Shadows of RWA entries apply as a whole: edits overtaken by a run are dropped, changes that fail a check are refused, an
apply that breaks a Flight's order is refused whole, and the rest takes effect (01 R25). Answers what applied. -/
def State.applyShadows (s : State) (l : List Staged) : State × List Staged :=
  let late := l.filter s.overtaken
  let l := l.filter fun x => !s.overtaken x
  let (ok, bad, ev) := applyChecks s (l.length + 1) l [] []
  let c := ok.foldl State.put s
  let whole := (ok.flatMap c.flightsOf).any c.orderBad
  let s := (s.editsDropped late).settle late .state
  if whole then ((s.settle l .paired), [])
  else
    let s := ev.foldl (fun s e => s.ev e.1 e.2) s
    let s := State.applied false s ok (ok.foldl State.put s)
    ((s.settle bad .paired).settle ok .ok, ok)

/-- The staged force changes, in order of acceptance. -/
def forceChanges (l : List Staged) : List ForceChange := l.filterMap fun x => match x.op with | .force c => some c | _ => none

/-- Staged force changes apply as a whole, or are rejected as a whole (04 R212, R216). Answers what applied. -/
def State.applyForceSet (s : State) (l : List Staged) : State × List Staged :=
  let cs := forceChanges l
  if cs.isEmpty then (s, [])
  else if forceMismatch cs then (s.settle l .paired, [])
  else ((s.applyForces cs).settle l .ok, l)

/-- Apply a list of staged changes. Answers what applied. -/
def State.applyList (s : State) (l : List Staged) : State × List Staged :=
  let (s, a) := s.applyForceSet (l.filter isForce)
  let (s, b) := s.applyShadows (l.filter fun x => !isForce x)
  (s, a ++ b)

/-- Step 3 of the major Landing (01 R25, R30). On a pair the changes become a COMMAND record (12 R597). -/
def State.applyStaged (s : State) : State :=
  let l := s.staged
  if l.isEmpty then s
  else
    let s := ((List.range 4).foldl State.fillNow (s.takeCounts posClock 255)).engineBegin
    let (s, ok) := { s with staged := [] }.applyList l
    s.when (s.pair.role = 1 && !ok.isEmpty) fun s => s.send 3 (.command (.apply (ok.map fun x => { x with wait := none })))

end Sys2Proof.Machine
end

