-- ==== Sys2Proof/Machine/Flags.lean ====
section
/-! DEFINITION. The FLAGS of a task (05 R274). -/
namespace Sys2Proof.Machine

def flagIV  : Nat := 1
def flagDZ  : Nat := 2
def flagOF  : Nat := 4
def flagUF  : Nat := 8
def flagBND : Nat := 16
def flagEVQ : Nat := 32
def flagMSQ : Nat := 64

/-- FLAGS is sticky: an operation adds its flags (05 R274). -/
def addFlags (f g : Nat) : Nat := Nat.lor f g

/-- Flags of a rounded F32 result: overflow and flushed underflow (05 R269). -/
def roundFlags (above under : Bool) : Nat := (if above then flagOF else 0) + (if under then flagUF else 0)

/-- A result with the flags that it sets. -/
structure Flagged (α : Type) where
  val   : α
  flags : Nat
deriving DecidableEq, Repr

/-- An exact integer as a word of `w` bits: wrapped, or with SAT clamped to the signed or unsigned range with OF (05 R265). -/
def narrow (w : Nat) (sat unsigned_ : Bool) (r : Int) : Flagged (BitVec w) :=
  let lo : Int := if unsigned_ then 0 else -(2 ^ (w - 1))
  let hi : Int := if unsigned_ then 2 ^ w - 1 else 2 ^ (w - 1) - 1
  if sat && (r < lo || hi < r) then ⟨BitVec.ofInt w (clampInt lo hi r), flagOF⟩ else ⟨BitVec.ofInt w r, 0⟩

/-- Integer conditions of CMP (05 R264). -/
def intCond {w : Nat} (c : Nat) (a b : BitVec w) : Bool :=
  match c with
  | 0 => a == b
  | 1 => a != b
  | 2 => a.toInt < b.toInt
  | 3 => a.toInt ≤ b.toInt
  | 4 => b.toInt < a.toInt
  | 5 => b.toInt ≤ a.toInt
  | 6 => a.toNat < b.toNat
  | _ => b.toNat ≤ a.toNat

end Sys2Proof.Machine
end

