-- ==== Sys2Proof/Machine/Operands.lean ====
section
/-! DEFINITION. The slots of a Gallery bundle and the arithmetic of the word unit (05 R248, R256 to R273). -/
namespace Sys2Proof.Machine

/-- Slot `i` of a bundle (05 R248). -/
def slotOf (b : BitVec 128) (i : Nat) : Word := (b >>> (32 * i)).setWidth 32

/-! Fields of the slots (05 R256, R258, R261, R275, R279) -/

def slotField (w : Word) (hi lo : Nat) : Nat := field w.toNat hi lo
/-- Opcode of a bit-unit slot. -/
def bitOp (w : Word) : Nat := slotField w 31 26
/-- A of a bit-unit slot. -/
def bitA (w : Word) : Nat := slotField w 25 20
/-- OPND of a bit-unit slot. -/
def bitOpnd (w : Word) : Nat := slotField w 19 0
/-- Opcode of a word-unit or memory slot. -/
def wordOp (w : Word) : Nat := slotField w 27 22
def wordD (w : Word) : Nat := slotField w 21 16
def wordA (w : Word) : Nat := slotField w 15 10
def wordB (w : Word) : Nat := slotField w 9 4
def wordMod (w : Word) : Nat := slotField w 3 0
def wordImm (w : Word) : Nat := slotField w 15 0
/-- OPND of a memory slot. -/
def memOpnd (w : Word) : Nat := slotField w 15 0
def memR (w : Word) : Nat := slotField w 21 16
/-- PRED of slots 2 and 3: N and p (05 R256). -/
def predN (w : Word) : Bool := w.getLsbD 31
def predP (w : Word) : Nat := slotField w 30 28
/-- L and COUNT of REP (05 R279). -/
def repL (w : Word) : Nat := slotField w 21 14 + 1
def repCount (w : Word) : Nat := slotField w 13 0

/-! Binary32 arithmetic (05 R269 to R273) -/

def anyNaN (a b : Word) : Bool := f32IsNaN a || f32IsNaN b

/-- A rounded sum of exact parts with the sign that a zero result takes. -/
def fRound (x : Rat) (neg : Bool) : Flagged Word :=
  let r := f32Round x neg
  ⟨r.word, roundFlags r.above r.under⟩

/-- The sign of an exact zero sum of terms with these signs: both negative gives −0. -/
def zeroSum (sa sb : Bool) : Bool := sa && sb

def fAdd (a b : Word) : Flagged Word :=
  if anyNaN a b then ⟨f32NaN, flagIV⟩
  else if f32IsInf a then
    if f32IsInf b && f32Sign a != f32Sign b then ⟨f32NaN, flagIV⟩ else ⟨a, 0⟩
  else if f32IsInf b then ⟨b, 0⟩
  else fRound (f32Val a + f32Val b) (f32IsZero a && f32IsZero b && zeroSum (f32Sign a) (f32Sign b))

def fNeg (a : Word) : Word := a ^^^ 0x80000000#32
def fSub (a b : Word) : Flagged Word := fAdd a (fNeg b)

def fMul (a b : Word) : Flagged Word :=
  let s := f32Sign a != f32Sign b
  if anyNaN a b then ⟨f32NaN, flagIV⟩
  else if f32IsInf a || f32IsInf b then
    if f32IsZero a || f32IsZero b then ⟨f32NaN, flagIV⟩ else ⟨f32InfOf s, 0⟩
  else fRound (f32Val a * f32Val b) s

/-- a × b + d, rounded once. -/
def fMa (a b d : Word) : Flagged Word :=
  let s := f32Sign a != f32Sign b
  if anyNaN a b || f32IsNaN d then ⟨f32NaN, flagIV⟩
  else if f32IsInf a || f32IsInf b then
    if f32IsZero a || f32IsZero b then ⟨f32NaN, flagIV⟩
    else if f32IsInf d && f32Sign d != s then ⟨f32NaN, flagIV⟩
    else ⟨f32InfOf s, 0⟩
  else if f32IsInf d then ⟨d, 0⟩
  else
    let zp := f32IsZero a || f32IsZero b
    fRound (f32Val a * f32Val b + f32Val d) (zp && f32IsZero d && zeroSum s (f32Sign d))

def fDiv (a b : Word) : Flagged Word :=
  let s := f32Sign a != f32Sign b
  if anyNaN a b then ⟨f32NaN, flagIV⟩
  else if f32IsInf a then (if f32IsInf b then ⟨f32NaN, flagIV⟩ else ⟨f32InfOf s, 0⟩)
  else if f32IsInf b then ⟨f32Zero s, 0⟩
  else if f32IsZero b then (if f32IsZero a then ⟨f32NaN, flagIV⟩ else ⟨f32InfOf s, flagDZ⟩)
  else fRound (f32Val a / f32Val b) s

def fSqrt (a : Word) : Flagged Word :=
  if f32IsNaN a then ⟨f32NaN, flagIV⟩
  else if f32IsZero a then ⟨f32Zero (f32Sign a), 0⟩
  else if f32Sign a then ⟨f32NaN, flagIV⟩
  else if f32IsInf a then ⟨a, 0⟩
  else fRound (sqrtSticky (f32Val a)) false

/-- A subnormal reads as zero of its sign. -/
def fFlush (a : Word) : Word := if f32IsZero a then f32Zero (f32Sign a) else a

/-- a before b in the order of FMIN and FMAX: −0 is less than +0 (05 R271). -/
def fLess (a b : Word) : Bool :=
  if f32IsZero a && f32IsZero b then f32Sign a && !f32Sign b
  else if f32IsInf a then f32Sign a && !(f32IsInf b && f32Sign b)
  else if f32IsInf b then !f32Sign b
  else f32Val a < f32Val b

def fMin (a b : Word) : Word :=
  if f32IsNaN a && f32IsNaN b then f32NaN
  else if f32IsNaN a then fFlush b
  else if f32IsNaN b then fFlush a
  else if fLess (fFlush b) (fFlush a) then fFlush b else fFlush a
def fMax (a b : Word) : Word :=
  if f32IsNaN a && f32IsNaN b then f32NaN
  else if f32IsNaN a then fFlush b
  else if f32IsNaN b then fFlush a
  else if fLess (fFlush a) (fFlush b) then fFlush b else fFlush a

/-- An integer as F32. -/
def iToF (unsigned_ : Bool) (a : Word) : Flagged Word :=
  fRound (if unsigned_ then (a.toNat : Rat) else (a.toInt : Rat)) false

/-- F32 to integer: nearest even, clamped with IV; NaN gives 0 with IV (05 R272). -/
def fToI (unsigned_ : Bool) (a : Word) : Flagged Word :=
  let lo : Int := if unsigned_ then 0 else -(2 ^ 31)
  let hi : Int := if unsigned_ then 2 ^ 32 - 1 else 2 ^ 31 - 1
  if f32IsNaN a then ⟨0, flagIV⟩
  else if f32IsInf a then ⟨BitVec.ofInt 32 (if f32Sign a then lo else hi), flagIV⟩
  else
    let r := roundEven (f32Val a)
    if r < lo ∨ hi < r then ⟨BitVec.ofInt 32 (clampInt lo hi r), flagIV⟩ else ⟨BitVec.ofInt 32 r, 0⟩

/-- Float conditions of FCMP, with IV for a NaN operand of LT, LE, GT or GE (05 R264, R273). -/
def fCond (c : Nat) (a b : Word) : Flagged Bool :=
  let un := anyNaN a b
  let z := f32IsZero a && f32IsZero b
  let eq := z || fFlush a = fFlush b
  let lt := !z && fLess (fFlush a) (fFlush b)
  let gt := !z && fLess (fFlush b) (fFlush a)
  let iv := if un then flagIV else 0
  match c with
  | 0 => ⟨!un && eq, 0⟩
  | 1 => ⟨un || !eq, 0⟩
  | 2 => ⟨!un && lt, iv⟩
  | 3 => ⟨!un && (lt || eq), iv⟩
  | 4 => ⟨!un && gt, iv⟩
  | 5 => ⟨!un && (gt || eq), iv⟩
  | 6 => ⟨un, 0⟩
  | _ => ⟨!un, 0⟩

/-! Integer arithmetic (05 R263 to R268) -/

/-- DIV, rounding towards zero, with its results for a zero divisor and for −2^31 ÷ −1 (05 R266, R267). -/
def iDiv (unsigned_ : Bool) (a b : Word) : Flagged Word :=
  if b = 0 then
    ⟨if unsigned_ then 0xFFFFFFFF#32 else if 0 ≤ a.toInt then 0x7FFFFFFF#32 else 0x80000000#32, flagDZ⟩
  else if unsigned_ then ⟨BitVec.ofNat 32 (a.toNat / b.toNat), 0⟩
  else if a = 0x80000000#32 ∧ b = 0xFFFFFFFF#32 then ⟨0x7FFFFFFF#32, flagOF⟩
  else ⟨BitVec.ofInt 32 (a.toInt.tdiv b.toInt), 0⟩

/-- REM, with the sign of the dividend (05 R266, R267). -/
def iRem (unsigned_ : Bool) (a b : Word) : Flagged Word :=
  if b = 0 then ⟨a, flagDZ⟩
  else if unsigned_ then ⟨BitVec.ofNat 32 (a.toNat % b.toNat), 0⟩
  else ⟨BitVec.ofInt 32 (a.toInt.tmod b.toInt), 0⟩

/-- Operations of the word unit on one width, with the modifiers SAT and U; `sh` is the shift count (05 R263, R265, R268). -/
def aluWide {w : Nat} (op : Nat) (sat unsigned_ : Bool) (a b : BitVec w) (sh : Nat) : Flagged (BitVec w) :=
  match op with
  | 0x01 => narrow w sat false (a.toInt + b.toInt)
  | 0x02 => narrow w sat false (a.toInt - b.toInt)
  | 0x06 => ⟨a &&& b, 0⟩
  | 0x07 => ⟨a ||| b, 0⟩
  | 0x08 => ⟨a ^^^ b, 0⟩
  | 0x09 => ⟨a &&& ~~~ b, 0⟩
  | 0x0A => ⟨a <<< sh, 0⟩
  | 0x0B => ⟨a >>> sh, 0⟩
  | 0x0C => ⟨a.sshiftRight sh, 0⟩
  | 0x0D => ⟨if unsigned_ then (if a.toNat ≤ b.toNat then a else b) else (if a.toInt ≤ b.toInt then a else b), 0⟩
  | 0x0E => ⟨if unsigned_ then (if a.toNat ≤ b.toNat then b else a) else (if a.toInt ≤ b.toInt then b else a), 0⟩
  | 0x0F => narrow w sat false (a.toInt.natAbs : Int)
  | 0x10 => narrow w sat false (-a.toInt)
  | _ => ⟨a, 0⟩

/-- Operations of the word unit that read 32-bit words and write one word (05 R263). -/
def alu32 (op : Nat) (sat unsigned_ : Bool) (a b d : Word) (sh : Nat) : Flagged Word :=
  match op with
  | 0x03 => narrow 32 sat unsigned_ (if unsigned_ then (a.toNat * b.toNat : Int) else a.toInt * b.toInt)
  | 0x04 => iDiv unsigned_ a b
  | 0x05 => iRem unsigned_ a b
  | 0x20 => fAdd a b
  | 0x21 => fSub a b
  | 0x22 => fMul a b
  | 0x23 => fMa a b d
  | 0x24 => fDiv a b
  | 0x25 => fSqrt a
  | 0x26 => ⟨fMin a b, 0⟩
  | 0x27 => ⟨fMax a b, 0⟩
  | 0x28 => ⟨a &&& 0x7FFFFFFF#32, 0⟩
  | 0x29 => ⟨fNeg a, 0⟩
  | 0x2A => iToF unsigned_ a
  | 0x2B => fToI unsigned_ a
  | _ => aluWide op sat unsigned_ a b sh

/-- The full 64-bit product of two words (05 R263, MUL with D). -/
def mulPair (unsigned_ : Bool) (a b : Word) : Dword :=
  if unsigned_ then BitVec.ofNat 64 (a.toNat * b.toNat) else BitVec.ofInt 64 (a.toInt * b.toInt)

/-- Latency of a word-unit operation in clocks (05 R263). -/
def wordLatency (op : Nat) (d : Bool) : Nat :=
  match op with
  | 0x01 => if d then 2 else 1
  | 0x02 => if d then 2 else 1
  | 0x03 => 3
  | 0x04 => 12
  | 0x05 => 12
  | 0x20 => 4
  | 0x21 => 4
  | 0x22 => 4
  | 0x23 => 5
  | 0x24 => 14
  | 0x25 => 16
  | 0x26 => 2
  | 0x27 => 2
  | 0x2A => 3
  | 0x2B => 3
  | 0x2C => 2
  | _ => 1

/-- Operations of the divider, which is not pipelined (05 R263). -/
def usesDivider (op : Nat) : Bool := op = 0x04 || op = 0x05 || op = 0x24 || op = 0x25

/-- Latency of a memory and control operation in clocks (05 R275). -/
def memLatency (op : Nat) : Nat :=
  match op with
  | 0x01 => 2
  | 0x03 => 2
  | 0x06 => 2
  | 0x08 => 3
  | 0x09 => 3
  | 0x0A => 3
  | 0x0B => 3
  | 0x0C => 3
  | 0x0D => 3
  | _ => 1

/-- Record operations (05 R295). -/
def isRecordOp (op : Nat) : Bool := 0x08 ≤ op && op ≤ 0x0D

/-- Memory operations that use the image word port (05 R289). -/
def usesPort (op : Nat) : Bool := (0x01 ≤ op && op ≤ 0x0D) || op = 0x12

/-! Timer and counter records (05 R292 to R297) -/

/-- A record: GOAL, TALLY, STAMP, CTRL. -/
structure TimerRec where
  goal  : Word
  tally : Word
  stamp : Word
  ctrl  : Word
deriving DecidableEq, Repr

/-- Bits and fields of CTRL (05 R293). -/
def ctrlBit (r : TimerRec) (k : Nat) : Bool := r.ctrl.getLsbD k
def ctrlKind (r : TimerRec) : Nat := field r.ctrl.toNat 7 4
def ctrlBase (r : TimerRec) : Nat := field r.ctrl.toNat 11 8
def ctrlShift (r : TimerRec) : Nat := field r.ctrl.toNat 20 16
def setCtrl (r : TimerRec) (k : Nat) (v : Bool) : TimerRec :=
  let m : Word := 1#32 <<< k
  { r with ctrl := if v then r.ctrl ||| m else r.ctrl &&& ~~~ m }

/-- Unit of a time-based record in ns (05 R293). -/
def timerUnit (base : Nat) : Nat := 1000 * 10 ^ base

/-- A record that a timer operation leaves unchanged (05 R296). -/
def timerBad (r : TimerRec) : Bool :=
  3 < ctrlKind r || (if ctrlBit r 12 then field r.ctrl.toNat 11 10 ≠ 0 else 6 < ctrlBase r)
/-- A record that a counter operation leaves unchanged (05 R296). -/
def counterBad (r : TimerRec) : Bool := ctrlKind r ≠ 8 && ctrlKind r ≠ 9

/-- `now` of a record: captured monotonic time in units, or the captured LPC in units of 2^SHIFT pu (05 R294). -/
def recordNow (mono : Nat) (lpc : Nat → Dword) (r : TimerRec) : Word :=
  if ctrlBit r 12 then BitVec.ofInt 32 ((lpc (ctrlBase r % 4)).toInt / (2 ^ ctrlShift r : Nat))
  else BitVec.ofNat 32 (mono / timerUnit (ctrlBase r))

/-- The step of TSTEP's timers by KIND, with `delta` since STAMP (05 R295). -/
def timerKind (kind : Nat) (a : Bool) (delta : Int) (r : TimerRec) : TimerRec :=
  let prev := ctrlBit r 0
  let goal : Int := r.goal.toNat
  let grown : Word := BitVec.ofInt 32 (clampInt 0 goal ((r.tally.toNat : Int) + delta))
  let full (x : TimerRec) : Bool := x.goal.toNat ≤ x.tally.toNat
  match kind with
  | 0 =>
    let r := { r with tally := if a && prev then grown else 0 }
    let q := a && full r
    setCtrl (setCtrl r 1 q) 2 (a && !q)
  | 1 =>
    let r :=
      if a then setCtrl { r with tally := 0 } 2 false
      else if prev then setCtrl { r with tally := 0 } 2 true
      else if ctrlBit r 2 then { r with tally := grown } else r
    let r := if ctrlBit r 2 && full r then setCtrl r 2 false else r
    setCtrl r 1 (a || ctrlBit r 2)
  | 2 =>
    let r :=
      if ctrlBit r 2 then { r with tally := grown }
      else if a && !prev then setCtrl { r with tally := 0 } 2 true else r
    let r := if ctrlBit r 2 && full r then setCtrl r 2 false else r
    setCtrl r 1 (ctrlBit r 2)
  | _ =>
    let r := if a && prev then { r with tally := grown } else r
    let q := full r
    setCtrl (setCtrl r 1 q) 2 (a && !q)

/-- TSTEP: the record after it, and A (05 R294 to R296). -/
def timerStep (now : Word) (a : Bool) (r : TimerRec) : TimerRec × Bool :=
  if timerBad r then (r, ctrlBit r 1)
  else
    let delta : Int :=
      if !ctrlBit r 3 then 0
      else if ctrlBit r 12 then (now - r.stamp).toInt else (now - r.stamp).toNat
    let r := setCtrl { r with stamp := now } 3 true
    let r := setCtrl (timerKind (ctrlKind r) a delta r) 0 a
    (r, ctrlBit r 1)

/-- The output of a counter after its operation (05 R295). -/
def counterOut (r : TimerRec) : TimerRec × Bool :=
  let q := if ctrlKind r = 8 then decide (r.goal.toInt ≤ r.tally.toInt) else decide (r.tally.toInt ≤ 0)
  (setCtrl r 1 q, q)

/-- A record operation by its opcode (05 R275, R295, R296). -/
def recordOp (op : Nat) (now : Word) (a : Bool) (r : TimerRec) : TimerRec × Bool :=
  match op with
  | 0x08 => timerStep now a r
  | 0x0D =>
    if timerBad r then (r, ctrlBit r 1)
    else
      let r := if a then setCtrl (setCtrl { r with tally := 0 } 2 false) 1 false else r
      (r, ctrlBit r 1)
  | _ =>
    if counterBad r then (r, ctrlBit r 1)
    else
      match op with
      | 0x09 =>
        let r := if a && !ctrlBit r 0 then { r with tally := BitVec.ofInt 32 (min (r.tally.toInt + 1) (2 ^ 31 - 1)) } else r
        counterOut (setCtrl r 0 a)
      | 0x0A =>
        let r := if a && !ctrlBit r 13 then { r with tally := BitVec.ofInt 32 (max (r.tally.toInt - 1) (-(2 ^ 31))) } else r
        counterOut (setCtrl r 13 a)
      | 0x0B => counterOut (if a then { r with tally := 0 } else r)
      | _ => counterOut (if a then { r with tally := r.goal } else r)

end Sys2Proof.Machine
end

