-- ==== Sys2Proof/Machine/Gallery.lean ====
section
/-! DEFINITION. One bundle of a Gallery: its resources, its holds and the effects of its four slots (05 R248 to R291). -/
namespace Sys2Proof.Machine

/-- What a bundle works on: the Gallery, the executing task, the message queues and the keys written to the watchdog. -/
structure Exec where
  g      : Gallery
  t      : TaskSt
  queues : List (List Msg)
  keys   : List Nat
  /-- flags and record words that come later: latency in clocks, flags, words (R274, R278) -/
  comes  : List (Nat × Nat × List (Nat × Word))
deriving DecidableEq, Repr, Inhabited

/-- What stands fixed while a task executes: task number, word-image size, stamps of the bundle, a standby's position task (05 R290). -/
structure ExecEnv where
  task    : Nat
  wordSize : Nat
  stamp   : EventRec
  mono    : Nat
  clock   : Nat
  muted   : Bool
deriving DecidableEq, Repr, Inhabited

def accOf (x : Exec) (n : Nat) : Bool := x.g.accs.getLsbD n
def wordOf (x : Exec) (n : Nat) : Word := x.g.words.getD n 0
/-- Pair W2k:W2k+1, low half in the even register (05 R243). -/
def pairOf (x : Exec) (n : Nat) : Dword := (wordOf x (n + 1)) ++ (wordOf x n)
/-- P0 always reads 1 (05 R244). -/
def predOf (x : Exec) (n : Nat) : Bool := n = 0 || x.g.preds.getLsbD n
def imgBit (x : Exec) (b : Nat) : Bool := sget false x.t.bits b
def imgWord (x : Exec) (o : Nat) : Word := sget 0 x.t.words o

def setAcc (x : Exec) (n : Nat) (v : Bool) : Exec :=
  let m : Dword := 1#64 <<< n
  { x with g := { x.g with accs := if v then x.g.accs ||| m else x.g.accs &&& ~~~ m } }
def setWord (x : Exec) (n : Nat) (v : Word) : Exec := { x with g := { x.g with words := x.g.words.set n v } }
def setPair (x : Exec) (n : Nat) (v : Dword) : Exec := setWord (setWord x n (v.setWidth 32)) (n + 1) ((v >>> 32).setWidth 32)
def setPred (x : Exec) (n : Nat) (v : Bool) : Exec :=
  let m : Byte := 1#8 <<< n
  if n = 0 then x else { x with g := { x.g with preds := if v then x.g.preds ||| m else x.g.preds &&& ~~~ m } }
def setImgBit (x : Exec) (b : Nat) (v : Bool) : Exec := { x with t := { x.t with bits := sput false x.t.bits b v } }
def setImgWord (x : Exec) (o : Nat) (v : Word) : Exec := { x with t := { x.t with words := sput 0 x.t.words o v } }
/-- An operation of latency `l` sets flags in the clock in which it completes (05 R274). -/
def raise (l : Nat) (x : Exec) (f : Nat) : Exec :=
  if f = 0 then x
  else { x with comes := x.comes ++ [(l, f, [])], t := { x.t with bnd := x.t.bnd || bitAt f 4 } }

/-- Whether PRED lets a slot take effect (05 R256). -/
def predTrue (x : Exec) (w : Word) : Bool := xor (predOf x (predP w)) (predN w)

/-- The pass number that RPT returns at a bundle address: inside a body the pass, outside 0 (05 R281). -/
def passAt (g : Gallery) (pc : Nat) : Nat :=
  match g.rept with
  | some r => if r.start ≤ pc ∧ pc < r.start + r.len then r.pass else 0
  | none => 0

/-! Bit-unit slots (05 R258 to R260) -/

/-- A bit-unit slot: reads come from `x`, the state before the bundle; writes go to `y` (05 R252, R260). -/
def bitSlot (x : Exec) (w : Word) (y : Exec) : Exec :=
  let a := bitA w
  let av := accOf x a
  let b := bitOpnd w
  let bv := imgBit x b
  let sv := accOf x (b % 64)
  match bitOp w with
  | 0x01 => setAcc y a bv
  | 0x02 => setAcc y a (!bv)
  | 0x03 => setAcc y a (av && bv)
  | 0x04 => setAcc y a (av && !bv)
  | 0x05 => setAcc y a (av || bv)
  | 0x06 => setAcc y a (av || !bv)
  | 0x07 => setAcc y a (xor av bv)
  | 0x08 => setImgBit y b av
  | 0x09 => setImgBit y b (!av)
  | 0x0A => if av then setImgBit y b true else y
  | 0x0B => if av then setImgBit y b false else y
  | 0x0C => setAcc (setImgBit y b av) a (av && !bv)
  | 0x0D => setAcc (setImgBit y b av) a (!av && bv)
  | 0x10 => setAcc y a sv
  | 0x11 => setAcc y a (!sv)
  | 0x12 => setAcc y a (av && sv)
  | 0x13 => setAcc y a (av && !sv)
  | 0x14 => setAcc y a (av || sv)
  | 0x15 => setAcc y a (av || !sv)
  | 0x16 => setAcc y a (xor av sv)
  | 0x18 => setAcc y a (bitAt b 0)
  | 0x19 => setPred y (b % 8) av
  | 0x1A => setAcc y a (predOf x (b % 8))
  | _ => y

/-- Registers that a bit-unit slot reads or writes (05 R250). -/
def bitRes (w : Word) : List Res :=
  let a := bitA w
  let b := bitOpnd w
  let op := bitOp w
  if op = 0 then []
  else if 0x10 ≤ op ∧ op ≤ 0x16 then [.acc a, .acc (b % 64)]
  else if op = 0x19 ∨ op = 0x1A then [.acc a, .pred (b % 8)]
  else [.acc a]

/-! The word-unit slot (05 R261 to R273) -/

/-- Integer modifiers of MOD: SAT, D, U (05 R261). -/
def modSat (w : Word) : Bool := w.getLsbD 0
def modD (w : Word) : Bool := w.getLsbD 1
def modU (w : Word) : Bool := w.getLsbD 2

/-- Operations that take D (05 R263). -/
def takesD (op : Nat) : Bool :=
  op = 0x01 || op = 0x02 || op = 0x03 || (0x06 ≤ op && op ≤ 0x0C) || op = 0x11

/-- A word-unit slot whose predicate is true (05 R263). -/
def wordEffect (x : Exec) (w : Word) (y : Exec) : Exec :=
  let op := wordOp w
  let d := wordD w
  let a := wordA w
  let b := wordB w
  let imm := (BitVec.ofNat 16 (wordImm w)).signExtend 32
  let raise := raise (wordLatency op (takesD op && modD w))
  match op with
  | 0x00 => y
  | 0x12 => setWord y d imm
  | 0x13 => setWord y d (BitVec.ofNat 16 (wordImm w) ++ (wordOf x d).setWidth 16)
  | 0x14 => setWord y d (wordOf x d + imm)
  | 0x15 =>
    let v := if w.getLsbD 3 then intCond (wordMod w % 8) (pairOf x a) (pairOf x b) else intCond (wordMod w % 8) (wordOf x a) (wordOf x b)
    setPred y (d % 8) v
  | 0x16 => setWord y d (if predOf x (wordMod w % 8) then wordOf x a else wordOf x b)
  | 0x17 => setAcc y d ((wordOf x a).getLsbD b)
  | 0x18 =>
    let m : Word := 1#32 <<< b
    setWord y d (if accOf x a then wordOf x d ||| m else wordOf x d &&& ~~~ m)
  | 0x19 => setWord y d (BitVec.ofNat 32 (passAt x.g x.t.pc))
  | 0x2C =>
    let r := fCond (wordMod w % 8) (wordOf x a) (wordOf x b)
    raise (setPred y (d % 8) r.val) r.flags
  | 0x03 =>
    if modD w then setPair y d (mulPair (modU w) (wordOf x a) (wordOf x b))
    else
      let r := alu32 op (modSat w) (modU w) (wordOf x a) (wordOf x b) (wordOf x d) 0
      raise (setWord y d r.val) r.flags
  | _ =>
    if takesD op && modD w then
      let r := aluWide op (modSat w) (modU w) (pairOf x a) (pairOf x b) ((wordOf x b).toNat % 64)
      raise (setPair y d r.val) r.flags
    else
      let r := alu32 op (modSat w) (modU w) (wordOf x a) (wordOf x b) (wordOf x d) ((wordOf x b).toNat % 32)
      raise (setWord y d r.val) r.flags

def wordSlot (x : Exec) (w : Word) (y : Exec) : Exec := if predTrue x w then wordEffect x w y else y

/-- Words n and n + 1 of a pair. -/
def pairRes (n : Nat) : List Res := [.word n, .word (n + 1)]

/-- What a word-unit slot reads and writes (05 R250), and what it writes with its latency. -/
def wordReads (w : Word) : List Res :=
  let op := wordOp w
  let d := wordD w
  let wide := takesD op && modD w
  let ops (n : Nat) : List Res := if wide && op ≠ 0x03 then pairRes n else [.word n]
  let p : List Res := if op = 0 then [] else [.pred (predP w)]
  let dv : List Res := if usesDivider op then [.divider] else []
  p ++ dv ++ match op with
  | 0x00 => []
  | 0x12 => []
  | 0x13 => [.word d]
  | 0x14 => [.word d]
  | 0x15 => if w.getLsbD 3 then pairRes (wordA w) ++ pairRes (wordB w) else [.word (wordA w), .word (wordB w)]
  | 0x16 => [.word (wordA w), .word (wordB w), .pred (wordMod w % 8)]
  | 0x17 => [.word (wordA w)]
  | 0x18 => [.acc (wordA w), .word d]
  | 0x19 => []
  | 0x2C => [.word (wordA w), .word (wordB w)]
  | 0x23 => [.word (wordA w), .word (wordB w), .word d]
  | 0x0A => ops (wordA w) ++ [.word (wordB w)]
  | 0x0B => ops (wordA w) ++ [.word (wordB w)]
  | 0x0C => ops (wordA w) ++ [.word (wordB w)]
  | 0x0F => [.word (wordA w)]
  | 0x10 => [.word (wordA w)]
  | 0x11 => ops (wordA w)
  | 0x25 => [.word (wordA w)]
  | 0x28 => [.word (wordA w)]
  | 0x29 => [.word (wordA w)]
  | 0x2A => [.word (wordA w)]
  | 0x2B => [.word (wordA w)]
  | _ => ops (wordA w) ++ ops (wordB w)

def wordWrites (w : Word) : List Res :=
  let op := wordOp w
  let d := wordD w
  match op with
  | 0x00 => []
  | 0x15 => [.pred (d % 8)]
  | 0x2C => [.pred (d % 8)]
  | 0x17 => [.acc d]
  | _ => if takesD op && modD w then pairRes d else [.word d]

/-! The memory and control slot (05 R275 to R295) -/

/-- The record at a word offset, and its write back after the latency of its operation (05 R278). -/
def recordAt (x : Exec) (o : Nat) : TimerRec := ⟨imgWord x o, imgWord x (o + 1), imgWord x (o + 2), imgWord x (o + 3)⟩
def putRecord (l : Nat) (x : Exec) (o : Nat) (r : TimerRec) : Exec :=
  { x with comes := x.comes ++ [(l, 0, [(o, r.goal), (o + 1, r.tally), (o + 2, r.stamp), (o + 3, r.ctrl)])] }

/-- Address of LDX and STX: an unsigned 32-bit sum (05 R277). -/
def indexed (x : Exec) (w : Word) : Nat := ((wordOf x (slotField w 15 10)).toNat + slotField w 9 0) % 2 ^ 32

/-- An access outside the word image: BND, and the first such address kept (05 R277). -/
def outOfBounds (l : Nat) (y : Exec) (a : Nat) : Exec :=
  let y := raise l y flagBND
  { y with t := { y.t with bound := y.t.bound.or (some (BitVec.ofNat 32 a)) } }

/-- EVT: queued, or dropped with EVQ when 32 wait (05 R288, R789). -/
def evtEffect (e : ExecEnv) (x : Exec) (w : Word) (y : Exec) : Exec :=
  let r := memR w
  if e.muted then y
  else if 32 ≤ x.g.events.length then
    let y := raise 1 y flagEVQ
    { y with g := { y.g with evtDropped := holdMax 32 (y.g.evtDropped + 1) }, t := { y.t with evtDrops := y.t.evtDrops + 1 } }
  else
    let data := packWords [wordOf x r, wordOf x (r + 1), wordOf x (r + 2), wordOf x (r + 3)]
    { y with g := { y.g with events := y.g.events ++ [⟨{ e.stamp with code := 0x3F00 + slotField w 7 0, data := data }, e.mono⟩] } }

/-- MSG: copied into its queue, dropped with MSQ when the queue is full, or not queued with BND when the payload leaves the word image (05 R289, R790). -/
def msgEffect (e : ExecEnv) (x : Exec) (w : Word) (y : Exec) : Exec :=
  let q := slotField w 15 10
  let n := slotField w 9 0
  let o := (wordOf x (memR w)).toNat
  if e.muted then y
  else if n ≠ 0 ∧ e.wordSize < o + n then raise 1 y flagBND
  else if 16 ≤ (y.queues.getD q []).length then
    let y := raise 1 y flagMSQ
    let drops := if y.t.msgDrops.any (fun d => d.1 = q) then y.t.msgDrops.map fun d => if d.1 = q then (q, d.2 + 1) else d
      else y.t.msgDrops ++ [(q, 1)]
    { y with g := { y.g with msgDropped := holdMax 32 (y.g.msgDropped + 1) }, t := { y.t with msgDrops := drops } }
  else { y with queues := upd y.queues q fun l => l ++ [⟨e.task, e.clock, sgets 0 x.t.words o n, false⟩] }

/-- A memory and control slot whose predicate is true; REP, SEG and LAND act through the bundle address (05 R275). -/
def memEffect (e : ExecEnv) (x : Exec) (w : Word) (y : Exec) : Exec :=
  let r := memR w
  let o := memOpnd w
  match wordOp w with
  | 0x01 => setWord y r (imgWord x o)
  | 0x02 => setImgWord y o (wordOf x r)
  | 0x03 => setWord (setWord y r (imgWord x o)) (r + 1) (imgWord x (o + 1))
  | 0x04 => setImgWord (setImgWord y o (wordOf x r)) (o + 1) (wordOf x (r + 1))
  | 0x06 =>
    let a := indexed x w
    if a < e.wordSize then setWord y r (imgWord x a) else outOfBounds (memLatency 0x06) (setWord y r 0) a
  | 0x07 =>
    let a := indexed x w
    if a < e.wordSize then setImgWord y a (wordOf x r) else outOfBounds (memLatency 0x07) y a
  | 0x10 => { y with t := { y.t with armf := y.t.armf ++ [(o % 256, o / 256 % 8)] } }
  | 0x11 => evtEffect e x w y
  | 0x12 => msgEffect e x w y
  | 0x13 => { y with keys := y.keys ++ [o] }
  | 0x15 => setPair y r (BitVec.ofNat 64 x.t.capTime)
  | 0x16 => setPair y r (BitVec.ofNat 64 x.t.capMono)
  | 0x17 => setPair y r (x.t.capLpc.getD (o % 4) 0)
  | 0x18 => setWord y r (BitVec.ofNat 32 x.t.flags)
  | op =>
    if isRecordOp op then
      let rec_ := recordAt x o
      let now := recordNow x.t.capMono (fun k => x.t.capLpc.getD k 0) rec_
      let (rec', q) := recordOp op now (accOf x (r % 64)) rec_
      setAcc (putRecord (memLatency op) y o rec') (r % 64) q
    else y

def memSlot (e : ExecEnv) (x : Exec) (w : Word) (y : Exec) : Exec := if predTrue x w then memEffect e x w y else y

def memReads (w : Word) : List Res :=
  let op := wordOp w
  let r := memR w
  let o := memOpnd w
  let p : List Res := if op = 0 ∨ op = 0x14 ∨ 0x3E ≤ op then [] else [.pred (predP w)]
  let port : List Res := if usesPort op then [.port] else []
  p ++ port ++ match op with
  | 0x01 => [.word r, .line (o / 4)]
  | 0x02 => [.word r, .line (o / 4)]
  | 0x03 => pairRes r ++ [.line (o / 4)]
  | 0x04 => pairRes r ++ [.line (o / 4)]
  | 0x06 => [.word r, .word (slotField w 15 10)]
  | 0x07 => [.word r, .word (slotField w 15 10)]
  | 0x11 => [.word r, .word (r + 1), .word (r + 2), .word (r + 3)]
  | 0x12 => [.word r]
  | 0x15 => pairRes r
  | 0x16 => pairRes r
  | 0x17 => pairRes r
  | 0x18 => [.word r, .any]
  | _ => if isRecordOp op then [.acc (r % 64), .line (o / 4)] else []

/-- What a memory slot leaves unfinished, with its clocks: results, record lines and the image word port (05 R275, R278, R289). -/
def memHolds (w : Word) : List (Res × Nat) :=
  let op := wordOp w
  let r := memR w
  let l := memLatency op
  match op with
  | 0x01 => [(.word r, l), (.any, l)]
  | 0x03 => [(.word r, l), (.word (r + 1), l), (.any, l)]
  | 0x06 => [(.word r, l), (.any, l)]
  | 0x12 => [(.port, max 1 ((slotField w 9 0 + 3) / 4))]
  | _ => if isRecordOp op then [(.acc (r % 64), l), (.line (memOpnd w / 4), l), (.any, l)] else []

/-! The bundle (05 R249 to R255, R279 to R282) -/

def isLine : Res → Bool
  | .line _ => true
  | _ => false

/-- An unfinished operation of this Gallery stands in the way of resource `r` for a task at a core clock. -/
def blocked (busy : List Busy) (task clock : Nat) (r : Res) : Bool :=
  busy.any fun b => b.res = r && clock < b.until_ &&
    match r with | .any => b.task = task | .line _ => b.task = task | _ => true

/-- The Gallery holds the bundle (05 R250, R278); a MSG, whose offset is formed at run time too, waits for record writes as LDX and STX do (log 22). -/
def bundleHeld (busy : List Busy) (task clock : Nat) (b : BitVec 128) : Bool :=
  let w2 := slotOf b 2
  let w3 := slotOf b 3
  let need := bitRes (slotOf b 0) ++ bitRes (slotOf b 1) ++ wordReads w2 ++ wordWrites w2 ++ memReads w3
  let x := wordOp w3 = 0x06 || wordOp w3 = 0x07 || wordOp w3 = 0x12
  need.any (blocked busy task clock)
    || (x && busy.any fun y => isLine y.res && y.task = task && clock < y.until_)

/-- What the bundle leaves unfinished. Results of latency 1 are done for the next bundle. -/
def bundleHolds (task clock : Nat) (b : BitVec 128) : List Busy :=
  let w2 := slotOf b 2
  let l := wordLatency (wordOp w2) (takesD (wordOp w2) && modD w2)
  let ws : List (Res × Nat) := if l ≤ 1 then [] else (wordWrites w2 ++ [Res.any] ++ (if usesDivider (wordOp w2) then [Res.divider] else [])).map fun r => (r, l)
  (ws ++ memHolds (slotOf b 3)).map fun p => ⟨p.1, task, clock + p.2⟩

/-- The next bundle address and the repeat counter (05 R279, R281). -/
def advance (b : BitVec 128) (pc : Nat) (r : Option Repeat) : Nat × Option Repeat :=
  let w := slotOf b 3
  if wordOp w = 0x14 then
    if repCount w = 0 then (pc + 1 + repL w, none) else (pc + 1, some ⟨pc + 1, repL w, 0, repCount w⟩)
  else
    match r with
    | some r =>
      if pc + 1 = r.start + r.len then
        if r.pass + 1 < r.count then (r.start, some { r with pass := r.pass + 1 }) else (pc + 1, none)
      else (pc + 1, some r)
    | none => (pc + 1, none)

/-- A GETF that clears FLAGS, with a true predicate: flags that its own bundle sets come after the clearing (05 R274, R275). -/
def getfClears (x : Exec) (w : Word) : Bool := wordOp w = 0x18 && bitAt (memOpnd w) 0 && predTrue x w

/-- What the operations of a task that have completed by a core clock bring: flags and record words (05 R274, R278). -/
def settleLate (clock : Nat) (t : TaskSt) : TaskSt :=
  (t.late.filter fun (w : LateWrite) => w.clock ≤ clock).foldl (fun t w =>
    { t with flags := addFlags t.flags w.flags, words := w.words.foldl (fun m (e : Nat × Word) => sput 0 m e.1 e.2) t.words })
    { t with late := t.late.filter fun (w : LateWrite) => !(w.clock ≤ clock) }

/-- Issue one bundle: all slots read the state before it (05 R249, R252). -/
def issue (e : ExecEnv) (b : BitVec 128) (x : Exec) : Exec :=
  let x := { x with t := settleLate e.clock x.t, comes := [] }
  let z := if getfClears x (slotOf b 3) then { x with t := { x.t with flags := 0 } } else x
  let y := memSlot e x (slotOf b 3) (wordSlot x (slotOf b 2) (bitSlot x (slotOf b 1) (bitSlot x (slotOf b 0) z)))
  let (pc, r) := advance b x.t.pc x.g.rept
  { y with
    g := { y.g with
      rept := r, last := x.t.pc, bundles := holdMax 64 (y.g.bundles + 1)
      busy := (y.g.busy.filter fun z => e.clock < z.until_) ++ bundleHolds e.task e.clock b }
    t := { y.t with pc := pc, late := y.t.late ++ y.comes.map fun c => ⟨e.clock + c.1, c.2.1, c.2.2⟩ } }

/-- How a bundle ends a segment or a task (05 R282). -/
def endsSegment (b : BitVec 128) : Bool := wordOp (slotOf b 3) = 0x3E
def endsTask (b : BitVec 128) : Bool := wordOp (slotOf b 3) = 0x3F

/-- Every operation of a task is done at a core clock. -/
def taskQuiet (busy : List Busy) (task clock : Nat) : Bool := !blocked busy task clock .any && !(busy.any fun b => b.task = task && clock < b.until_)

end Sys2Proof.Machine
end

