-- ==== Sys2Proof/Machine/PlanImage.lean ====
section
/-! DEFINITION. The Plan image, its configuration and its verification (06 R303 to R318, with the rules that the other chapters state as rejected at verification). -/
namespace Sys2Proof.Machine

/-! Values that an entry accepts (00 R14, R16, R18) -/

/-- Ones from the top of 32 bits, then zeros (10 R534). -/
def contiguous (n : Nat) : Bool := (List.range 33).any fun k => n = 2 ^ 32 - 2 ^ k

/-- A value lies in the range that its entry's description gives. -/
def rngOk (ty : Ty) (r : Rng) (v : Val) : Bool :=
  let n := valNat v
  let b := valRaw v
  let z : Int := match ty with | .i32 => signed 32 n | .i64 => signed 64 n | .pos => signed 64 n | _ => n
  let f := f32Val (BitVec.ofNat 32 n)
  let fin := f32Finite (BitVec.ofNat 32 n)
  let m := bfpOfWord (BitVec.ofNat 32 n)
  (ty ≠ .bool || n ≤ 1) && match r with
  | .any => true
  | .upto k => n ≤ k
  | .between lo hi => decide (lo ≤ z) && decide (z ≤ hi)
  | .oneOf l => l.contains n
  | .f32 lo hi => fin && decide (lo ≤ f) && decide (f ≤ hi)
  | .f32Min lo => fin && decide (lo ≤ f)
  | .bfpPos => decide (0 < bfpVal m)
  | .bfpUnit => decide (0 < bfpVal m) && decide (bfpVal m ≤ 1)
  | .len _ => true
  | .lenUpto k => b.length ≤ k
  | .keyLen => b.isEmpty || (16 ≤ b.length && b.length ≤ 64)
  | .keyLenM => 16 ≤ b.length && b.length ≤ 64
  | .netmask => contiguous n
  | .mult128 => n % 128 = 0 && n ≤ 2047
  | .policy => n % 4 ≠ 3 && n < 16

/-! The image (06 R303 to R307) -/

/-- An entry of the section directory (06 R304). -/
structure DirEntry where
  type_  : Nat
  offset : Nat
  length : Nat
  crc    : Nat
deriving DecidableEq, Repr

/-- Little-endian number of `n` bytes at `o`. -/
def numAt (b : Bytes) (o n : Nat) : Nat := leNat ((b.drop o).take n)

def planDir (b : Bytes) : List DirEntry :=
  (List.range (numAt b 0x0C 2)).map fun k =>
    let o := 0x50 + 16 * k
    ⟨numAt b o 2, numAt b (o + 4) 4, numAt b (o + 8) 4, numAt b (o + 12) 4⟩

def sectionBytes (b : Bytes) (d : DirEntry) : Bytes := (b.drop d.offset).take d.length

/-- Bytes that the digest and the signature cover (06 R307, R308). -/
def planSigned (b : Bytes) : Bytes := b.take (b.length - 64)

/-- Bundles of a CODE section: 16 bytes each, little-endian (05 R248). -/
def codeBundles (b : Bytes) : List (BitVec 128) := (List.range (b.length / 16)).map fun k => BitVec.ofNat 128 (numAt b (16 * k) 16)

/-- The Plan that an image spells: header and code by their layouts, the content of the other sections as the Planner coded it (log 9). -/
def planOf (b : Bytes) : Plan :=
  let code (g : Nat) : List (BitVec 128) :=
    match (planDir b).find? fun (d : DirEntry) => d.type_ = g + 1 with
    | some d => codeBundles (sectionBytes b d)
    | none => []
  { Config.planBody b with
    planId := numAt b 0x10 8, schema := numAt b 0x18 8, format := numAt b 4 2, edit := bitAt (numAt b 6 2) 0
    base := (b.drop 0x20).take 32, digest := sha256 (planSigned b), minFw := numAt b 0x44 4, keyId := numAt b 0x48 4
    code := [code 0, code 1, code 2, code 3] }

/-! Configuration from a Plan -/

/-- The entries that the CONFIG section gives (06 R305). -/
def isPlanKey (k : Nat) : Bool := ((rowOf (k / 256) (k % 256)).map (·.plan)).getD false

/-- Codes that a chapter marks as rate-limited, ascending (16 R752). -/
def rateLimited : List Nat :=
  [0x2002, 0x3011, 0x3020, 0x4001, 0x5005, 0x5013, 0x5020, 0x6022, 0x6031, 0x6103, 0x6104, 0x6105, 0x6107, 0x7030, 0x8002, 0x800C, 0x9002, 0xB012]

/-- Codes that receive a supplied bucket: those that the Plan's own buckets omit (16 R752). -/
def suppliedCodes (l : List Bucket) : List Nat := rateLimited.filter fun c => !l.any fun (b : Bucket) => b.code = c

/-- Place supplied buckets, ascending, in the lowest-numbered free ones (16 R752). -/
def placeBuckets : List Bucket → List Nat → List Bucket
  | [], _ => []
  | b :: bs, cs =>
    match cs with
    | [] => b :: bs
    | c :: rest => if b.code = 0 then ⟨c, 4, 1000, 4, 0, 0, 0⟩ :: placeBuckets bs rest else b :: placeBuckets bs cs

/-- The 256 buckets of a Plan, all full (16 R752, R753). -/
def planBuckets (p : Plan) : List Bucket :=
  let own := (p.buckets.take 256).map fun b => { b with tokens := b.burst, suppressed := 0, first := 0, added := 0 }
  placeBuckets (own ++ List.replicate (256 - own.length) default) (suppliedCodes own)

/-- The Plan's configuration is in force: its CONFIG values, Treads, gain tables and buckets. Entries with a default of their
own keep the value they hold. -/
def State.loadPlan (s : State) (p : Plan) : State :=
  let kept := s.params.filter fun e => !isPlanKey e.1
  let s := { s with plans := { s.plans with active := some p }, params := kept }
  let s := p.config.foldl (fun s (e : Nat × Val) => s.setVal (e.1 / 256) (e.1 % 256) e.2) s
  { s with
    treads := { s.treads with words := p.treads.foldl (fun m (e : Nat × BitVec 128) => sput 0 m e.1 e.2) [] }
    loops := { s.loops with gains := p.gains.foldl (fun m (e : Nat × List GainPoint) => sput [] m e.1 e.2) [] }
    recorder := { s.recorder with buckets := planBuckets p }
    hall := { s.hall with blocks := List.replicate 256 default }
    sup := { s.sup with ledger := { s.sup.ledger with ckptInt := 0, ckptNext := none, seen := [], dirtied := [] } } }

/-- No Plan is loaded: entries of a Plan read their defaults. -/
def State.unloadPlan (s : State) : State :=
  { s with
    plans := { s.plans with active := none, prev := [] }
    params := s.params.filter fun e => !isPlanKey e.1
    treads := { s.treads with words := [] }, loops := { s.loops with gains := [] }
    recorder := { s.recorder with buckets := List.replicate 256 default } }

/-! Timetables and segments (04 R188, R189; 05 R255, R282) -/

def slotsOf (t : Timetable) (g : Nat) : List Slot := t.slots.getD g []

/-- Start addresses of a task's segments, in order. -/
def segmentsOf (t : Timetable) (g k : Nat) : List Nat := (((slotsOf t g).filter fun (x : Slot) => x.task = k).map (·.start)).eraseDups

/-- The bundles of a segment: up to its SEG or LAND; `n` bounds them. -/
def segmentBody : Nat → List (BitVec 128) → List (BitVec 128)
  | 0, _ => []
  | _, [] => []
  | n + 1, b :: bs => if endsSegment b || endsTask b then [b] else b :: segmentBody n bs

def bodyAt (code : List (BitVec 128)) (start : Nat) : List (BitVec 128) := segmentBody code.length (code.drop start)

/-- The bundles of a task, segment by segment. -/
def taskBodies (p : Plan) (t : Timetable) (g k : Nat) : List (List (BitVec 128)) :=
  (segmentsOf t g k).map (bodyAt (p.code.getD g []))

/-- Section TYPE and timetable of the normal slot lists and of each fallback that the Plan holds (06 R305). -/
def tablesOf (p : Plan) : List (Nat × Timetable) := (0x11, p.table) :: p.falls.zipIdx.map fun e => (0x12 + e.2, e.1.table)

/-- Gallery and task of every task that a timetable places. -/
def placed (t : Timetable) : List (Nat × Nat) := (List.range 4).flatMap fun g => ((slotsOf t g).map (·.task)).eraseDups.map fun k => (g, k)

/-- Tasks in use: kind 1 time, 2 position, 3 event. -/
def taskNumbers (p : Plan) : List Nat := (List.range p.tasks.length).filter fun k => (p.tasks.getD k default).kind ≠ 0

/-- Cycle of a timetable: the longest time-task or alcove period (04 R188). -/
def planCycle (p : Plan) : Nat := ((taskNumbers p).map fun k => (p.tasks.getD k default).period).foldl max 0

/-! Code rules (05 R244 to R292) -/

def listedBit (op : Nat) : Bool := op ≤ 0x0D || (0x10 ≤ op && op ≤ 0x16) || (0x18 ≤ op && op ≤ 0x1A)
def listedWord (op : Nat) : Bool := op ≤ 0x19 || (0x20 ≤ op && op ≤ 0x2C)
def listedMem (op : Nat) : Bool := op ≤ 4 || (6 ≤ op && op ≤ 0x0D) || (0x10 ≤ op && op ≤ 0x18) || op = 0x3E || op = 0x3F

/-- Modifiers that an operation takes: SAT 1, D 2, U 4, as a mask (05 R263). -/
def modsOf (op : Nat) : Nat :=
  if op = 0x01 ∨ op = 0x02 then 3
  else if op = 0x03 then 7
  else if op = 0x04 ∨ op = 0x05 then 4
  else if 0x06 ≤ op ∧ op ≤ 0x0C then 2
  else if op = 0x0D ∨ op = 0x0E then 4
  else if op = 0x0F ∨ op = 0x10 then 1
  else if op = 0x11 then 2
  else if op = 0x2A ∨ op = 0x2B then 4
  else 0

/-- Operations whose MOD holds a condition or a predicate number. -/
def ownMod (op : Nat) : Bool := op = 0x15 || op = 0x16 || op = 0x2C

/-- Operations of format I, and NOP. -/
def noMod (op : Nat) : Bool := op = 0 || (0x12 ≤ op && op ≤ 0x14)

def bitSlotBad (bits : Nat) (w : Word) : Bool :=
  let op := bitOp w
  !listedBit op || (1 ≤ op && op ≤ 0x0D && bits ≤ bitOpnd w) || (op = 0x19 && bitOpnd w % 8 = 0)

def wordSlotBad (w : Word) : Bool :=
  let op := wordOp w
  let m := wordMod w
  let odd (n : Nat) : Bool := n % 2 = 1
  let d := takesD op && modD w
  !listedWord op
    || (!ownMod op && !noMod op && Nat.land m (15 - modsOf op) ≠ 0)
    || (d && (odd (wordD w) || odd (wordA w) || (op ≠ 0x11 && odd (wordB w))))
    || (op = 0x15 && w.getLsbD 3 && (odd (wordA w) || odd (wordB w)))
    || ((op = 0x17 || op = 0x18) && 31 < wordB w)
    || ((op = 0x15 || op = 0x2C) && wordD w % 8 = 0)

def memSlotBad (words : Nat) (queues : Nat → Nat → Bool) (w : Word) : Bool :=
  let op := wordOp w
  let r := memR w
  let o := memOpnd w
  !listedMem op
    || ((op = 1 || op = 2) && words ≤ o)
    || ((op = 3 || op = 4) && (words ≤ o + 1 || o % 2 = 1 || r % 2 = 1))
    || (isRecordOp op && (o % 4 ≠ 0 || words < o + 4))
    || (op = 0x10 && !(1 ≤ o / 256 % 8 && o / 256 % 8 ≤ 4))
    || (op = 0x11 && r % 4 ≠ 0)
    || (op = 0x12 && (350 < slotField w 9 0 || queues (slotField w 15 10) (slotField w 9 0)))
    || (op = 0x13 && !(o = 0xA5C3 || o = 0x1DEA || o = 0xE21A))
    || (0x15 ≤ op && op ≤ 0x17 && r % 2 = 1)
    || ((op = 0x14 || op = 0x3E || op = 0x3F) && field w.toNat 31 28 ≠ 0)

/-- Registers and image points that each slot writes. -/
def bitWrites (w : Word) : List Res × List Nat :=
  let op := bitOp w
  let a : List Res := [.acc (bitA w)]
  if op = 0x08 ∨ op = 0x09 ∨ op = 0x0A ∨ op = 0x0B then ([], [bitOpnd w])
  else if op = 0x0C ∨ op = 0x0D then (a, [bitOpnd w])
  else if op = 0x19 then ([.pred (bitOpnd w % 8)], [])
  else if op = 0 then ([], []) else (a, [])

def memWrites (w : Word) : List Res :=
  let op := wordOp w
  let r := memR w
  if op = 0x01 ∨ op = 0x06 ∨ op = 0x18 then [.word r]
  else if op = 0x03 ∨ (0x15 ≤ op ∧ op ≤ 0x17) then pairRes r
  else if isRecordOp op then [.acc (r % 64)] else []

/-- Two slots of a bundle write one destination (05 R252). -/
def writesTwice (b : BitVec 128) : Bool :=
  let (r0, i0) := bitWrites (slotOf b 0)
  let (r1, i1) := bitWrites (slotOf b 1)
  let r2 := wordWrites (slotOf b 2)
  let r3 := memWrites (slotOf b 3)
  let meet (x y : List Res) : Bool := x.any y.contains
  meet r0 r1 || meet r0 r2 || meet r0 r3 || meet r1 r2 || meet r1 r3 || meet r2 r3 || i0.any i1.contains

def bundleBad (d : TaskDecl) (queues : Nat → Nat → Bool) (b : BitVec 128) : Bool :=
  bitSlotBad d.bitSize (slotOf b 0) || bitSlotBad d.bitSize (slotOf b 1) || wordSlotBad (slotOf b 2)
    || memSlotBad d.wordSize queues (slotOf b 3) || writesTwice b

/-- A REP whose body holds REP, SEG or LAND or leaves its segment (05 R280). -/
def repBad : List (BitVec 128) → Bool
  | [] => false
  | b :: rest =>
    let w := slotOf b 3
    (wordOp w = 0x14 &&
      (rest.length < repL w || (rest.take (repL w)).any fun x => wordOp (slotOf x 3) = 0x14 || endsSegment x || endsTask x)) || repBad rest

/-- Operations of one kind that a segment can issue, passes counted; `n` is the repeat factor and `left` the bundles of a body still
ahead (05 R279, R286). -/
def issueCount (hit : Word → Bool) : List (BitVec 128) → Nat → Nat → Nat
  | [], _, _ => 0
  | b :: rest, left, n =>
    let w := slotOf b 3
    let k := if hit w then (if left = 0 then 1 else n) else 0
    if wordOp w = 0x14 then issueCount hit rest (repL w) (repCount w) else k + issueCount hit rest (left - 1) n

def isArmf (w : Word) : Bool := wordOp w = 0x10
/-- A WDS with the service key (05 R291). -/
def isService (w : Word) : Bool := wordOp w = 0x13 && memOpnd w = 0xA5C3

/-- A record operation of the task names a record outside WM, or one that is not in an input and an output section of it (05 R292). -/
def recordHome (d : TaskDecl) (o : Nat) : Option Nat :=
  let inn (l : List Section) : Option Nat :=
    (l.find? fun (x : Section) => x.space = .wm && x.img ≤ o && o + 4 ≤ x.img + x.len).map fun (x : Section) => x.off + (o - x.img)
  match inn d.inputs, inn d.outputs with
  | some a, some b => if a = b && a % 4 = 0 then some a else none
  | _, _ => none

/-- Initial word of a point of WM. -/
def initWm (p : Plan) (a : Nat) : Word :=
  match p.initHall.find? fun (x : InitPoint) => x.space = .wm && x.off = a with | some x => x.value | none => 0

/-- The initial value of the record at WM offset a. -/
def initRecord (p : Plan) (a : Nat) : TimerRec := ⟨0, 0, 0, initWm p (a + 3)⟩

def recordBad (p : Plan) (d : TaskDecl) (w : Word) : Bool :=
  isRecordOp (wordOp w) &&
    match recordHome d (memOpnd w) with
    | none => true
    | some a =>
      let r := initRecord p a
      (3 < ctrlKind r && counterBad r) || ((wordOp w = 0x08 || wordOp w = 0x0D) && ctrlKind r ≤ 3 && timerBad r)

/-- A retained record, at WM offset a, is misplaced or starts with settings that no operation takes (05 R292, R296). -/
def retainedRecBad (p : Plan) (a : Nat) : Bool :=
  let r := initRecord p a
  let covers (l : List Section) : Bool := l.any fun (x : Section) => x.space = .wm && x.off ≤ a && a + 4 ≤ x.off + x.len
  a % 4 ≠ 0 || spaceSize .wm < a + 4 || !(p.tasks.any fun (d : TaskDecl) => d.kind ≠ 0 && covers d.inputs && covers d.outputs)
    || (if ctrlKind r ≤ 3 then timerBad r else counterBad r)

/-- The code of a task breaks a rule, in one timetable, on Gallery g. WDS is judged by the Gallery that the Plan declares for the task
(15 R715): one that a fallback moves keeps its WDS. -/
def taskCodeBad (p : Plan) (t : Timetable) (g k : Nat) (queues : Nat → Nat → Bool) : Bool :=
  let d := p.tasks.getD k default
  let bodies := taskBodies p t g k
  let last (b : List (BitVec 128)) : BitVec 128 := b.getLastD 0
  let wds (b : BitVec 128) : Bool := wordOp (slotOf b 3) = 0x13
  bodies.isEmpty
    || bodies.any (fun b => b.isEmpty || !(endsSegment (last b) || endsTask (last b)))
    || (bodies.dropLast.any fun b => endsTask (last b)) || !endsTask (last (bodies.getLastD []))
    || bodies.any (fun b => b.any (fun x => bundleBad d queues x || recordBad p d (slotOf x 3)) || repBad b)
    || 16 < (bodies.map fun b => issueCount isArmf b 0 1).sum
    || (bodies.any (fun b => b.any wds) && (p.serving.getD d.gallery none) ≠ some k)

/-- A payload length that a message queue's binding does not take (11 R556). -/
def queueLenBad (c : State) (p : Plan) (q len : Nat) : Bool :=
  match p.queues.getD q .none with
  | .can ch idword _ _ fdf _ => if idword then !(1 ≤ len && len ≤ 17) else if c.canFd ch && fdf then 16 < len else 2 < len
  | _ => false

/-- Cycle of a Gallery in a timetable; the longest time-task or alcove period where the certificate gives none (04 R188). -/
def cycleOf (p : Plan) (t : Timetable) (g : Nat) : Nat := t.cycle.getD g (planCycle p)

/-- The slots of task k, release by release (06 R305). -/
def slotGroups (t : Timetable) (g k : Nat) : List (List Slot) :=
  let l := (slotsOf t g).filter fun (x : Slot) => x.task = k
  let n := (segmentsOf t g k).length
  (List.range (l.length / n)).map fun i => (l.drop (i * n)).take n

/-- Start and end of the slots of one release; an end before the start lies in the next cycle. -/
def groupSpan (cycle : Nat) (l : List Slot) : Nat × Nat :=
  let a := (l.headD default).release
  let e := (l.getLastD default).fin
  (a, if e < a then e + cycle else e)

/-- A segment of task k starts between the first and the last segment of a release of task j (04 R188, 05 R245). -/
def segmentsEnter (cycle : Nat) (t : Timetable) (g j k : Nat) : Bool :=
  (slotGroups t g j).any fun l =>
    let (a, b) := groupSpan cycle l
    (slotsOf t g).any fun (x : Slot) => x.task = k && ((a ≤ x.release && x.release < b) || x.release + cycle < b)

/-- The segments of two tasks interleave in a timetable (05 R245); position tasks run one at a time (04 R192). -/
def interleave (p : Plan) (t : Timetable) (g j k : Nat) : Bool :=
  let c := cycleOf p t g
  j ≠ k && !((p.tasks.getD j default).kind = 2 && (p.tasks.getD k default).kind = 2) && (segmentsEnter c t g j k || segmentsEnter c t g k j)

def allocationsMeet (a b : TaskDecl) : Bool := Nat.land a.accs b.accs ≠ 0 || Nat.land a.words b.words ≠ 0 || Nat.land a.preds b.preds ≠ 0

/-! Task and layout rules (04 R181 to R199, R226; 01 R23) -/

def sectionOk (d : TaskDecl) (x : Section) : Bool :=
  x.off + x.len ≤ spaceSize x.space && x.img + x.len ≤ (if spaceIsBit x.space then d.bitSize else d.wordSize)

def outSpace : Space → Bool
  | .ho => true | .wo => true | .hm => true | .wm => true | _ => false

/-- The declaration of task k breaks a rule of 04 R181 to R199. -/
def declBad (p : Plan) (k : Nat) : Bool :=
  let d := p.tasks.getD k default
  let frame := (p.tasks.getD 0 default).period
  let timed := 50000 ≤ d.period && d.period ≤ 60000000000 && d.period % 25000 = 0
  63 < k || (if d.kind = 2 then d.gallery ≠ 3 else !(d.kind = 1 || d.kind = 3) || 2 < d.gallery || !timed)
    || (k = 0 && !(d.kind = 1 && d.gallery = 0 && d.offset = 0 && d.period ≤ 1000000000))
    || (d.kind = 1 && k ≠ 0 && ((frame % d.period ≠ 0 && d.period % frame ≠ 0) || d.offset % 25000 ≠ 0 || d.period ≤ d.offset))
    || (d.kind = 3 && !(1 ≤ d.eventKind && d.eventKind ≤ 7))
    || 32 < d.inputs.length || 32 < d.outputs.length || d.inputs.any (fun x => !sectionOk d x)
    || d.outputs.any (fun x => !sectionOk d x || !outSpace x.space)

/-- Image memory of a Gallery (04 R198). -/
def imagesBad (p : Plan) (g : Nat) : Bool :=
  524288 < (((taskNumbers p).map fun k => p.tasks.getD k default).map fun (d : TaskDecl) => if d.gallery = g then (d.bitSize + 7) / 8 + 4 * d.wordSize else 0).sum

/-- Bytes of the retained declarations (04 R226). -/
def retainedBytes (p : Plan) : Nat := (p.retained.map rangeBytes).sum + 16 * p.retainedRecs.length

def retainedBad (p : Plan) : Bool :=
  64 < p.retained.length || 65536 < retainedBytes p
    || p.retainedRecs.any (retainedRecBad p)
    || p.retained.any fun r => !((r.space = .hm || r.space = .wm) && r.off + r.len ≤ spaceSize r.space)

/-- One run of output or marker points with its writer (01 R23). -/
structure Writer where
  bit  : Bool
  lo   : Nat
  hi   : Nat
  who  : Nat
deriving DecidableEq, Repr

/-- Runs of points that input blocks and CAN mailbox queues write (04 R222; 11 R563, R564). -/
def State.networkWriters (c : State) (p : Plan) : List Writer :=
  (p.blocks.zipIdx.flatMap fun e => e.1.ranges.map fun r =>
      let a := spaceBase r.space + r.off
      ⟨spaceIsBit r.space, a, a + r.len, 5000 + e.2⟩)
    ++ (List.range 64).filterMap fun i =>
      let box (sub : Nat) : Nat := c.cfg (0x1310 + 0x40 * (i / 16) + i % 16) sub
      let a := box 3 % 2 ^ 18
      if box 1 = 0 then none else some ⟨false, a, a + 4 + box 1 * (4 + box 2 / 4), 6000 + i⟩

/-- The writers among tasks, loops, the Dispatcher and the networks. -/
def State.writers (c : State) (p : Plan) : List Writer :=
  ((taskNumbers p).flatMap fun k => ((p.tasks.getD k default).outputs.filter fun x => x.len ≠ 0).map fun x =>
      let a := spaceBase x.space + x.off
      ⟨spaceIsBit x.space, a, a + x.len, k⟩)
    ++ (c.allLoops.map fun n => let a := pointAddr (c.loopCfg n 0x12); ⟨false, a, a + 1, 100 + n⟩)
    ++ (((List.range 80).filter (fun n => (if n < 64 then c.dspBalance 0 n else c.dspBalance 1 (n - 64)) ≠ 0xFF)).map fun n =>
      let a := pointAddr (if n < 64 then c.cfg (0x2900 + n) 3 else c.cfg (0x2940 + (n - 64)) 3)
      ⟨false, a, a + 1, 3000⟩)
    ++ c.networkWriters p

/-- Two writers share an output or marker point: one beyond HI or WI (01 R23). -/
def writersMeet (l : List Writer) : Bool :=
  l.any fun a => l.any fun b =>
    a.bit == b.bit && a.who ≠ b.who && a.lo < b.hi && b.lo < a.hi && (if a.bit then spaceBase .ho else spaceBase .wo) < min a.hi b.hi

/-! Configuration rules -/

/-- A CONFIG value that its entry does not accept, or that fails an apply check in the Plan's configuration. -/
def State.configBad (c : State) (e : Nat × Val) : Bool :=
  let idx := e.1 / 256
  let sub := e.1 % 256
  match rowOf idx sub with
  | none => true
  | some r => !rngOk r.ty r.rng e.2 || c.valueBad idx sub
    || (0x1300 ≤ idx && idx < 0x1400 && idx % 0x40 = 3 && 1 ≤ sub && sub ≤ 8 && canPairBad (valNat e.2))

/-- The Plan gives gains for source i, or enables it. -/
def State.gainsGiven (c : State) (p : Plan) (i : Nat) : Bool :=
  bitAt (c.cfg 0x2000 2) i || p.config.any fun e => e.1 / 256 = 0x2040 + i && 0x0A ≤ e.1 % 256 && e.1 % 256 ≤ 0x0C

/-- Source gains (02, Estimating velocity and acceleration). -/
def State.gainsBad (c : State) (p : Plan) (i : Nat) : Bool :=
  let a := c.cfgF (0x2040 + i) 0x0A
  c.gainsGiven p i
    && (a ≤ 0 || 1 < a || c.cfgF (0x2040 + i) 0x0B ≤ 0 || c.cfgF (0x2040 + i) 0x0C < 0)

/-- Rate classes and OUT_POINTs of the loops (07 R349, R359). -/
def State.loopsBad (c : State) : Bool :=
  let per (k : Nat) : Nat := c.cfg 0x3EFF (0x28 + k)
  let pointBad (p : Nat) : Bool := pointFormat p = 3
  (List.range 8).any (fun k => per k ≠ 0 && !(50 ≤ per k && per k ≤ 60000000 && per k % 25 = 0))
    || c.allLoops.any fun n =>
      (c.loopClass n < 8 && per (c.loopClass n) = 0) || pointAddr (c.loopCfg n 0x12) < 0x10000 || pointBad (c.loopCfg n 0x12)
        || pointBad (c.loopCfg n 0x10) || (!pointNone (c.loopCfg n 0x11) && pointBad (c.loopCfg n 0x11))

/-- Items of the Dispatcher (08 R394, R397, R411). -/
def State.dispatchBad (c : State) : Bool :=
  let used (k no : Nat) : Bool := c.dspBalance k no ≠ 0xFF
  let bad (k no : Nat) : Bool := used k no && (c.cfg 0x2800 0x17 ≤ c.dspBalance k no || (c.dspBreaks k no).isSome)
  let loops := (((List.range 1024).filter (used 2)).map fun no => c.cfg (0x3000 + no) 3).filter fun n => n ≠ 0xFFFF
  let pointBad (p : Nat) : Bool := pointAddr p < 0x10000 || pointFormat p = 3
  (List.range 64).any (bad 0) || (List.range 16).any (bad 1) || (List.range 1024).any (bad 2)
    || (List.range 64).any (fun n => used 0 n && pointBad (c.cfg (0x2900 + n) 3)) || (List.range 16).any (fun n => used 1 n && pointBad (c.cfg (0x2940 + n) 3))
    || loops.any (fun n => c.loopClass n = 0xFF) || loops.eraseDups.length ≠ loops.length

/-- CAN output objects (11 R555). -/
def State.canObjectBad (c : State) (o : CanOut) : Bool :=
  canLen o.len ≠ o.len || 64 < o.len || (!o.fdf && 8 < o.len) || o.len < (o.data.map rangeBytes).sum || (o.fdf && !c.canFd o.channel)

/-- Persisted entries (13 R642). -/
def persistedBad (p : Plan) : Bool :=
  let recs := p.persisted.map (·.2.2)
  16384 < recs.length || recs.eraseDups.length ≠ recs.length || recs.any (fun r => r < 16384 || 32767 < r)
    || p.persisted.any fun e =>
      match rowOf e.1 e.2.1 with
      | none => true
      | some r => r.acc = .ro || r.acc = .wo
        || (match tySize r.ty with | some _ => false | none => match r.rng with | .len n => 252 < n | .lenUpto n => 252 < n | _ => true)

/-- Treads and Flights (03 R122, R126 to R128, R139, R143). -/
def State.treadsBad (c : State) (p : Plan) : Bool :=
  p.treads.any (fun e => treadBad e.2 || c.targetBad e.1)
    || (List.range 256).any fun f => c.flLength f ≠ 0 && (c.flightBad f || c.orderBad f || c.flPolicy f % 4 = 3)

/-- The service interval of Gallery g's watchdog, of C counts of `W` µs, leaves its window in a timetable: the serving task issues one
unconditional service in each execution, and successive serving executions lie between W + 1 µs and PERIOD − 1 µs apart, the Hall wait of
a first segment counted (15 R715; log 146). -/
def intervalBad (p : Plan) (t : Timetable) (g k every open_ period : Nat) : Bool :=
  let d := p.tasks.getD k default
  let segs := taskBodies p t g k
  let issues (hit : Word → Bool) : Nat := (segs.map fun b => issueCount hit b 0 1).sum
  let low := open_ * 1000 + 1000
  let high := period * 1000 - 1000
  let m := segs.findIdx fun b => b.any fun x => isService (slotOf x 3)
  let l := (slotGroups t g k).map fun x => (x.getD m default).release
  let cycle := cycleOf p t g
  let wait := if m = 0 then d.hallWait else 0
  let gap (i : Nat) : Nat := l.getD ((i + every) % l.length) 0 + cycle * ((i + every) / l.length) - l.getD i 0
  issues isService ≠ 1 || issues (fun w => isService w && field w.toNat 31 28 = 0) ≠ 1
    || if d.kind = 2 then p.launchRate = 0 || every * 1000000000 < low * p.launchRate || high * p.launchRate ≤ every * 1000000000
       else d.kind = 3 || l.isEmpty || (List.range l.length).any fun i => gap i < low + wait || high ≤ gap i + wait

/-- R715 for the watchdog of Gallery g: in the normal timetable and in every fallback ALLOWED but that for the loss of g itself. -/
def State.serviceBad (c : State) (p : Plan) (g : Nat) : Bool :=
  c.wdtEnabled (1 + g) &&
    match p.serving.getD g none with
    | none => true
    | some k =>
      let bad (t : Timetable) : Bool := intervalBad p t g k (c.cfg (0x1701 + g) 0x0E) (c.wdtOpen (1 + g)) (c.wdtPeriod (1 + g))
      bad p.table || p.falls.zipIdx.any fun e => e.1.allowed && e.2 ≠ g && bad e.1.table

/-- The first rule stated as rejected at verification that a Plan breaks: the section and what failed in it (06 R318 step 7). -/
def State.planRule (c : State) (p : Plan) : Option (Nat × Nat) :=
  let q := queueLenBad c p
  let ks := taskNumbers p
  let first (sec : Nat) (bad : Nat → Bool) (l : List Nat) : Option (Nat × Nat) := (l.find? bad).map fun k => (sec, k)
  let whole (sec : Nat) (bad : Bool) : Option (Nat × Nat) := if bad then some (sec, 0xFFFF) else none
  let codeBad (t : Timetable) (e : Nat × Nat) : Bool :=
    taskCodeBad p t e.1 e.2 q
      || (placed t).any fun f => f.1 = e.1 && interleave p t e.1 f.2 e.2 && allocationsMeet (p.tasks.getD f.2 default) (p.tasks.getD e.2 default)
  let code (t : Timetable) (l : List (Nat × Nat)) : Option (Nat × Nat) := (l.find? (codeBad t)).map fun e => (e.1 + 1, e.2)
  (if (p.tasks.getD 0 default).kind = 0 then some (0x10, 0) else none)
    |>.or (first 0x10 (declBad p) ks)
    |>.or (first 0x20 (imagesBad p) [0, 1, 2, 3])
    |>.or (code p.table (ks.map fun k => ((p.tasks.getD k default).gallery, k)))
    |>.or (p.falls.findSome? fun f => code f.table (placed f.table))
    |>.or (whole 0x20 (retainedBad p || writersMeet (c.writers p)))
    |>.or (whole 0x30 (c.treadsBad p))
    |>.or (whole 0x40 ([0, 1, 2, 3].any (c.gainsBad p)))
    |>.or (whole 0x50 (c.loopsBad || p.gains.any fun e => (gainReject e.2).isSome))
    |>.or (whole 0x60 c.dispatchBad)
    |>.or (whole 0x70 (p.config.any c.configBad || persistedBad p || (List.range 4).any fun g => (p.serving.getD g none).isSome && c.cfg (0x1701 + g) 0x0E = 0))
    |>.or (whole 0x70 ((p.buckets.countP fun (b : Bucket) => b.code = 0) + (256 - p.buckets.length) < (suppliedCodes p.buckets).length))
    |>.or (whole 0x80 (p.canOuts.any c.canObjectBad))
    |>.or (whole 0x20 (decide (1500000000 < p.forwardRate)))
    |>.or (first 0x70 (c.serviceBad p) [0, 1, 2, 3])

/-! The certificate (06 R313 to R317) -/

def copyTimesBad (p : Plan) (k : Nat) : Bool :=
  let d := p.tasks.getD k default
  copyNs d.inputs ≠ d.copyIn || copyNs d.outputs ≠ d.copyOut

/-- R314, for every release of task k in a slot list of Gallery g: the chain of wait, copies and execution fits the period, and the last
slot of each release, with its copy-back, ends by the next release (log 146). -/
def deadlineBad (p : Plan) (t : Timetable) (g k : Nat) : Bool :=
  let d := p.tasks.getD k default
  let cycle := cycleOf p t g
  let l := slotGroups t g k
  let first := if d.kind = 1 then d.offset else ((l.headD []).headD default).release
  d.kind ≠ 2 && (d.period < d.hallWait + d.copyIn + d.wcet + d.copyOut || d.period = 0 || l.length ≠ cycle / d.period
    || l.zipIdx.any fun e => e.1.map (·.start) ≠ segmentsOf t g k || first + (e.2 + 1) * d.period < (groupSpan cycle e.1).2 + d.copyOut)

/-- R315: slot lengths and the self-test reservation, 1,100 clocks for each 100 ms begun. -/
def overloadBad (p : Plan) (t : Timetable) (g : Nat) : Bool :=
  let cycle := cycleOf p t g
  !(slotsOf t g).isEmpty && g < 3 && cycle < ((slotsOf t g).map (·.len)).sum + 2200 * ((cycle + 99999999) / 100000000)

/-- R316. -/
def State.capacityBad (c : State) (p : Plan) : Bool :=
  10000000 < p.evalRate || 4194304 < p.deltaBytes || 65536 < p.retainBytes || p.treads.any (fun e => 16383 < e.1)
    || 16383 < p.treadTop || 255 < p.flightTop
    || (c.cfg 0x2800 2 ≠ 0 && c.cfg 0x2800 2 * 1000000 ≤ p.dispatchNs)

/-- Every root of c0·z³ + c1·z² + c2·z + c3 lies inside the circle of radius x, by the Jury conditions. -/
def rootsInside (c0 c1 c2 c3 x : Rat) : Bool :=
  let a3 := c0 * x * x * x
  let a2 := c1 * x * x
  let a1 := c2 * x
  let a0 := c3
  decide (0 < (a3 + a2 + a1 + a0) * a3) && decide (0 < (a3 - a2 + a1 - a0) * a3) && decide (a0 * a0 < a3 * a3)
    && decide (absRat (a0 * a2 - a1 * a3) < absRat (a0 * a0 - a3 * a3))

/-- The characteristic polynomial of (I − K·H)·F with F the transition over one period and K = (α, β, 2γ) in units of the
period; with γ = 0 the acceleration stays 0 and leaves the error state (02 R85, R86). -/
def errorPoly (a b g : Rat) : Rat × Rat × Rat × Rat :=
  if g = 0 then (1, a + b - 2, 1 - a, 0) else (1, a + b + g - 3, 3 - 2 * a - b + g, a - 1)

/-- R317: below 0.999, and within 10^-6 of the certified value. -/
def State.radiusBad (c : State) (p : Plan) (i : Nat) : Bool :=
  let (c0, c1, c2, c3) := errorPoly (c.cfgF (0x2040 + i) 0x0A) (c.cfgF (0x2040 + i) 0x0B) (c.cfgF (0x2040 + i) 0x0C)
  let r : Rat := (p.radius.getD i 0 : Nat) / 1000000000
  let eps : Rat := 1 / 1000000
  c.gainsGiven p i
    && (!rootsInside c0 c1 c2 c3 (999 / 1000) || !rootsInside c0 c1 c2 c3 (r + eps) || (eps < r && rootsInside c0 c1 c2 c3 (r - eps)))

/-! Verification (06 R318) -/

def requiredSections : List Nat := [0x0010, 0x0011, 0x0020, 0x0070, 0x00F0]
def knownSections : List Nat :=
  [1, 2, 3, 4, 0x10, 0x11, 0x12, 0x13, 0x14, 0x15, 0x20, 0x30, 0x40, 0x50, 0x60, 0x70, 0x80, 0xF0, 0xF8]

/-- Step 1: MAGIC, IMAGE_LEN, directory bounds and alignment, FORMAT. -/
def formatBad (b : Bytes) : Bool :=
  let n := numAt b 0x0C 2
  let dirEnd := 0x50 + 16 * n
  (b.take 4 ≠ [0x46#8, 0x4C#8, 0x50#8, 0x4E#8]) || numAt b 8 4 ≠ b.length || 134217728 < b.length || b.length < 0x50 + 64
    || n = 0 || 64 < n || b.length < dirEnd + 64 || numAt b 5 1 ≠ 1
    || (planDir b).any fun d => d.offset % 64 ≠ 0 || d.offset < dirEnd || b.length - 64 < d.offset + d.length

/-- Step 4: the first section whose CRC32 is wrong. -/
def crcBad (b : Bytes) : Option Nat := ((planDir b).find? fun d => (crc32 (sectionBytes b d)).toNat ≠ d.crc).map (·.type_)

/-- Step 6: a section missing, held twice or unknown. -/
def sectionsBad (b : Bytes) (p : Plan) : Option Nat :=
  let l := (planDir b).map (·.type_)
  let need := requiredSections ++ ((taskNumbers p).map fun k => (p.tasks.getD k default).gallery + 1).eraseDups ++ (if p.edit then [0xF8] else [])
  (need.find? fun x => !l.contains x)
    |>.or (l.find? fun x => l.countP (· = x) ≠ 1)
    |>.or (l.find? fun x => !knownSections.contains x && x < 0x8000)
    |>.or (((planDir b).find? fun d => d.type_ ≤ 4 && (d.length % 16 ≠ 0 || 2097152 < d.length)).map (·.type_))

/-- An execution of task k of the running Plan can span a major Landing: it starts before the latest end of T0's copy-back and may end
its own after T0's earliest Landing, in some frame (04 R188, R220; log 146). -/
def canSpan (p : Plan) (k : Nat) : Bool :=
  let z := p.tasks.getD 0 default
  let d := p.tasks.getD k default
  let lo : Int := z.copyIn + z.wcet
  let hi : Int := z.finish + z.copyOut
  let off : Int := if d.kind = 1 then d.offset else (((slotGroups p.table d.gallery k).headD []).headD default).release
  let step : Int := Nat.gcd z.period d.period
  k ≠ 0 && (d.kind = 2 || step = 0 || off - hi < (off + d.finish + d.copyOut - lo - 1) / step * step)

/-- A point that an execution spanning the swap writes has another writer in the new Plan (04 R220). -/
def State.newWriterBad (c : State) (old new : Plan) : Bool :=
  let mine := (taskNumbers old).filter (canSpan old)
  mine.any fun k =>
    let own := ((old.tasks.getD k default).outputs.filter fun x => x.len ≠ 0).map fun x =>
      (⟨spaceIsBit x.space, spaceBase x.space + x.off, spaceBase x.space + x.off + x.len, k⟩ : Writer)
    own.any fun a => (c.writers new).any fun b => a.bit == b.bit && a.who ≠ b.who && a.lo < b.hi && b.lo < a.hi

/-- A task's code or sections differ between two Plans. -/
def taskChanged (old new : Plan) (k : Nat) : Bool :=
  let a := old.tasks.getD k default
  let b := new.tasks.getD k default
  a.inputs ≠ b.inputs || a.outputs ≠ b.outputs || taskBodies old old.table a.gallery k ≠ taskBodies new new.table b.gallery k

/-- Runs of points that one Plan names and the other does not. -/
def pointsOnly (a b : Plan) : List Range :=
  (a.points.filter fun x => !b.points.any fun y => y.id = x.id).map fun x => ⟨x.space, x.off, x.len⟩

/-- Points of both Plans move, the DELTA lists disagree with the Plans, or R220 is broken (06 R333, R334); `c` holds the new Plan. -/
def State.editRuleBad (c : State) (old new : Plan) : Bool :=
  let same (a b : List Range) : Bool := a.all b.contains && b.all a.contains
  (new.points.any fun x => old.points.any fun y => y.id = x.id && (y.space ≠ x.space || y.off ≠ x.off)) || c.newWriterBad old new
    || match new.delta with
      | none => true
      | some d =>
        d.oldSchema ≠ old.schema || d.newSchema ≠ new.schema
          || (List.range 64).any (fun k => taskChanged old new k ≠ d.tasks.contains k) || d.timetableChanged ≠ decide (old.table ≠ new.table)
          || !same d.added (pointsOnly new old) || !same d.removed (pointsOnly old new)

/-- Verification, in the order of R318; the first failure answers. -/
def State.planReject (s : State) (b : Bytes) (asEdit : Bool) : Option PlanReject :=
  let p := planOf b
  let c := s.loadPlan p
  let all := 0xFFFF
  if formatBad b then some ⟨1, 0, all⟩
  else if s.keyState ≠ 1 || p.keyId ≠ s.planKeyId then some ⟨2, 0, all⟩
  else if !edVerify s.fuses.key.value (planSigned b) (b.drop (b.length - 64)) then some ⟨3, 0, all⟩
  else match crcBad b with
  | some t => some ⟨4, t, all⟩
  | none =>
  if s.fwVersion < p.minFw then some ⟨5, 0, all⟩
  else match sectionsBad b p with
  | some t => some ⟨6, t, all⟩
  | none =>
  match c.planRule p with
  | some (t, k) => some ⟨7, t, k⟩
  | none =>
  match (taskNumbers p).find? (copyTimesBad p) with
  | some k => some ⟨8, 0xF0, k⟩
  | none =>
  match (tablesOf p).findSome? fun t => ((placed t.2).find? fun e => deadlineBad p t.2 e.1 e.2).map fun e => (t.1, e.2) with
  | some (t, k) => some ⟨9, t, k⟩
  | none =>
  match ((0x11, p.table) :: (p.falls.zipIdx.filter (·.1.allowed)).map fun e => (0x12 + e.2, e.1.table)).findSome? fun t =>
      ([0, 1, 2, 3].find? (overloadBad p t.2)).map fun g => (t.1, g) with
  | some (t, g) => some ⟨0x0A, t, g⟩
  | none =>
  if c.capacityBad p then some ⟨0x0B, 0xF0, all⟩
  else match [0, 1, 2, 3].find? (c.radiusBad p) with
  | some _ => some ⟨0x0C, 0x40, all⟩
  | none =>
  if digestNo (sha256 p.schemaBlock) ≠ p.schema then some ⟨0x0D, 0x20, all⟩
  else if !asEdit then none
  else if p.base ≠ s.plan.digest then some ⟨0x0E, 0, all⟩
  else if c.editRuleBad s.plan p then some ⟨0x0F, 0xF8, all⟩
  else if s.tasks.fallback ≠ 0 then some ⟨0x11, 0, s.tasks.fallback - 1⟩
  else none

/-- REJECT_DETAIL (06 R320). -/
def rejectDetail (r : PlanReject) : Nat := r.section_ * 65536 + r.detail % 65536

end Sys2Proof.Machine
end

