-- ==== Sys2Proof/Machine/Wdt.lean ====
section
/-! DEFINITION. Watchdogs: arming, key writes, warning, and the evidence of an expiry (15 R706 to R722). -/
namespace Sys2Proof.Machine

/-- Arm a watchdog with C = 0; the values at arming stand until the first service (15 R712, R713, R722). -/
def State.wdtArm (s : State) (w : Nat) : State :=
  s.updWdt w fun x => { x with
    state := 1, startAt := s.now, disArm := false, warned := false, lastHours := s.hours, lastRtc := calendarWord s.rtcTicks }

/-- Disarm a watchdog; a disabled one stays disabled (15 R710, R713). -/
def State.wdtDisarm (s : State) (w : Nat) : State :=
  s.updWdt w fun x => if x.state = 1 then { x with state := 0, disArm := false, warned := false } else x

/-- Entry to Stop, Fault or Boot, and the service pause: every Gallery watchdog is disarmed (15 R713). -/
def State.wdtDisarmAll (s : State) : State := [1, 2, 3, 4].foldl State.wdtDisarm s

/-- A release of a task on Gallery g, or a launch on G3, arms a disarmed watchdog that the Plan enables (15 R713, R714). -/
def State.wdtRelease (s : State) (g : Nat) : State :=
  if (s.wdt (1 + g)).state = 0 && s.wdtEnabled (1 + g) && !(s.gallery g).failed then s.wdtArm (1 + g) else s

/-- C has reached PERIOD (15 R708). -/
def State.wdtSpent (s : State) (w : Nat) : Bool := s.wdtPeriod w ≤ s.now / 1000 - (s.wdt w).startAt / 1000

/-- A disable that LOCK or the order of keys refuses (15 R709). -/
def State.wdtRefuse (s : State) (w cause : Nat) : State :=
  (s.updWdt w fun x => { x with disArm := false, refused := holdMax 32 (x.refused + 1) }).ev 0x9004 (leBytes 1 w ++ leBytes 1 cause)

/-- A key write is judged (15 R709, R716); answers whether it is a premature service. -/
def State.wdtKey (s : State) (w key : Nat) (serving : Bool) : State × Bool :=
  let x := s.wdt w
  if x.state ≠ 1 || s.wdtSpent w then (s, false)
  else if key = 0xA5C3 then
    if !serving then (s, false)
    else if s.wdtC w < s.wdtOpen w then
      (s.updWdt w fun x => { x with disArm := false, premature := holdMax 32 (x.premature + 1) }, true)
    else
      (s.updWdt w fun x => { x with
        startAt := s.now, disArm := false, warned := false, services := holdMax 32 (x.services + 1), lastService := s.time
        lastHours := s.hours, lastRtc := calendarWord s.rtcTicks }, false)
  else if key = 0x1DEA then
    if x.lock then (s.wdtRefuse w 1, false) else (s.updWdt w fun x => { x with disArm := true }, false)
  else if key = 0xE21A then
    if x.lock then (s.wdtRefuse w 1, false)
    else if x.disArm then ((s.updWdt w fun x => { x with state := 2, disArm := false }).ev 0x9003 (leBytes 1 w), false)
    else (s.wdtRefuse w 2, false)
  else (s.updWdt w fun x => { x with disArm := false }, false)

/-- Capture the evidence of an expiry: cause 1 at PERIOD, 2 premature. The Supervisor's program counter, and when firmware
last served the Supervisor watchdog, are free values (15 R722, log 4). -/
def State.wdtCapture (s : State) (w cause action : Nat) : State :=
  let x := s.wdt w
  let pc := (s.free 32).toNat
  let s := s.spend
  let hours := if w = 0 then (s.free 40).toNat else x.lastHours % 2 ^ 40
  let s := if w = 0 then s.spend else s
  let rtc := if w = 0 then (s.free 64).toNat else x.lastRtc
  let s := if w = 0 then s.spend else s
  s.updSup fun v => { v with backup := { v.backup with evidence :=
    { valid := true, wdt := w, cause := cause, mode := modeNo s.mode, pcs := s.tasks.galleries.map (·.last), pcSup := pc
      lastHours := hours, lastRtc := rtc, expiryRtc := calendarWord s.rtcTicks
      count := holdMax 32 (v.backup.evidence.count + 1), action := action, report := false } } }

/-- Event 0x9001 of the evidence held (15 R737). -/
def State.wdtEvent (s : State) : State :=
  let e := s.sup.backup.evidence
  s.ev 0x9001 (leBytes 1 e.wdt ++ leBytes 1 e.cause ++ leBytes 1 e.action ++ leBytes 1 e.mode)

/-- The Supervisor or Gallery PC that event 0x9006 carries. -/
def evidencePc (e : Evidence) : Nat := if e.wdt = 0 then e.pcSup else e.pcs.getD (e.wdt - 1) 0

/-- C reaches 7/8 of PERIOD (15 R711). -/
def State.wdtWarn (s : State) (w : Nat) : State :=
  let s := s.updWdt w fun x => { x with warned := true, warnings := holdMax 32 (x.warnings + 1) }
  s.when (w ≠ 0) fun s => s.ev 0x9002 (leBytes 1 w)

end Sys2Proof.Machine
end

