-- ==== Sys2Proof/Machine/Modes.lean ====
section
/-! DEFINITION. Mode changes, entering Stop and Fault, restarts and the memory reset (14 R673 to R677; 04 R226 to R231; 13 R651, R652). -/
namespace Sys2Proof.Machine

/-- Modes in which trial firmware earns its confirmation (14 R693). -/
def steadyMode : Mode → Bool
  | .run => true | .standby => true | .stop => true | _ => false

/-- The mode changes; the row of R673 is recorded (14 R700, R705). -/
def State.changeMode (s : State) (m : Mode) (row : Nat) : State :=
  let old := s.mode
  let s := s.updSup fun v => { v with
    prevMode := modeNo old, since := s.time, transitions := holdMax 32 (v.transitions + 1)
    fw := { v.fw with steadyAt := if steadyMode old then v.fw.steadyAt else s.now }
    ledger := { v.ledger with runNs := s.runTime, runFrom := s.now } }
  ({ s with mode := m }).ev 0x1001 (leBytes 1 (modeNo m) ++ leBytes 1 (modeNo old) ++ leBytes 1 row)

/-! Leaving Run (03 R136; 04 R215; 07 R357; 08 R412; 09 R472; 15 R713; 05 R298) -/

/-- A task that will not land: its execution ends, and what it queued for its Landing is discarded (05 R298; for a mode change,
DEDUCED: R206 and R229 leave such an execution no Landing). -/
def abandon (t : TaskSt) : TaskSt := { t with phase := .idle, segment := 0, pc := 0, armf := [], late := [], old := 0 }

/-- Every execution in progress ends without a Landing, and no launch waits. -/
def State.abandonTasks (s : State) : State :=
  s.updTasks fun v => { v with
    tasks := v.tasks.map abandon
    galleries := v.galleries.map fun (g : Gallery) => { g with rept := none, busy := [] }
    queues := v.queues.map fun (q : List Msg) => q.filter (·.landed)
    launches := [], armf := [] }

/-- An edit ends with a reason; a verified image stays verified (06 R340, R341). -/
def State.cancelEdit (s : State) (reason : Nat) : State :=
  if 1 ≤ s.plans.editState && s.plans.editState ≤ 3 then
    (s.updPlans fun v => { v with editState := 0, swapAt := 0, partnerReady := false, editing := false }).ev 0xA015 (leBytes 2 reason)
  else s

/-- What entering Stop or Fault brings about in every block (03 R136; 04 R215; 07 R357; 08 R412; 09 R472; 15 R713; 06 R341). -/
def State.quiet (s : State) : State :=
  ((((((s.cancelEdit 0).stopFlights.trgsToIdle.clearForces).dropSamples).dspStop).outputsSafe).wdtDisarmAll).abandonTasks

/-- Enter Stop by a row of R673. A standby leaves the pair's lockstep (DEDUCED: R606 describes Standby alone). -/
def State.enterStop (s : State) (row : Nat) : State :=
  let was := s.base
  let s := s.quiet
  let s := if was = .standby then s.updPair fun p => { p with role := 0, state := if s.corridorUp then 1 else 0, resyncing := false } else s
  s.changeMode .stop row

/-- Enter Fault with a cause; a second cause in Fault does not replace the first (14 R677; DEDUCED). -/
def State.enterFault (s : State) (cause : Nat) : State :=
  if s.mode = .fault || s.mode = .backup then s
  else
    let row := if s.mode = .boot then 5 else 18
    let s := s.quiet
    let s := s.updSup fun v => { v with cause := cause, fw := { v.fw with pauseNext := false, pauseAt := none } }
    (s.ev 0x1002 (leBytes 2 cause)).changeMode .fault row

/-- FAULT_CAUSE clears as Fault is left (14 R673 rows 6 and 19). -/
def State.faultCleared (s : State) : State :=
  if s.sup.cause = 0 then s
  else (s.updSup fun v => { v with cause := 0 }).ev 0x1003 (leBytes 2 s.sup.cause)

/-! The Plan's initial values (04 R200, R229) -/

def initBits (p : Plan) : List (Nat × Bool) :=
  (p.initHall.filter fun (x : InitPoint) => spaceIsBit x.space).foldl (fun m x => sput false m (spaceBase x.space + x.off) (x.value ≠ 0)) []
def initWords (p : Plan) : List (Nat × Word) :=
  (p.initHall.filter fun (x : InitPoint) => !spaceIsBit x.space).foldl (fun m x => sput 0 m (spaceBase x.space + x.off) x.value) []

/-- A task's image at Plan initial values. -/
def imageBits (p : Plan) (k : Nat) : List (Nat × Bool) :=
  (p.initImg.filter fun (x : InitImg) => x.task = k && !x.word).foldl (fun m x => sput false m x.off (x.value ≠ 0)) []
def imageWords (p : Plan) (k : Nat) : List (Nat × Word) :=
  (p.initImg.filter fun (x : InitImg) => x.task = k && x.word).foldl (fun m x => sput 0 m x.off x.value) []

/-- A task as a restart leaves it: counters and Landing count 0 (04 R205, R229, R236). -/
def freshTask (p : Plan) (k : Nat) : TaskSt :=
  { (default : TaskSt) with bits := imageBits p k, words := imageWords p k, capLpc := List.replicate 4 0 }

/-- A Gallery as a restart leaves it: counters of R301 subs 1 to 5 and BUNDLES clear. -/
def freshGallery (g : Gallery) : Gallery :=
  { g with
    rept := none, busy := [], failed := false, halted := false, bundles := 0, held := 0, flagsSeen := 0, bounds := 0
    evtDropped := 0, msgDropped := 0 }

/-- Hall, images and counters at what every restart and the memory reset leave (04 R205, R222, R229; 05 R301; 09 R437; 11 R564). -/
def State.initHall (s : State) (p : Plan) : State :=
  let s := { s with hall := { s.hall with bits := initBits p, words := initWords p, blocks := s.hall.blocks.map fun _ => default } }
  let s := s.updTasks fun v => { v with
    tasks := (List.range 64).map (freshTask p), galleries := v.galleries.map freshGallery
    queues := v.queues.map fun (q : List Msg) => q.filter (·.landed), launches := [] }
  let loop (e : Nat × LoopSt) : Nat × LoopSt := (e.1, { e.2 with evals := 0, overruns := 0 })
  { s with
    loops := { s.loops with loops := (s.loops.loops.map loop).filter fun e => e.2 ≠ default }
    dsp := { s.dsp with evals := 0 }
    field := { s.field with
      dio := s.field.dio.map fun (x : Dio) => { x with counter := 0, zeroAt := none, started := false, sampled := false }
      aio := s.field.aio.map fun (x : Aio) => { x with started := false } }
    cans := s.cans.map fun (c : Can) => { c with boxes := c.boxes.map fun (b : CanQueue) => { b with head := 0, ack := 0, lost := 0 } } }

/-- WM offsets of the records that the Plan's code updates, in any timetable, or that it flags as retained. -/
def planRecords (p : Plan) : List Nat :=
  let inCode := (taskNumbers p).flatMap fun k =>
    let d := p.tasks.getD k default
    ((tablesOf p).flatMap fun t => [0, 1, 2, 3].flatMap fun g => (taskBodies p t.2 g k).flatten).filterMap fun b =>
      let w := slotOf b 3
      if isRecordOp (wordOp w) then recordHome d (memOpnd w) else none
  (inCode ++ p.retainedRecs).eraseDups

/-- STARTED of every record clears (05 R297). -/
def State.clearStarted (s : State) (p : Plan) : State :=
  (planRecords p).foldl (fun s o =>
    let a := spaceBase .wm + o + 3
    { s with hall := { s.hall with words := sput 0 s.hall.words a (s.liveWord a &&& ~~~ 8#32) } }) s

/-! Galleries at a start (06 R326, R331; 14 R681) -/

/-- Galleries that fail the self-test of a start: one covered by an allowed fallback starts in it, anything more is not
covered. Answers whether the start goes on. -/
def State.startGalleries (s : State) (p : Plan) (bad : Nat) : State × Bool :=
  let fs := bitsOf bad 4
  let mark (s : State) (g : Nat) : State :=
    ((s.updGallery g fun x => { x with failed := true, selfFails := holdMax 32 (x.selfFails + 1) }).updPair fun q => { q with selfcheck := true }).ev
      0x3025 (leBytes 1 g ++ leBytes 1 3)
  let s := s.updTasks fun v => { v with fallback := 0, fallbackNext := 0 }
  let s := fs.foldl mark s
  match fs with
  | [] => (s, true)
  | [g] =>
    if (p.falls.getD g default).allowed then
      ((s.updTasks fun v => { v with fallback := 1 + g }).ev 0x3030 (leBytes 1 g ++ leBytes 8 0), true)
    else (s.ev 0x3031 (leBytes 1 g ++ leBytes 1 2), false)
  | g :: _ => (s.ev 0x3031 (leBytes 1 g ++ leBytes 1 2), false)

/-! Restarts (04 R229 to R231; 13 R651, R652) -/

/-- Invalidate the retained area (13 R652). -/
def State.retainVoid (s : State) : State :=
  (s.privAppend 2 0 []).updNvm fun v => { v with committed := [] }

/-- A restart into Run by a row of R673: cold, or warm where a retained record is found. `cause` is that of event 0x1020, `bad`
the Galleries that fail the self-test. -/
def State.restart (s : State) (warm : Bool) (cause row bad : Nat) : State :=
  let p := s.plan
  let afterMres := s.tasks.lastKind = 4
  let (s, goes) := (((s.clearForces).initHall p).updPair fun q => { q with uncorrectable := false, selfcheck := false }).startGalleries p bad
  if !goes then s.enterFault 2
  else
    let s :=
      if !warm then
        (s.retainVoid.updTasks fun v => { v with lastKind := 1, warm := false, retainLost := false }).ev 0x1020
          (leBytes 1 (if cause = 1 && afterMres then 3 else cause))
      else
        match s.retainFind p.schema with
        | (some (img, seq), _) =>
          (((s.retainRestore p img).updNvm fun v => { v with committed := img }).updTasks fun v =>
            { v with lastKind := 2, warm := true, retainLost := false }).ev 0x1021 (leBytes 1 0 ++ leBytes 4 seq)
        | (none, why) =>
          (s.retainVoid.updTasks fun v => { v with lastKind := 3, warm := false, retainLost := true }).ev 0x1022 (leBytes 1 why)
    let restored := s.tasks.warm
    let s := s.faultCleared
    let s := (s.clearStarted p).updNvm fun v => { v with ckptAt := s.now }
    let s := (s.updTasks fun v => { v with runAt := s.now }).dspEnterRun.softStartAll
    (s.changeMode .run row).occurrence (if restored then 7 else 6) 0

/-- A memory reset: Plan initial values, and the records of TYPE 1 to 3 are erased (04 R229, R242; 13 R652). -/
def State.memoryReset (s : State) (cause : Nat) : State :=
  let s := (s.clearForces).initHall s.plan
  let s := s.updNvm fun v => { v with priv := v.priv.filter fun (r : PrivRec) => !(1 ≤ r.type_ && r.type_ ≤ 3), committed := [] }
  let s := s.clearStarted s.plan
  ((s.updTasks fun v => { v with lastKind := 4, warm := false, retainLost := false }).ev 0x1023 (leBytes 1 cause)).changeMode .stop 7

/-! Firmware activation (14 R691, R696, R697) -/

/-- ACT_FIRMWARE of a slot: 1 trial, 2 confirmed, 3 rejected. -/
def State.actFirmware (s : State) (slot st : Nat) : Bytes :=
  let b := s.slotBytes 1 slot
  leBytes 1 slot ++ leBytes 1 st ++ leBytes 2 0 ++ leBytes 4 (Config.fwVersion b) ++ leBytes 8 (digestNo (sha256 b)) ++ leBytes 8 s.time

/-- The staged firmware goes on trial: its record is appended and ACT_PENDING set; `how` is 1 pause, 2 reset. -/
def State.startTrial (s : State) (how : Nat) : State :=
  let slot := s.vestibule 1
  let s := s.privAppend 7 0 (s.actFirmware slot 1)
  let s := s.updSup fun v => { v with backup := { v.backup with actPending := true }, fw := { v.fw with actAt := s.now } }
  s.ev 0xA005 (leBytes 4 (Config.fwVersion (s.slotBytes 1 slot)) ++ leBytes 1 how)

/-- Every session closes without event 0x6021; transfers stay (14 R697; 10 R517). -/
def State.closeSilently (s : State) : State :=
  s.updBam fun b => { b with sessions := b.sessions.map fun _ => default, subs := [], waits := [] }

/-- Step 1 and 2 of the service pause (14 R697; 03 R163; 07 R357; 11 R575; 15 R713). -/
def State.pauseStart (s : State) : State :=
  let s := s.updSup fun v => { v with fw := { v.fw with pauseNext := false, from_ := .run } }
  let s := (s.changeMode .update 16).dropSamples.wdtDisarmAll
  let s := ([0, 1, 2, 3].foldl State.canPause s).closeSilently
  let s := { s with treads := { s.treads with pauseBase := s.treads.pauseSkipped } }
  (s.updSup fun v => { v with fw := { v.fw with pauseAt := some s.now } }).startTrial 1

/-- MODE_STOP low refuses rows 6, 8, 12 and 16 (14 R675), also when it goes low in this core clock (R699). -/
def State.stopHeld (s : State) : Bool :=
  s.sup.pinStop || s.coming coreClock fun c => match c with | .modeStopLow _ low => low | _ => false

end Sys2Proof.Machine
end

