-- ==== Sys2Proof/Machine/Failure.lean ====
section
/-! DEFINITION. Failures: Gallery failure and fallback, watchdog expiry, Hall and memory errors, handover by the active module (04 R180, R191; 05 R299, R300; 06 R326 to R332; 12 R616; 14 R677; 15 R718). -/
namespace Sys2Proof.Machine

/-- A partner is present and redundancy is not degraded (06 R326). -/
def State.hot (s : State) : Bool := s.pair.role = 1 && s.partnerPresent && !s.degraded

/-- The active module leaves the role while it can still act: HANDOVER is sent and the roles change at T_sw; from a cold pair it
enters Stop first (12 R616, R620). `cause` is the FAULT_CAUSE of a module that has no partner. -/
def State.handoverOut (s : State) (cause : Nat) : State :=
  let s := s.send 7 .handover
  if s.pair.state = 6 then s.enterStop 9 else s.updPair fun p => { p with switching := 5, after := cause }

/-- The Plan that an execution of a task runs: that from before the last swap while it straddles it (04 R218). -/
def State.planFor (s : State) (t : TaskSt) : Plan := if t.old = 0 then s.plan else s.plans.prev.getD (t.old - 1) s.plan

/-- Leave Edit for Run when an edit ends (14 R673 row 11). -/
def State.leaveEdit (s : State) : State := if s.mode = .edit then s.changeMode .run 11 else s

/-- Galleries run tasks of the timetable: Run and Edit, and Update entered from Run until its pause (01, Modes at a glance). -/
def State.running (s : State) : Bool := s.live && (s.base = .run || s.base = .edit) && !s.held && s.plans.active.isSome

/-- What the loss of Gallery g leads to (06 R326, R341). Outside Run no task is lost: the restart's self-test decides (DEDUCED). -/
def State.galleryLost (s : State) (g : Nat) : State :=
  if !s.running then s
  else
    let s := if s.plans.editState = 3 then (s.cancelEdit 0x11).leaveEdit else s
    if (s.plan.falls.getD g default).allowed && s.tasks.fallback = 0 && s.tasks.fallbackNext = 0 then
      s.updTasks fun v => { v with fallbackNext := 1 + g }
    else if s.hot then (s.ev 0x3031 (leBytes 1 g ++ leBytes 1 1)).handoverOut 2
    else (s.ev 0x3031 (leBytes 1 g ++ leBytes 1 2)).enterFault 2

/-- Gallery g fails: its watchdog is disarmed and its executions end without a Landing (06 R326, R327; 15 R713). -/
def State.galleryDown (s : State) (g : Nat) : State :=
  if (s.gallery g).failed then s
  else
    let s := (s.updGallery g fun x => { x with failed := true, rept := none, busy := [] }).wdtDisarm (1 + g)
    let s := s.updTasks fun v => { v with tasks := v.tasks.map fun t => if t.on = g && t.phase ≠ .idle then abandon t else t }
    s.galleryLost g

/-- A self-check of Gallery g fails, by a cause of R300. -/
def State.selfCheckFail (s : State) (g cause : Nat) : State :=
  if (s.gallery g).failed then s
  else
    let s := s.updGallery g fun x => { x with selfFails := holdMax 32 (x.selfFails + 1) }
    ((s.updPair fun p => { p with selfcheck := true }).ev 0x3025 (leBytes 1 g ++ leBytes 1 cause)).galleryDown g

/-- Corrected memory errors of the last second, for the finding SCRUB (12 R618). -/
def State.countScrub (s : State) (n : Nat) : State :=
  let slot := s.now / 1000000000
  s.updPair fun p => { p with scrubSlot := slot, scrubCount := if p.scrubSlot = slot then p.scrubCount + n else n }

/-- A fetch or scrub of code SRAM finds an error: 1 corrected, 2 uncorrectable (05 R299, R300). -/
def State.codeError (s : State) (g addr kind : Nat) : State :=
  match kind with
  | 0 => s
  | 1 =>
    ((s.updGallery g fun x => { x with codeCorrected := holdMax 32 (x.codeCorrected + 1) }).countScrub 1).ev 0x3020
      (leBytes 1 g ++ leBytes 3 addr)
  | _ =>
    ((s.updPair fun p => { p with uncorrectable := true }).ev 0x3021 (leBytes 1 g ++ leBytes 3 addr)).selfCheckFail g 1

/-! Watchdog expiry (15 R718, R719) -/

/-- Pins as in reset from an instant: nothing is driven (14 R687). DIO outputs that are on switch off, AIO outputs fall to 0 mA, at the
end of the save of a power failure (14 R685 step 5). -/
def State.pinsHarmless (s : State) (at_ : Nat) : State :=
  let off := ((List.range 48).filter fun n => (s.dio n).pin).map fun n => Emission.dio n false at_
  let zero := ((List.range 8).filter fun n => s.aioCfg n 1 = 2).map fun n => Emission.aio n 0 at_
  { s with
    outbox := zero.reverse ++ off.reverse ++ s.outbox
    treads := { s.treads with trgs := s.treads.trgs.map fun (x : Trg) => { x with edges := [], pulseEnd := none } }
    field := { s.field with
      dio := s.field.dio.map fun (x : Dio) => { x with pin := false, pulseEnd := none }
      aio := s.field.aio.map fun (x : Aio) => { x with current := 0 } } }

/-- The module stops and waits for its reset, which boots with a cause (14 R702). -/
def State.fallToReset (s : State) (cause : Nat) : State :=
  (({ s with inReset := true }.updSup fun v => { v with
    power := { v.power with nextCause := cause }, backup := { v.backup with hours := v.backup.hours.map fun _ => s.hours } })).pinsHarmless (if cause = 4 then max s.now s.sup.power.saveEnd else s.now)

/-- A watchdog expires: 1 at PERIOD, 2 by a premature service. The Gallery watchdog of a single or active module with ACTION 1 fails
its Gallery; every other one resets the module (15 R718). -/
def State.wdtExpire (s : State) (w cause : Nat) : State :=
  let action := if w = 0 then 0 else s.wdtCfg w 4
  let s := (s.wdtCapture w cause action).updWdt w fun x => { x with expired := true }
  if action = 1 && s.pair.role ≠ 2 then ((s.wdtDisarm w).wdtEvent).galleryDown (w - 1)
  else
    (s.updSup fun v => { v with backup := { v.backup with evidence := { v.backup.evidence with report := true } } }).fallToReset 3

/-! Commands -/

/-- TREAD_DUE: the head of a source comes due; `bad` marks an uncorrectable error as its Tread is read (03 R145; 14 R677). -/
def execTreadDue (t src : Nat) (bad : Bool) (s : State) : Outcome :=
  actUnit t "position source" src 4 (fun s =>
    if bad && s.live then s.enterFault 6 else s.lagged fun s => s.treadDue src) s

/-- TASK_NOT_LANDED: task k has not landed by its certified finish (04 R191, 05 R300). -/
def execTaskNotLanded (t k : Nat) (s : State) : Outcome :=
  actUnit t "task" k 64 (fun s =>
    let x := s.task k
    let late := x.release + ((s.planFor x).tasks.getD k default).finish
    s.when (s.live && x.phase ≠ .idle && late ≤ s.now && !(s.gallery x.on).failed) fun s =>
      (s.ev 0x3001 (leBytes 1 k ++ leBytes 1 x.on ++ leBytes 4 (holdMax 32 (s.now - late)))).selfCheckFail x.on 4) s

/-- SELFTEST_SEQUENCE: the test sequence of Gallery g ends, with its signature equal or not (05 R300). -/
def execSelftestSequence (t g : Nat) (equal : Bool) (s : State) : Outcome :=
  actUnit t "Gallery" g 4 (fun s =>
    s.when (s.live && s.mode ≠ .boot && !(s.gallery g).failed) fun s =>
      let s := s.updGallery g fun x => { x with selftests := holdMax 32 (x.selftests + 1) }
      if equal then s else s.selfCheckFail g 3) s

/-- CODE_SCRUB: the scrub of Gallery g's code ends: 0 no error, 1 one corrected or 2 one uncorrectable at a bundle address (05 R300). -/
def execCodeScrub (t g addr kind : Nat) (s : State) : Outcome :=
  actUnit t "Gallery" g 4 (fun s =>
    s.when (s.live && s.mode ≠ .boot && !(s.gallery g).failed) fun s => s.codeError g addr kind) s

/-- An uncorrectable error in a live Hall word: Fault, or a handover by the active module of a pair that can take it (04 R180). A
standby records it (DEDUCED). -/
def State.hallError (s : State) (kind addr : Nat) : State :=
  let s := (s.updPair fun p => { p with uncorrectable := true }).ev 0x3010 (leBytes 1 kind ++ leBytes 4 addr)
  if s.pair.role = 2 then s else if s.hot then s.handoverOut 1 else s.enterFault 1

/-- What a read or a scrub of the Hall finds: 0 no error, 1 one corrected and written back, 2 one uncorrectable (04 R179, R180). -/
def State.hallRead (s : State) (result kind addr : Nat) : State :=
  match result with
  | 0 => s
  | 1 =>
    (({ s with hall := { s.hall with corrected := holdMax 32 (s.hall.corrected + 1) } }).countScrub 1).ev 0x3011
      (leBytes 1 kind ++ leBytes 4 addr)
  | _ => s.hallError kind addr

/-- HALL_SCRUB: a scrub of the Hall ends: 0 no error, 1 one corrected, 2 one uncorrectable, at a flat address of kind 0 bit, 1 word or
2 system area (04 R179, R180). -/
def execHallScrub (t result kind addr : Nat) (s : State) : Outcome :=
  act t (fun s =>
    s.when (s.live && s.mode ≠ .boot) fun s => s.hallRead result kind addr) s

/-- SUPERVISOR_LOCKSTEP_MISMATCH: the two halves of the Supervisor pair differ (14 R677). -/
def execSupervisorLockstepMismatch (t : Nat) (s : State) : Outcome :=
  act t (fun s => s.when s.live fun s => s.enterFault 3) s

/-- DEBUG_HALT: the service port halts or resumes Gallery g; its watchdog keeps counting (15 R706). -/
def execDebugHalt (t g : Nat) (halt : Bool) (s : State) : Outcome :=
  actUnit t "Gallery" g 4 (fun s =>
    s.when (s.live && s.mode ≠ .boot) fun s => s.updGallery g fun x => { x with halted := halt }) s

/-- WDT_WARNING: C of watchdog w reaches PERIOD × 7/8 (15 R711). -/
def execWdtWarning (t w : Nat) (s : State) : Outcome :=
  actUnit t "watchdog" w 5 (fun s =>
    s.when (s.live && (s.wdt w).state = 1 && !(s.wdt w).warned && s.wdtPeriod w / 8 * 7 ≤ s.wdtC w) fun s => s.wdtWarn w) s

/-- WDT_EXPIRED: C of watchdog w reaches PERIOD; within the save of a power failure it leaves its evidence alone (15 R708, R718, R732). -/
def execWdtExpired (t w : Nat) (s : State) : Outcome :=
  actUnit t "watchdog" w 5 (fun s =>
    s.when ((s.wdt w).state = 1 && s.wdtSpent w) fun s =>
      if s.live then s.wdtExpire w 1
      else s.when (s.inReset && s.now ≤ s.sup.power.saveEnd) fun s =>
        (s.wdtCapture w 1 (if w = 0 then 0 else s.wdtCfg w 4)).updSup fun v =>
          { v with backup := { v.backup with evidence := { v.backup.evidence with report := true } } }) s

end Sys2Proof.Machine
end

