-- ==== Sys2Proof/Machine/TaskRun.lean ====
section
/-! DEFINITION. Releases, alcoves, launches, copy-ins and bundles (04 R185 to R203, R222; 05 R246 to R255, R282; 06 R329, R330; 15 R713 to R716). -/
namespace Sys2Proof.Machine

/-! Where a task runs (06 R327 to R330) -/

/-- The fallback timetable that runs, if any (06 R327). -/
def State.fallbackNow (s : State) : Option Fallback :=
  if s.tasks.fallback = 0 || s.now < s.tasks.tableAt then none else s.plan.falls[s.tasks.fallback - 1]?

/-- The Plan whose slots run: after a swap that changes the timetable, the earlier one until the next major frame (04 R219). -/
def State.slotPlan (s : State) : Plan := if s.now < s.plans.slotsUntil then s.plans.slotPlan.getD s.plan else s.plan

/-- The timetable whose slots run. -/
def State.tableNow (s : State) : Timetable :=
  match s.fallbackNow with
  | some f => f.table
  | none => s.slotPlan.table

/-- The timetable that gives segments their start addresses: that of the Plan whose code runs (05 R255). -/
def State.codeTable (s : State) : Timetable :=
  match s.fallbackNow with
  | some f => f.table
  | none => s.plan.table

/-- The Gallery on which a task's next execution runs: that of its slots in a fallback, the host for a position task of a failed G3. -/
def State.homeOf (s : State) (k : Nat) : Nat :=
  let d := s.plan.tasks.getD k default
  match s.fallbackNow with
  | none => d.gallery
  | some f =>
    match (List.range 4).find? fun g => (slotsOf f.table g).any fun (x : Slot) => x.task = k with
    | some g => g
    | none => if d.kind = 2 && s.tasks.fallback = 4 then f.host else d.gallery

/-- The roles change: from F on the old active module releases nothing and the new one does (12 R614 step 3). -/
def State.pastF (s : State) : Bool := s.pair.switching = 3 && s.pair.switchF ≤ s.now

/-- A module releases tasks: in Run and Edit, but not one that has left the active role at F or by HANDOVER, nor one whose Gallery
has failed; the module that takes the role at F does before T_sw (12 R614, R616). -/
def State.releases (s : State) (k : Nat) : Bool :=
  !(s.gallery (s.homeOf k)).failed && !s.held && s.live && s.plans.active.isSome
    && if s.pair.role = 2 then s.base = .standby && s.pastF
       else (s.base = .run || s.base = .edit) && !s.pastF && s.pair.switching ≠ 5

/-- A position task runs in lockstep on the standby, on its lagged timeline (12 R595, R596). -/
def State.positionRuns (s : State) (k : Nat) : Bool :=
  !(s.gallery (s.homeOf k)).failed && !s.held && s.live && s.plans.active.isSome && (s.base = .run || s.base = .edit || s.base = .standby)

/-- Release task k: a task that a fallback moves starts with its image at Plan initial values (06 R329). -/
def State.releaseTask (s : State) (k info : Nat) : State :=
  let g := s.homeOf k
  let p := s.plan
  let segs := segmentsOf s.codeTable g k
  (s.updTask k fun x =>
    let x := if x.on = g then x else { x with bits := imageBits p k, words := imageWords p k }
    { x with phase := .pending, release := s.now, first := 0, old := 0, on := g, segs := segs, segment := 0
             pc := segs.headD 0, info := info }).wdtRelease g

/-- The Landing before this release has not been applied yet: a release at a switchover is then skipped (12 R614 step 3). -/
def State.deltaMissing (s : State) (k : Nat) : Bool :=
  let d := s.slotPlan.tasks.getD k default
  let x := s.task k
  s.pair.role = 2 && if x.landings = 0 then s.tasks.runAt + d.offset < s.now else x.release + d.period < s.now

/-- TASK_RELEASE: time task k is released at OFFSET + n × PERIOD from the start of Run (04 R188). -/
def execTaskRelease (t k : Nat) (s : State) : Outcome :=
  actUnit t "task" k 64 (fun s =>
    let d := s.slotPlan.tasks.getD k default
    let at_ := s.tasks.runAt + d.offset
    s.when (s.releases k && d.kind = 1 && d.period ≠ 0 && at_ ≤ s.now && (s.now - at_) % d.period = 0 && (s.task k).phase = .idle) fun s =>
      if s.deltaMissing k then s.updPair fun p => { p with skipped := holdMax 32 (p.skipped + 1) }
      else s.releaseTask k 0) s

/-- The next firing of a source completes Flight f (03 R129, R132). -/
def State.lastFiring (s : State) (src f : Nat) : Bool := 
  (s.tsrc src).running = some f && s.runLeft src f = 1 + ((s.tsrc src).frames.filter fun q => q.flight = f).length

/-- A command that waits in the queue and falls in the present core clock brings an occurrence of event task k (04 R194; log 137). -/
def State.occurrenceComing (s : State) (k : Nat) : Bool :=
  let d := s.plan.tasks.getD k default
  d.kind = 3 && s.coming coreClock fun c => match c with
    | .dioInputEdge _ n level => (d.eventKind = 1 && level || d.eventKind = 2 && !level) && d.eventArg = n && (s.dio n).known && (s.dio n).level ≠ level
    | .canListFilter _ n => match s.canTarget n with
      | some (q, _, _) => (d.eventKind = 3 && d.eventArg = 16 * n + q && s.canPending n q = 0) || (d.eventKind = 4 && d.eventArg = s.canBox n q 6)
      | none => false
    | .processFrameRx _ p ip port x => d.eventKind = 4 && (s.frameBlocks p ip port x).contains d.eventArg
    | .fskRxFrame _ n _ err _ => d.eventKind = 4 && !err && d.eventArg = s.cfg (0x2720 + n) 2
    | .treadDue _ src _ => d.eventKind = 5 && s.lastFiring src d.eventArg
    | .trgCommit _ src => d.eventKind = 5 && s.lastFiring src d.eventArg
    | _ => false

/-- ALCOVE_START: the alcove of event task k starts; the task runs if its event has occurred (04 R194, R195). -/
def execAlcoveStart (t k : Nat) (s : State) : Outcome :=
  actUnit t "task" k 64 (fun s =>
    let d := s.plan.tasks.getD k default
    let n := (s.task k).occurred
    s.when (s.releases k && d.kind = 3 && (s.task k).phase = .idle) fun s =>
      let s := s.updTask k fun x => { x with occurred := 0, alcoveAt := some (coreClock s.now), missed := holdMax 32 (x.missed + (n - 1)) }
      s.when (n ≠ 0 || s.occurrenceComing k) fun s => s.releaseTask k (holdMax 16 n)) s

/-- G3_TASK_START: the next pending launch starts once no position task is in progress (04 R192). -/
def execG3TaskStart (t : Nat) (s : State) : Outcome :=
  act t (fun s => s.when s.live fun s => s.lagged fun s =>
    let free := (List.range 64).all fun k => (s.plan.tasks.getD k default).kind ≠ 2 || (s.task k).phase = .idle
    match s.tasks.launches with
    | [] => s
    | (k, tread) :: rest =>
      s.when (free && s.positionRuns k) fun s => (s.updTasks fun v => { v with launches := rest }).releaseTask k tread) s

/-! Copy-in (04 R199 to R203, R222; 05 R246, R247) -/

/-- A frame for input block b waits in the queue and falls in the present core clock: it counts as arrived (04 R221; log 137). -/
def State.frameComing (s : State) (b : Nat) : Bool :=
  s.coming coreClock fun c => match c with
    | .processFrameRx _ p ip port d => (s.frameBlocks p ip port d).contains b
    | .canListFilter _ n => match s.canTarget n with
      | some (q, _, _) => s.canBox n q 1 ≠ 0 && s.canBox n q 6 = b
      | none => false
    | .fskRxFrame _ n _ err _ => !err && s.cfg (0x2720 + n) 2 = b
    | _ => false

/-- The stale check of the blocks that task k governs (04 R222, R225). -/
def State.staleCheck (s : State) (k : Nat) : State :=
  (s.plan.blocks.zipIdx.filter fun e => e.1.task = k).foldl (fun s e =>
    let b := e.2
    let x := s.hall.blocks.getD b default
    let put (f : BlockSt → BlockSt) (s : State) : State := { s with hall := { s.hall with blocks := upd s.hall.blocks b f } }
    if x.seen || s.frameComing b then put (fun x => { x with seen := false }) s
    else if x.stale then s
    else (put (fun x => { x with stale := true, since := s.now }) s).ev 0x3003 (leBytes 1 b ++ leBytes 1 k)) s

/-- Registers allocated to a task are set to 0 (05 R246). -/
def clearAlloc (d : TaskDecl) (g : Gallery) : Gallery :=
  { g with
    accs := g.accs &&& ~~~ BitVec.ofNat 64 d.accs
    preds := g.preds &&& ~~~ BitVec.ofNat 8 d.preds
    words := g.words.mapIdx fun n w => if bitAt d.words n then 0 else w }

/-- A copy occupies the Hall for its clocks (04 R201, R202). -/
def State.copyTakes (s : State) (l : List Section) : State := { s with hall := { s.hall with copyEnd := s.now + copyNs l } }

/-- The Hall is free for a copy: one at a time (04 R201). -/
def State.copierFree (s : State) : Bool := s.hall.copyEnd ≤ s.now

/-- The copy-back of task k is next: requests are served in the order of their core clocks, copy-backs ahead of copy-ins and each kind
in ascending task number (04 R201). -/
def State.copyBackTurn (s : State) (k : Nat) : Bool :=
  let c := coreClock (s.task k).asked
  s.copierFree && (s.task k).asked ≤ s.now && s.tasks.tasks.zipIdx.all fun e =>
    let x := e.1
    e.2 = k || match x.phase with
      | .landing => c < coreClock x.asked || (coreClock x.asked = c && k < e.2)
      | .pending => c ≤ coreClock x.release
      | _ => true

/-- The copy-in of task k is next (04 R201). -/
def State.copyInTurn (s : State) (k : Nat) : Bool :=
  let c := coreClock (s.task k).release
  s.copierFree && s.tasks.tasks.zipIdx.all fun e =>
    let x := e.1
    e.2 = k || match x.phase with
      | .landing => c < coreClock x.asked
      | .pending => c < coreClock x.release || (coreClock x.release = c && k < e.2)
      | _ => true

/-- The copy-in of task k, served by the Hall (04 R199, R201; 05 R246, R247). -/
def State.copyIn (s : State) (k : Nat) : State :=
  let d := (s.planFor (s.task k)).tasks.getD k default
  let s := s.staleCheck k
  let x := s.copySections s.hs d.inputs (s.task k)
  let x := { x with
    phase := .running, ready := s.now + copyNs d.inputs, flags := 0, capTime := s.time, capMono := s.mono, capLpc := s.line.srcs.map fun (r : Src) => r.pub.lpc
    late := [], bnd := false, bound := none, evtDrops := 0, msgDrops := [], armf := [] }
  ((s.updTask k fun _ => x).updGallery x.on (clearAlloc d)).copyTakes d.inputs

/-- Task k runs on the lagged timeline of a standby (12 R596). -/
def State.onTime (s : State) (k : Nat) (f : State → State) : State :=
  if (s.plan.tasks.getD k default).kind = 2 then s.lagged f else f s

/-- COPY_IN: the Hall serves the copy-in of a released task in its turn; `err` tells what its reads find: 0 no error, 1 one corrected and
written back or 2 one uncorrectable, at a flat address of kind 0 bit, 1 word or 2 system area (04 R179, R180, R201). An occurrence in the
core clock of the alcove's start comes first (R194). -/
def execCopyIn (t k : Nat) (s : State) (err kind addr : Nat := 0) : Outcome :=
  actUnit t "task" k 64 (fun s => s.onTime k fun s =>
    let x := s.task k
    s.when (s.live && x.phase = .pending && s.copyInTurn k && !(x.alcoveAt = some (coreClock s.now) && s.occurrenceComing k)) fun s =>
      let s := s.hallRead err kind addr
      s.when ((s.task k).phase = .pending) fun s => s.copyIn k) s

/-! Bundles (05 R249 to R255, R282) -/

/-- A task on Gallery g waits at SEG or LAND for its unfinished operations (05 R282). -/
def State.segmentWait (s : State) (g clock : Nat) : Bool :=
  s.tasks.tasks.zipIdx.any fun e =>
    let x := e.1
    x.on = g && (x.phase = .landing || (x.phase = .running && x.segment ≠ 0 && x.pc = x.segs.getD x.segment 0))
      && !taskQuiet (s.gallery g).busy e.2 clock

/-- The slot of Gallery g that its timetable has reached, and which segment of its task it is (04 R188, 06 R305). -/
def State.slotNow (s : State) (g : Nat) : Option (Nat × Nat) :=
  let t := s.tableNow
  let cycle := cycleOf s.slotPlan t g
  let pos := if cycle = 0 then s.now - s.tasks.runAt else (s.now - s.tasks.runAt) % cycle
  let l := slotsOf t g
  let last (m : Option Slot) (x : Slot) : Option Slot :=
    if x.release ≤ pos then (match m with | some y => if y.release ≤ x.release then some x else m | none => some x) else m
  -- before the first slot of the cycle, the last one of the cycle before still stands
  let latest (m : Option Slot) (x : Slot) : Option Slot := match m with | some y => if y.release ≤ x.release then some x else m | none => some x
  ((l.foldl last none).or (l.foldl latest none)).map fun x => (x.task, (segmentsOf t g x.task).findIdx (· = x.start))

/-- Task k has Gallery g: in the middle of a segment, or at the start of the segment that the timetable has reached with no other task in
the middle of one (05 R282). A position task starts whenever the Gallery is between segments (04 R192, 06 R330). -/
def State.slotTurn (s : State) (g k : Nat) : Bool :=
  let starts (x : TaskSt) : Bool := x.pc = x.segs.getD x.segment 0
  let x := s.task k
  !starts x || ((s.tasks.tasks.zipIdx.all fun e => e.2 = k || e.1.phase ≠ .running || e.1.on ≠ g || starts e.1)
    && ((s.plan.tasks.getD k default).kind = 2 || s.slotNow g = some (k, x.segment)))

/-- This execution of task k serves its Gallery's watchdog (15 R715, R716). -/
def State.serves (s : State) (g k : Nat) : Bool :=
  let every := s.wdtCfg (1 + g) 0x0E
  s.plan.serving.getD g none = some k && every ≠ 0 && (s.task k).landings % every = 0

/-- Keys written by a bundle, in slot order; a premature service expires the watchdog (05 R291, 15 R709). -/
def State.wdsKeys (s : State) (g k : Nat) (keys : List Nat) : State :=
  keys.foldl (fun s key =>
    let (s, bad) := s.wdtKey (1 + g) key (s.serves g k)
    if bad then s.wdtExpire (1 + g) 2 else s) s

/-- Gallery g issues the next bundle of task k, or holds it. -/
def State.bundle (s : State) (g k : Nat) : State :=
  let p := s.planFor (s.task k)
  let clock := s.now / 2
  let x := s.task k
  let b := (p.code.getD g []).getD x.pc 0
  if s.segmentWait g clock || (s.gallery g).issuedAt = some clock || !s.slotTurn g k then s
  else if bundleHeld (s.gallery g).busy k clock b then s.updGallery g fun y => { y with held := holdMax 64 (y.held + 1), issuedAt := some clock }
  else
    let s := s.updGallery g fun y => { y with issuedAt := some clock }
    let d := p.tasks.getD k default
    let env : ExecEnv := ⟨k, d.wordSize, s.stampEvent 0 [], s.mono, clock, s.pair.role = 2 && d.kind = 2⟩
    let x := if x.first = 0 then { x with first := s.now } else x
    let y := issue env b ⟨s.gallery g, x, s.tasks.queues, [], []⟩
    let z :=
      if endsTask b then
        { y.t with phase := .landing, asked := max s.now (2 * ((y.g.busy.filter fun (w : Busy) => w.task = k).map (·.until_)).foldl max 0) }
      else if endsSegment b then { y.t with segment := y.t.segment + 1, pc := y.t.segs.getD (y.t.segment + 1) 0 }
      else y.t
    (((s.updGallery g fun _ => y.g).updTask k fun _ => z).updTasks fun v => { v with queues := y.queues }).wdsKeys g k y.keys

/-- BUNDLE_ISSUE: Gallery g comes to a bundle of task k; `err` tells what its fetch and register reads find: 0 nothing, 1 a corrected
or 2 an uncorrectable code error, 3 a register parity error (05 R249, R299, R300). -/
def execBundleIssue (t g k err : Nat) (s : State) : Outcome :=
  actUnit t "Gallery" g 4 (fun s =>
    let x := s.task k
    s.when (s.live && k < 64 && x.phase = .running && x.ready ≤ s.now && x.on = g && !(s.gallery g).failed && !(s.gallery g).halted) fun s =>
      match err with
      | 2 => s.codeError g x.pc 2
      | 3 => s.selfCheckFail g 2
      | _ =>
        let s := s.codeError g x.pc err
        if (s.plan.tasks.getD k default).kind = 2 then s.lagged fun s => s.bundle g k else s.bundle g k) s

end Sys2Proof.Machine
end

