-- ==== Sys2Proof/Machine/Landing.lean ====
section
/-! DEFINITION. Landings: copy-back, outputs, messages, deltas and pushes; the major Landing with its applies, swap and checkpoint (01 R25 to R28; 04 R204 to R206, R217 to R219, R227; 05 R284 to R289, R301; 06 R327, R328, R337, R338; 10 R493, R494, R518; 12 R598, R607, R614). -/
namespace Sys2Proof.Machine

def sectionRange (x : Section) : Range := ⟨x.space, x.off, x.len⟩

/-! Outputs (04 R204 step 2) -/

/-- COUNTER and LANDING before a payload (10 R496); the first COUNTER is 1 (DESIGN CHOICE). -/
def frameHeader (header : Bool) (count landing : Nat) : Bytes := if header then leBytes 4 count ++ leBytes 4 landing else []

/-- Output frame n of a task leaves with its Hall sections (10 R493, R496). -/
def State.sendFrameOut (s : State) (n : Nat) (f : OutFrame) : State :=
  let c := (sget 0 s.net.outCount n + 1) % 2 ^ 32
  let sent := s.canSend f.port && s.resolved f.port f.ip
  let s := s.datagram f.port f.ip f.udpPort (frameHeader f.header c (s.task f.task).landings ++ f.ranges.flatMap s.getRange)
  if sent then { s with net := { s.net with outCount := sput 0 s.net.outCount n c, sentOut := holdMax 32 (s.net.sentOut + 1) } } else s

/-- A message leaves by the binding of its queue; an FSK binding takes it later (10 R494; 11 R556; 09 R463). -/
def State.sendMessage (s : State) (q : Nat) (m : Msg) : State :=
  match s.plan.queues.getD q .none with
  | .none => s
  | .udp port ip udpPort header =>
    let c := (sget 0 s.net.msgCount q + 1) % 2 ^ 32
    let sent := s.canSend port && s.resolved port ip
    let s := s.datagram port ip udpPort (frameHeader header c (s.task m.task).landings ++ packWords m.data)
    if sent then { s with net := { s.net with msgCount := sput 0 s.net.msgCount q c } } else s
  | .can ch idword id ide fdf brs => s.canMessage ch idword id ide fdf brs m.data
  | .fsk _ => s

def isFsk : MsgBind → Bool
  | .fsk _ => true
  | _ => false

/-- Insert by the clock of issue. -/
def insertMsg (m : Nat × Msg) : List (Nat × Msg) → List (Nat × Msg)
  | [] => [m]
  | x :: xs => if m.2.clock < x.2.clock then m :: x :: xs else x :: insertMsg m xs

/-- The messages of task k leave in issue order; those of an FSK queue are released (05 R289, R790). -/
def State.sendMessages (s : State) (k : Nat) : State :=
  let mine (m : Msg) : Bool := m.task = k && !m.landed
  let l := (s.tasks.queues.zipIdx.flatMap fun e => (e.1.filter mine).map fun m => (e.2, m)).foldl (fun acc m => insertMsg m acc) []
  let s := l.foldl (fun s e => s.sendMessage e.1 e.2) s
  let keep (q : Nat) (ms : List Msg) : List Msg :=
    if isFsk (s.plan.queues.getD q .none) then ms.map fun m => if mine m then { m with landed := true } else m
    else ms.filter fun m => !mine m
  s.updTasks fun v => { v with queues := v.queues.mapIdx keep }

/-- What leaves at step 2 of a Landing of task k: field outputs, output frames, CAN objects, then messages (04 R204; 11 R551). A
standby's position task sends nothing. -/
def State.outputsLeave (s : State) (k : Nat) (outs : List Section) : State :=
  let s := s.takeRanges (outs.map sectionRange)
  if s.pair.role = 2 then s
  else
    let s := (s.plan.outFrames.zipIdx.filter fun e => e.1.task = k).foldl (fun s e => s.sendFrameOut e.2 e.1) s
    let s := (s.plan.canOuts.filter fun (o : CanOut) => o.task = k).foldl State.canObject s
    s.sendMessages k

/-! Pushes (10 R518) -/

/-- An item of a READ_MULTI response or a push: a STR or BLOB beyond 1,396 bytes is answered with TYPE (10 R510, R513). -/
def State.itemBytes (s : State) (k : Nat) (a : Addr) : State × Bytes :=
  let (s, st, ty, v) := s.readEntry k a.idx a.sub
  let b := if st = .ok then valBytes ty v else []
  let big := (tySize ty).isNone && 1396 < b.length
  let st := if big then .type else st
  let b := if big then [] else b
  (s, leBytes 2 a.idx ++ leBytes 1 a.sub ++ leBytes 1 (statusCode st) ++ leBytes 1 (tyCode ty) ++ [0#8] ++ leBytes 2 b.length ++ b)

def State.itemsBytes (s : State) (k : Nat) : List Addr → State × Bytes
  | [] => (s, [])
  | a :: rest =>
    let (s, b) := s.itemBytes k a
    let (s, c) := State.itemsBytes s k rest
    (s, b ++ c)

/-- The session slot of a session number. -/
def State.slotOfNumber (s : State) (n : Nat) : Option Nat := (List.range 16).find? fun k => (s.sess k).state = 2 && (s.sess k).number = n

/-- A push of the same subscription of which nothing has been sent yet is replaced, and counted (10 R519; log 150). -/
def State.pushUnsent (s : State) (x : Subscription) : State :=
  let hit (e : CanSegs) : Bool := e.push = some (x.session, x.id)
  let n := (s.cans.map fun (c : Can) => c.segs.countP hit).sum
  if n = 0 then s
  else ({ s with cans := s.cans.map fun (c : Can) => { c with segs := c.segs.filter fun e => !hit e } }).updBam fun b =>
    { b with pushOverruns := holdMax 32 (b.pushOverruns + n) }

/-- One subscription at a Landing of its task: every DIVIDER-th one pushes. -/
def State.pushOne (s : State) (landing : Nat) (x : Subscription) : State :=
  let hit (y : Subscription) : Bool := y.session = x.session && y.id = x.id
  let set (f : Subscription → Subscription) (s : State) : State :=
    s.updBam fun b => { b with subs := b.subs.map fun y => if hit y then f y else y }
  if x.count + 1 < x.divider then set (fun y => { y with count := y.count + 1 }) s
  else
    let s := set (fun y => { y with count := 0, pushes := (y.pushes + 1) % 2 ^ 32 }) s
    match s.slotOfNumber x.session with
    | none => s
    | some k =>
      let (s, b) := s.itemsBytes k x.items
      let y := s.sess k
      (s.pushUnsent x).deliverAs (some (x.session, x.id)) y.link y.peerIp y.peerPort (s.sessionMsg k 0x88 2 ((x.pushes + 1) % 2 ^ 32) .ok (leBytes 1 x.id ++ [0#8] ++ leBytes 8 landing ++ b))

/-- The pushes bound to a task's Landing. -/
def State.pushes (s : State) (k landing : Nat) : State :=
  (s.bam.subs.filter fun (x : Subscription) => x.task = k).foldl (fun s x => s.pushOne landing x) s

/-! Deltas (12 R598, R607) -/

/-- Deltas of task k cross to a partner that is hot, joining or resynchronising; those of tasks that land on the old module of a
switchover still do (12 R614 step 3). -/
def State.deltasCross (s : State) (k : Nat) : Bool :=
  (s.pair.role = 1 && (s.pair.state = 3 || s.pair.state = 4))
    || (s.pair.role = 2 && s.pair.switching = 4 && (s.plan.tasks.getD k default).kind ≠ 2)

/-- Bytes that a delta of task k counts in the buffer: output sections and image (12 R599; log 55). -/
def State.deltaSize (s : State) (k : Nat) : Nat :=
  let d := (s.planFor (s.task k)).tasks.getD k default
  (d.outputs.map fun x => rangeBytes (sectionRange x)).sum + (d.bitSize + 7) / 8 + 4 * d.wordSize

/-- A part of a store: n points from an address. -/
def part {α : Type} (m : List (Nat × α)) (a n : Nat) : List (Nat × α) := m.filter fun e => a ≤ e.1 && e.1 < a + n

/-- HEAD and ACK of every mailbox queue. -/
def State.canHeads (s : State) : List (Nat × Nat × Nat) :=
  s.cans.zipIdx.flatMap fun e => e.1.boxes.zipIdx.map fun b => (16 * e.2 + b.2, b.1.head.toNat, b.1.ack.toNat)

/-- The points that the Dispatcher's results go to (08 R411). -/
def State.dspPoints (s : State) : List Nat :=
  ((((List.range 64).map fun i => s.cfg (0x2900 + i) 3) ++ (List.range 16).map fun i => s.cfg (0x2940 + i) 3).filter fun p => !pointNone p).map pointAddr

/-- What the Dispatcher hands to the standby at a major Landing: its result in force, no evaluation (12 R598; 08 R413). -/
def State.dspInForce (s : State) : Dsp := { s.dsp with running := none, waiting := none, modeAt := none }

/-- The delta of a Landing with its number. -/
def State.deltaOf (s : State) (k landing : Nat) (major swapped : Bool) : Delta :=
  let d := (s.planFor (s.task k)).tasks.getD k default
  { seq := (s.pair.seqTx.getD 5 0 + 1) % 2 ^ 32, task := k, landing := landing
    bits := (d.outputs.filter fun x => spaceIsBit x.space).flatMap fun x => part s.hall.bits (spaceBase x.space + x.off) x.len
    outs := d.outputs
    words := (d.outputs.filter fun x => !spaceIsBit x.space).flatMap fun x => part s.hall.words (spaceBase x.space + x.off) x.len
    written := if major then s.dspPoints.map fun a => (a, sget 0 s.hall.words a) else []
    image := { s.task k with landings := landing }
    major := major
    dsp := if major then some s.dspInForce else none
    fallback := if major then s.tasks.fallback else 0
    swapAt := s.plans.swapAt
    swapped := swapped, forces := if major then some s.forces else none
    outCount := s.net.outCount, msgCount := s.net.msgCount, bamcon := some s.net.bamcon
    records := if major then s.nvm.filling.items else []
    pages := s.pair.pageOut
    canHeads := s.canHeads
    switchMark := major && s.pair.switching = 1 && s.pair.switchAt = landing }

/-- What this module's HELLO and PARTNER describe. -/
def State.selfPartner (s : State) : Partner :=
  { serial := moduleSerial, fw := s.fwVersion, schema := s.plan.schema, digest := digestNo s.plan.digest, mode := modeNo s.mode
    role := s.pair.role, station := s.pair.roleSel, score := scoreOf s.findings, findings := s.findings }

def State.hello (s : State) : CorMsg := .hello ⟨1, 1, s.selfPartner⟩

/-- The active module declares the standby lagging and goes on alone: 1 behind, 2 buffer full; its HELLO lets the standby rejoin (12 R607). -/
def State.lagging (s : State) (cause : Nat) : State :=
  let s := (s.updPair fun p => { p with state := 2, buffer := [], resyncing := false, switching := 0, switchAt := 0 }).ev 0x7004 (leBytes 1 cause)
  s.send 7 s.hello

/-- The start of the major frame after the present instant. -/
def State.nextFrame (s : State) : Nat :=
  let f := s.majorFrame
  if f = 0 then s.now else s.tasks.runAt + ((s.now - s.tasks.runAt) / f + 1) * f

/-- The delta is sealed and queued to the Corridor; it is held until acknowledged (12 R607). -/
def State.sealDelta (s : State) (k landing : Nat) (major swapped : Bool) : State :=
  if !s.deltasCross k then s
  else
    let d := s.deltaOf k landing major swapped
    let n := s.deltaSize k
    let s := s.send 5 (.delta d)
    let s := s.updPair fun p =>
      let b := p.buffer ++ [(d, n)]
      { p with buffer := b, pageOut := [], peak := max p.peak ((b.map (·.2)).sum), switching := if d.switchMark then 2 else p.switching
               switchF := if d.switchMark then s.nextFrame else p.switchF }
    if 4194304 < (s.pair.buffer.map (·.2)).sum then s.lagging 2 else s

/-! The end of a Landing -/

/-- ARMF commands of a Landing are released; on the active module they travel as COMMAND records ahead of the delta (05 R284; 12
R597). A standby has them from there. -/
def State.releaseArmf (s : State) (k : Nat) : State :=
  if s.pair.role = 2 then s
  else
    let l := (s.task k).armf
    let s := s.updTasks fun v => { v with armf := v.armf ++ l.map fun c => (c.1, c.2, s.now + 4000) }
    if s.pair.role = 1 then l.foldl (fun s c => s.send 3 (.command (.flCmd c.1 c.2 (s.time + 4000)))) s else s

/-- What the flags of an execution leave behind (05 R277, R288, R289, R301). -/
def State.landingFlags (s : State) (k : Nat) : State :=
  let x := s.task k
  let g := x.on
  let bnd := x.bnd
  let s := s.updGallery g fun y => { y with
    flagsSeen := addFlags y.flagsSeen x.flags, bounds := if bnd then holdMax 32 (y.bounds + 1) else y.bounds }
  let s := match x.bound with
    | some a => s.ev 0x3022 (leBytes 1 k ++ leBytes 1 g ++ leBytes 4 a.toNat)
    | none => s
  let s := if x.evtDrops ≠ 0 then s.ev 0x3023 (leBytes 1 g ++ leBytes 4 x.evtDrops) else s
  x.msgDrops.foldl (fun s d => s.ev 0x3024 (leBytes 1 k ++ leBytes 1 d.1 ++ leBytes 2 d.2)) s

/-- The execution of task k ends: its time is kept and its Landing count becomes `landing`. -/
def State.endExecution (s : State) (k landing exec : Nat) : State :=
  s.updTask k fun x => { x with
    phase := .idle, landings := landing, execLast := holdMax 32 exec, execMax := max x.execMax (holdMax 32 exec)
    armf := [], segment := 0, pc := 0, old := 0 }

/-- A Landing that is not the major Landing (04 R204). -/
def State.landTask (s : State) (k : Nat) : State :=
  let s := s.updTask k (settleLate (coreClock s.now))
  let x := s.task k
  let d := (s.planFor x).tasks.getD k default
  let own := s.pair.role ≠ 2 || d.kind ≠ 2
  let n := if own then holdMax 64 (x.landings + 1) else x.landings
  let s := (s.copyBack d.outputs x).copyTakes d.outputs
  let s := if d.kind = 2 then s.result 3 (leBytes 1 k ++ d.outputs.flatMap fun o => s.getRange (sectionRange o))
    else d.outputs.foldl (fun s o => s.forwardRange (sectionRange o)) s
  let s := s.outputsLeave k d.outputs
  let s := (s.landingFlags k).releaseArmf k
  (((s.sealDelta k n false false).pushes k n)).endExecution k n (s.now - x.first)

/-- Every operation of task k is done, and the Hall serves its copy-back (04 R201, 05 R282). -/
def State.landReady (s : State) (k : Nat) : Bool :=
  (s.task k).phase = .landing && taskQuiet (s.gallery (s.task k).on).busy k (s.now / 2) && s.copyBackTurn k

/-- LAND: task k, other than T0, lands (04 R204). -/
def execLand (t k : Nat) (s : State) : Outcome :=
  actUnit t "task" k 64 (fun s => s.onTime k fun s =>
    s.when (s.live && k ≠ 0 && s.landReady k && !(s.gallery (s.task k).on).failed) fun s => s.landTask k) s

/-! The major Landing (01 R25) -/

/-- Retained chunks that changed since the last major Landing, for D(I) of 16 R745; kept for 24 h of Run. -/
def State.noteDirty (s : State) (img : Bytes) : State :=
  s.updSup fun v => { v with ledger := { v.ledger with
    seen := img
    dirtied := v.ledger.dirtied.filter (fun e => s.runTime < e.2.1 + 86400000000000)
      ++ (if v.ledger.seen.isEmpty then [] else dirtyChunks img v.ledger.seen).map fun k => (s.now, s.runTime, k) } }

/-- A checkpoint is due at this Landing (04 R227). -/
def State.ckptDue (s : State) : Bool :=
  s.plan.retainBytes ≠ 0 && s.nvm.ckptAt + s.ckptInterval * 1000000 ≤ s.now

/-- A new CHECKPOINT_INT takes effect (16 R745). -/
def State.ckptChange (s : State) : State :=
  match s.sup.ledger.ckptNext with
  | none => s
  | some n =>
    ((s.updSup fun v => { v with ledger := { v.ledger with ckptInt := n, ckptNext := none } }).marginActs 4).ev 0xB011
      (leBytes 4 n ++ leBytes 4 (f32Of s.sup.power.holdMs).toNat)

/-- Points that a delta adds take their Plan initial values (04 R219). -/
def State.addPoints (s : State) (p : Plan) (l : List Range) : State :=
  let ib := initBits p
  let iw := initWords p
  l.foldl (fun s r =>
    let a := spaceBase r.space + r.off
    if spaceIsBit r.space then { s with hall := { s.hall with bits := sblit s.hall.bits ib a a r.len } }
    else { s with hall := { s.hall with words := sblit s.hall.words iw a a r.len } }) s

/-- The edit Plan becomes the active one at a Landing; executions in progress finish with the old one, and a changed timetable waits for the
next major frame (04 R218, R219; 06 R338). -/
def State.swapEdit (s : State) (landing : Nat) : State :=
  match s.plans.staged with
  | none => s
  | some p =>
    let next := s.nextFrame
    let moved := match p.delta with | some d => d.timetableChanged | none => false
    let s := s.updPlans fun v => { v with
      slotPlan := if moved then v.active else none, slotsUntil := next
      prev := (match v.active with | some a => [a] | none => []) ++ v.prev, active := some p, slot := 1 - v.slot, swaps := holdMax 32 (v.swaps + 1), lastSwap := landing, editState := 4
      swapAt := 0, partnerReady := false, editing := false, staged := none, stageState := 0 }
    let s := s.updTasks fun v => { v with tasks := v.tasks.map fun x => if x.phase = .idle then x else { x with old := x.old + 1 } }
    let s := s.updPlans fun v => { v with prev := v.prev.take ((s.tasks.tasks.map (·.old)).foldl max 0) }
    let s := s.addPoints p (match p.delta with | some d => d.added | none => [])
    (s.leaveEdit).ev 0xA014 (leBytes 8 landing ++ leBytes 8 (digestNo p.digest))

/-- Step 5: an edit named for this Landing swaps (06 R338). Answers whether it did. -/
def State.swapStep (s : State) (landing : Nat) : State × Bool :=
  if s.plans.editState = 3 && s.plans.swapAt = landing then
    ((s.swapEdit landing).when (s.pair.role = 1) fun s => s.send 3 (.command .swap), true)
  else (s, false)

/-- A fallback takes effect at this Landing; its slot lists run from the next frame (06 R327, R331). -/
def State.fallbackStep (s : State) (landing : Nat) : State :=
  let f := s.tasks.fallbackNext
  if f = 0 then s
  else
    let s := (s.updTasks fun v => { v with fallback := f, fallbackNext := 0, tableAt := s.nextFrame }).ev 0x3030 (leBytes 1 (f - 1) ++ leBytes 8 landing)
    s.when (s.pair.role = 1) fun s => s.send 3 (.command (.fallback f))

/-- The lockstep class as a BULK snapshot holds it. -/
def State.lockstep (s : State) (landing : Nat) : Lockstep :=
  let pos := s.tasks.tasks.zipIdx.filter fun e => (s.plan.tasks.getD e.2 default).kind = 2
  ⟨landing, s.time, (s.time : Int) - ((s.now : Int) - s.line.gridAt), s.line, s.treads, s.loops, s.field.dio, s.field.aio, pos.map fun e => (e.2, e.1), s.gallery 3, s.tasks.launches,
    s.params.filter fun e => isPlanKey e.1⟩

/-- Both classes (12 R605). -/
def State.snapshot (s : State) (landing : Nat) : Snapshot :=
  ⟨s.lockstep landing, s.hall, s.tasks, s.dspInForce⟩

/-- A partner that joins or resynchronises has its snapshot at this Landing (12 R601, R605). -/
def State.bulkStep (s : State) (landing : Nat) : State :=
  if s.pair.role = 1 && s.pair.state = 3 && s.pair.joinAt = 0 then
    (s.updPair fun p => { p with joinAt := landing, applied := landing, buffer := [] }).send 8
      (if s.pair.resyncing then .resync (s.lockstep landing) else .snapshot (s.snapshot landing))
  else s

/-- At Landing SWAP_AT − 2 the standby must have reported the same digest (06 R337). -/
def State.partnerCheck (s : State) (landing : Nat) : State :=
  if s.plans.editState = 3 && landing + 2 = s.plans.swapAt && s.partnerPresent && !s.degraded && s.pair.role = 1 && !s.plans.partnerReady then
    (s.cancelEdit 0x10).leaveEdit
  else s

/-- What the Dispatcher wrote at this Landing, against its state before, reaches its field outputs and the standby, and the OFFSETs that it set
become a COMMAND record (09 R449; 12 R595, R597). -/
def State.dspOutputs (s : State) (old : Dsp) : State :=
  if s.dsp = old then s
  else
    let ps := s.dspPoints
    let s := ps.foldl (fun s a => s.forwardPoint false a) (s.takeOutputs (fun _ => false) fun a => ps.contains a)
    let ls := (((old.inForce.toList ++ s.dsp.inForce.toList).flatMap (·.outs)).filter fun (o : DspOut) => o.kind = 2).map (·.loop)
    s.when (s.pair.role = 1 && !ls.isEmpty) fun s => s.send 3 (.command (.offsets (ls.map fun n => (n, (s.loop n).offset))))

/-- Steps 2 to 8 of the major Landing; `img` is the retained image after step 1. -/
def State.majorSteps (s : State) (img : Bytes) (outs : List Section) (exec : Option Nat) : State :=
  let n := holdMax 64 ((s.task 0).landings + 1)
  let s := s.outputsLeave 0 outs
  let s := s.applyStaged.presetsAtLanding
  let s := (s.dspLanding n).dspOutputs s.dsp
  let (s, swapped) := s.swapStep n
  let s := (s.fallbackStep n).ckptChange
  let s := (s.releaseArmf 0).sealDelta 0 n true swapped
  let s := s.pushes 0 n
  let s := match exec with
    | some e => s.endExecution 0 n e
    | none => s.updTask 0 fun x => { x with landings := n }
  let s := s.bulkStep n
  let s := s.commitTrigger
  let s :=
    if swapped then
      let p := s.plan
      (s.privAppend 8 0 (actPlan s.plans.slot p.digest)).checkpointOf p (s.retainedImage p)
    else if s.ckptDue then s.checkpointOf s.plan img
    else s
  let s := (s.partnerCheck n).dspStart n (s.majorFrame / 1000)
  let s := s.when (s.sup.fw.pauseNext && s.mode = .run) State.pauseStart
  if s.pair.role = 1 && s.pair.state = 4 && s.pair.applied + 2 < n then s.lagging 1 else s

/-- The major Landing (01 R25). -/
def State.majorLanding (s : State) : State :=
  let s := s.updTask 0 (settleLate (coreClock s.now))
  let x := s.task 0
  let p := s.planFor x
  let d := p.tasks.getD 0 default
  let s := (s.copyBack d.outputs x).copyTakes d.outputs
  let img := s.retainedImage s.plan
  let s := d.outputs.foldl (fun s o => s.forwardRange (sectionRange o)) (s.noteDirty img)
  (s.landingFlags 0).majorSteps img d.outputs (some (s.now - x.first))

/-- MAJOR_LANDING: T0 lands (01 R25). -/
def execMajorLanding (t : Nat) (s : State) : Outcome :=
  act t (fun s => s.when (s.live && s.landReady 0 && !(s.gallery (s.task 0).on).failed) State.majorLanding) s

/-- SUBSTITUTE_MAJOR_LANDING: T0's certified finish while its Gallery has failed: steps 2 to 8, no copy-back (06 R328). -/
def execSubstituteMajorLanding (t : Nat) (s : State) : Outcome :=
  act t (fun s =>
    let d := s.plan.tasks.getD 0 default
    let at_ := s.tasks.runAt + d.finish
    s.when (s.running && (s.gallery (s.homeOf 0)).failed && s.majorFrame ≠ 0 && at_ ≤ s.now && (s.now - at_) % s.majorFrame = 0) fun s =>
      s.majorSteps (s.retainedImage s.plan) [] none) s

/-- APPLY_POINT: in Stop, and in Update entered from Stop, every 10 ms of the module's own time: step 3 of R25, and what else the spec
lets take effect at a major Landing: presets, MODE 0 of the Dispatcher, CHECKPOINT_INT (01 R30; log 144). -/
def execApplyPoint (t : Nat) (s : State) : Outcome :=
  act t (fun s =>
    s.when (s.live && s.base = .stop && s.mono % 10000000 = 0) fun s =>
      let s := s.applyStaged.presetsAtLanding
      (s.when s.dsp.offNext fun s => (s.dspLanding 0).dspOutputs s.dsp).ckptChange) s

/-- The tasks of which a Landing waits in the queue and falls in the present core clock (log 137). -/
def State.landingNow (s : State) : List Nat :=
  (s.pending.filter fun c => coreClock (max s.now c.instant) = coreClock s.now).filterMap fun c =>
    match c with
    | .land _ k => if (s.task k).phase = .landing then some k else none
    | .majorLanding _ => if (s.task 0).phase = .landing then some 0 else none
    | _ => none

/-- An ACK that a copy-back of the present core clock writes applies before a frame for the queue (11 R578). -/
def State.acksNow (s : State) : State :=
  s.landingNow.foldl (fun s k =>
    let x := s.task k
    let outs := ((s.planFor x).tasks.getD k default).outputs
    let ahead := s.copyBack outs x
    let inR (a : Nat) : Bool := outs.any fun o => !spaceIsBit o.space && o.space ≠ .hs && spaceBase o.space + o.off ≤ a && a < spaceBase o.space + o.off + o.len
    { s with cans := (ahead.takeAcks inR).cans }) s

/-- CAN_LIST_FILTER: the filter list of channel n has compared a frame, which its queue now takes (11 R560, R561, R578). -/
def execCanListFilter (t n : Nat) (s : State) : Outcome :=
  actUnit t "CAN" n 4 (fun s => s.when (s.canPowered n && s.base ≠ .standby) fun s => s.acksNow.canFilter n) s

/-- The record of a user event, with the stamps of its issue (05 R288, R789; 16 R749). -/
def State.userEvent (s : State) (e : UserEvt) : State := s.occur e.rec_

/-- EVT_DRAIN: one record from each Gallery queue that is not empty (05 R789). -/
def execEvtDrain (t : Nat) (s : State) : Outcome :=
  act t (fun s =>
    s.when s.live fun s => (List.range 4).foldl (fun s g =>
      match (s.gallery g).events with
      | [] => s
      | e :: rest => (s.updGallery g fun y => { y with events := rest }).userEvent e) s) s

end Sys2Proof.Machine
end

