-- ==== Sys2Proof/Machine/PairOps.lean ====
section
/-! DEFINITION. The pair: link, roles, joining, forwarding, deltas, comparison, loss and takeover, switchover, health (12 R587 to R621). -/
namespace Sys2Proof.Machine

/-! Frames (12 R589, R591) -/

/-- The Corridor of a paired module carries frames (12 R588). -/
def State.linked (s : State) : Bool := s.live && s.mode ≠ .boot && s.paired && s.pair.sense

/-- A frame reaches the Corridor of a paired module: discarded when its CRC fails, else counted and acted on. -/
def State.frame (s : State) (crc : Bool) (f : State → State) : State :=
  if !s.linked then s
  else if crc then f (s.updPair fun p => { p with framesRx := holdMax 64 (p.framesRx + 1) })
  else s.updPair fun p => { p with crcErrors := holdMax 32 (p.crcErrors + 1) }

/-- Take the SEQ of a class: none for a duplicate, else whether it follows the last one. The store holds last + 1; 0 is none yet. -/
def State.takeSeq (s : State) (cls seq : Nat) : Option (State × Bool) :=
  let v := s.pair.seqRx.getD cls 0
  let s' := s.updPair fun p => { p with seqRx := upd p.seqRx cls fun _ => seq + 1 }
  if v = 0 then some (s', true)
  else
    let d := (seq + 2 ^ 32 - v % 2 ^ 32) % 2 ^ 32
    if d = 0 then some (s', true) else if d < 2 ^ 31 then some (s', false) else none

/-- A frame of a numbered class: a duplicate is discarded and not counted as accepted; `f` is told whether SEQ follows (12 R591, R624). -/
def State.frameSeq (s : State) (crc : Bool) (cls seq : Nat) (f : Bool → State → State) : State :=
  if crc && s.linked && (s.takeSeq cls seq).isNone then s
  else s.frame crc fun s => match s.takeSeq cls seq with | some (s, inOrder) => f inOrder s | none => s

/-- PAIR_STATE 4 is reached (12 R605; 14 R693). The active module keeps the results that it has from the snapshot on (R600). -/
def State.reachHot (s : State) : State :=
  (s.updPair fun p => { p with state := 4, resyncing := false, hotAt := s.time, compare := if p.role = 1 then p.compare else [] }).updSup fun v => { v with fw := { v.fw with hotSeen := true } }

/-! HELLO (12 R594) -/

/-- ROLE changes, with its cause: 1 start, 2 takeover, 3 switchover, 4 handover (12 R626). -/
def State.setRole (s : State) (role cause : Nat) : State :=
  if s.pair.role = role then s
  else (s.updPair fun p => { p with role := role }).ev 0x7001 (leBytes 1 role ++ leBytes 1 cause)

/-- The active module of a pair, alone until a partner is hot (12 R604). -/
def State.activeAlone (s : State) : State := (s.setRole 1 1).updPair fun p => { p with state := 2 }

/-- A pending switchover is cancelled: 1 divergence, 2 lane, 3 loss, 4 edit (12 R615). -/
def State.cancelSwitch (s : State) (cause : Nat) : State :=
  if 1 ≤ s.pair.switching && s.pair.switching ≤ 3 then
    (s.updPair fun p => { p with switching := 0, switchAt := 0 }).ev 0x7012 (leBytes 1 cause)
  else s

/-- The active module lets its partner join or resynchronise at the next major Landing; a resynchronisation is due to a divergence, which
cancels a switchover (12 R601, R605, R615). -/
def State.letJoin (s : State) (lockstep : Bool) : State :=
  let s := s.when (s.pair.state = 4) fun s => s.ev 0x7004 (leBytes 1 4)
  let s := s.when lockstep fun s => s.cancelSwitch 1
  s.updPair fun p => { p with state := 3, joinAt := 0, resyncing := lockstep, compare := [], pageOut := if lockstep then p.pageOut else [] }

/-- A module asks its active partner for a snapshot; what crosses until then is buffered (12 R601, R605). -/
def State.askJoin (s : State) (lockstep : Bool) : State :=
  (s.updPair fun p => { p with
    state := 3, resyncing := lockstep, lag := if lockstep then p.lag else [], early := []
    seqRx := if lockstep then p.seqRx else List.replicate 10 0 }).send 7 (.join lockstep)

/-- Enter Standby by row 8 of R673: the watchdogs of G0 to G2 are disarmed (15 R713). -/
def State.enterStandby (s : State) (row cause : Nat) : State :=
  let s := [1, 2, 3].foldl State.wdtDisarm s
  (s.setRole 2 cause).when (s.mode ≠ .standby) fun s => s.changeMode .standby row

/-- A partner of equal SCHEMA: the active one lets it join, the other asks (12 R604, R605). -/
def State.pairWarm (s : State) (h : Partner) : State :=
  if s.pair.role = 1 then s.letJoin false
  else if s.stopHeld || (s.mode ≠ .stop && s.mode ≠ .standby) then s
  else if h.role = 1 || s.pair.role = 2 then s.askJoin false
  else
    let clash := h.station = s.pair.roleSel
    let s := s.when clash fun s => s.ev 0x7042 (leBytes 1 s.pair.roleSel)
    let mine := if clash then leNat moduleSerial.reverse < leNat h.serial.reverse else s.pair.roleSel = 0
    if mine then s.activeAlone.letJoin false else s.askJoin false

/-- A partner of another SCHEMA: the pair is cold, and the module that is not active stands by (12 R620; 14 R673 row 8). -/
def State.pairCold (s : State) (h : Partner) : State :=
  let s := (s.updPair fun p => { p with state := 6, resyncing := false }).ev 0x7040 (leBytes 8 s.plan.schema ++ leBytes 8 h.schema)
  if s.pair.role = 1 || s.stopHeld || (s.mode ≠ .stop && s.mode ≠ .standby) then s
  else if h.role = 1 || s.pair.role = 2 then s.enterStandby 8 1
  else
    let clash := h.station = s.pair.roleSel
    let s := s.when clash fun s => s.ev 0x7042 (leBytes 1 s.pair.roleSel)
    let mine := if clash then leNat moduleSerial.reverse < leNat h.serial.reverse else s.pair.roleSel = 0
    if mine then s.setRole 1 1 else s.enterStandby 8 1

/-- CORRIDOR_HELLO: the partner's HELLO (12 R594, R604, R620). -/
def execCorridorHello (t : Nat) (crc : Bool) (h : CorHello) (s : State) : Outcome :=
  act t (fun s => s.frame crc fun s =>
    let s := s.updPair fun p => { p with partner := some h.partner }
    if h.major ≠ 1 then (s.updPair fun p => { p with state := 0, minor := 0 }).ev 0x7041 (leBytes 1 1 ++ leBytes 1 h.major)
    else
      let s := s.updPair fun p => { p with minor := min 1 h.minor, silent := false, seqRx := List.replicate 10 0 }
      if h.partner.schema = s.plan.schema then s.pairWarm h.partner else s.pairCold h.partner) s

/-- JOIN_WAIT_EXPIRED: no link within JOIN_WAIT of the end of Boot (12 R604). -/
def execJoinWaitExpired (t : Nat) (s : State) : Outcome :=
  act t (fun s =>
    s.when (s.live && s.mode = .stop && s.paired && s.pair.role = 0 && !s.corridorUp && s.pair.retryAt.isNone
        && s.pair.waitAt + 1000000 * s.cfg 0x1400 8 ≤ s.now) fun s =>
      if s.pair.roleSel = 0 || !s.pair.sense then s.activeAlone
      else (s.updPair fun p => { p with retryAt := some s.now }).ev 0x7003 (leBytes 1 3)) s

/-- STATION_B_RETRY: every 1 s station B takes the table of R604 again; without a powered partner it becomes active (DEDUCED). -/
def execStationBRetry (t : Nat) (s : State) : Outcome :=
  act t (fun s =>
    let due : Bool := match s.pair.retryAt with | some a => a + 1000000000 ≤ s.now | none => false
    s.when (s.live && s.mode = .stop && s.paired && s.pair.role = 0 && s.pair.roleSel = 1 && !s.corridorUp && due) fun s =>
      let s := s.updPair fun p => { p with retryAt := some s.now }
      if s.pair.sense then s else s.activeAlone) s

/-! The lockstep class on the standby (12 R595 to R597, R601) -/

/-- One forwarded item, or one shadow sample at a takeover, acts on the lockstep class. -/
def State.takeItem (s : State) : FwdItem → State
  | .encSlot n c last flags at_ =>
    let t := s.instantOf (at_ + last)
    let s := if c = 0 then s else s.countStep n c (s.pinTime n t)
    let s := s.when (bitAt flags 0) fun s => s.zEdge n t
    let s := s.when (bitAt flags 1) fun s => (s.faultEnc n).ev 0x2001 (leBytes 1 n ++ leBytes 1 (s.lineFault n))
    s.when (bitAt flags 2) fun s => s.quadError n
  | .ssi n v err par at_ => s.ssiRead n (s.instantOf at_) v err par
  | .dio n level _ => s.dioSample n level
  | .analog n mA st => s.aioSample n (f32Val mA) (bitAt st 7)
  | .word a v => (s.putWord a v).takeOutputs (fun _ => false) fun b => b = a
  | .bit a v => (s.putBit a v).takeOutputs (fun b => b = a) fun _ => false

/-- The standby follows the active module's lockstep class. -/
def State.follows (s : State) : Bool := s.pair.role = 2 && s.base = .standby && (s.pair.state = 3 || s.pair.state = 4)

/-- The stamp at which a forwarded item acts on the active module: that of a DIO edge lies its filter time back (12 R595, R596; 09 R435). -/
def State.itemStamp (s : State) (stamp : Nat) : FwdItem → Nat
  | .dio n _ at_ => at_ + 1000 * s.dioCfg n 3
  | _ => stamp

/-- An entry of the lagged timeline takes its place: by the position clock of its stamp, then by arrival (12 R596, R597). -/
def lagInsert (e : Nat × LagItem) : List (Nat × LagItem) → List (Nat × LagItem)
  | [] => [e]
  | x :: l => if posClock e.1 < posClock x.1 then e :: x :: l else x :: lagInsert e l

/-- A module that follows or joins keeps what crosses until its instant on the lagged timeline (12 R596, R597, R605). -/
def State.toLag (s : State) (l : List (Nat × LagItem)) : State :=
  s.when (s.pair.role ≠ 1 && (s.pair.state = 3 || s.pair.state = 4)) fun s =>
    s.updPair fun p => { p with lag := l.foldl (fun q e => lagInsert e q) p.lag }

/-- A forwarding gap or a divergence: the standby asks for a lockstep snapshot (12 R601). -/
def State.lockstepLost (s : State) : State := if s.pair.state = 4 then s.askJoin true else s

/-- PARTNER_JOINED: the standby reports JOIN_DONE (12 R605). -/
def execPartnerJoined (t : Nat) (crc : Bool) (s : State) : Outcome :=
  act t (fun s => s.frame crc fun s =>
    s.when (s.pair.role = 1 && s.pair.state = 3 && s.pair.joinAt ≠ 0) fun s =>
      let full := !s.pair.resyncing
      let s := s.reachHot
      s.when full fun s => s.ev 0x7002 (leBytes 8 (match s.pair.partner with | some h => h.digest | none => 0))) s

/-! Deltas (12 R599, R607) -/

/-- DIGEST number of the Plan that an edit holds verified; 0 none. -/
def State.verifiedDigest (s : State) : Nat :=
  match s.plans.staged with
  | some p => if s.plans.editState = 2 || s.plans.editState = 3 then digestNo p.digest else 0
  | none => 0

/-- CORRIDOR_NAK: missing deltas are repeated from the buffer (12 R591). -/
def execCorridorNak (t : Nat) (crc : Bool) (missing : List Nat) (s : State) : Outcome :=
  act t (fun s => s.frame crc fun s =>
    (s.pair.buffer.filter fun e => missing.contains e.1.seq).foldl (fun s e =>
      if s.corridorUp then
        (s.updPair fun p => { p with framesTx := holdMax 64 (p.framesTx + 1) }).emit (.corridor s.time (.delta e.1))
      else s) s) s

/-- CORRIDOR_ACK: deltas up to `seq` are acknowledged; `verified` is the digest of the edit Plan that the standby holds verified
(12 R607, 06 R337). -/
def execCorridorAck (t : Nat) (crc : Bool) (seq verified : Nat) (s : State) : Outcome :=
  act t (fun s => s.frame crc fun s =>
    s.when (s.pair.role = 1) fun s =>
      let done (e : Delta × Nat) : Bool := (seq + 2 ^ 32 - e.1.seq) % 2 ^ 32 < 2 ^ 31
      let last := (s.pair.buffer.filter fun e => done e && e.1.major).foldl (fun m e => max m e.1.landing) s.pair.applied
      let s := s.updPair fun p => { p with buffer := p.buffer.filter fun e => !done e, applied := last }
      let ready := verified ≠ 0 && verified = s.verifiedDigest
      s.updPlans fun v => { v with partnerReady := ready }) s

/-! Comparing (12 R600 to R602) -/

/-- The five CRC values of the results in an interval of 100 µs that ends at a stamp. -/
def compareCrcs (l : List CompareItem) (at_ : Nat) : List Word :=
  (List.range 5).map fun c =>
    crc32c ((l.filter fun (x : CompareItem) => x.cls = c && at_ ≤ x.stamp + 100000 && x.stamp < at_).flatMap (·.data))

/-- COMPARE_OFF: the DIGESTs differ (12 R618, R620). -/
def State.compareOff (s : State) : Bool := match s.pair.partner with | some h => h.digest ≠ digestNo s.plan.digest | none => true

/-- COMPARE_TX: an interval of 100 µs of pair time ends on the active module (12 R600). -/
def execCompareTx (t : Nat) (s : State) : Outcome :=
  act t (fun s =>
    s.when (s.live && s.pair.role = 1 && s.pair.state = 4 && !s.compareOff) fun s =>
      let at_ := s.time / 100000 * 100000
      let crcs := compareCrcs s.pair.compare at_
      (s.updPair fun p => { p with compare := p.compare.filter fun x => at_ ≤ x.stamp }).send 4 (.compare at_ crcs)) s

/-- COMPARE: a COMPARE record meets the standby's own values, for an interval since it is hot (12 R600, R621). -/
def execCompare (t : Nat) (crc : Bool) (at_ : Nat) (crcs : List Word) (s : State) : Outcome :=
  act t (fun s => s.frame crc fun s =>
    s.when (s.follows && s.pair.state = 4 && !s.compareOff && s.pair.hotAt + 100000 ≤ at_) fun s =>
      let own := compareCrcs s.pair.compare at_
      let bad := ((List.range 5).map fun c => if own.getD c 0 = crcs.getD c 0 then 0 else 2 ^ c).sum
      let s := s.updPair fun p => { p with
        intervals := holdMax 64 (p.intervals + 1), compare := p.compare.filter fun x => at_ ≤ x.stamp }
      if bad = 0 then s
      else
        let s := s.updPair fun p => { p with mismatches := holdMax 32 (p.mismatches + 1), lastClasses := bad, divergedAt := some s.now }
        ((s.ev 0x7030 (leBytes 1 bad ++ leBytes 8 (at_ - 100000))).cancelSwitch 1).lockstepLost) s

/-- Sum of an input's counts in a buffer between two stamps. -/
def bufCount (b : List (Nat × FwdItem)) (n lo hi : Nat) : Int :=
  (b.map fun e => match e.2 with | .encSlot m c _ _ _ => if m = n && lo ≤ e.1 && e.1 < hi then c else 0 | _ => 0).sum

/-- SHADOW_CHECK: the standby compares its own inputs with the forwarded ones over 100 µs (12 R602). -/
def execShadowCheck (t : Nat) (s : State) : Outcome :=
  act t (fun s =>
    s.when (s.live && s.follows && s.pair.state = 4) fun s =>
      let hi := s.time - 3000
      let lo := hi - 100000
      let off (n : Nat) : Bool := 1 < (bufCount s.pair.shadowBuf n lo hi - bufCount s.pair.fwdBuf n lo hi).natAbs
      let encs := (List.range 8).countP off
      let since (n : Nat) : Option Nat :=
        if s.dioCfg n 1 = 1 && s.pair.shadowDio.getD n false ≠ (s.dio n).level then some ((s.pair.dioDiff.getD n none).getD s.now) else none
      let l := (List.range 48).map since
      let held (x : Option Nat) : Bool := match x with | some a => a + 1000000 ≤ s.now | none => false
      let dios := l.countP held
      s.updPair fun p => { p with
        shadowDiff := holdMax 32 (p.shadowDiff + encs + dios)
        shadowAt := if encs + dios = 0 then p.shadowAt else some s.now
        dioDiff := l.map fun x => if held x then some s.now else x }) s

/-- DRIVER_TEST: a standby's self-test of a driver ends (12 R617). The finding stays until reset (DESIGN CHOICE). -/
def execDriverTest (t : Nat) (pass : Bool) (s : State) : Outcome :=
  act t (fun s =>
    s.when (s.live && s.base = .standby && !pass) fun s =>
      s.updPair fun p => { p with loopback := true, loopbackFail := holdMax 32 (p.loopbackFail + 1) }) s

/-! Loss and takeover (12 R608 to R612, R620) -/

/-- DIO and TRG outputs are driven from the present state (12 R609 step 3). -/
def State.driveDigital (s : State) : State :=
  (List.range 16).foldl (fun s c => s.trgSet c (s.treads.trgs.getD c default).level) s.dioDriveAll
/-- All outputs are. -/
def State.driveAll (s : State) : State := (List.range 8).foldl State.aioDrive s.driveDigital

/-- A lane goes down or comes up (12 R593); one that locks again resynchronises its crossings (01 R36; log 145). -/
def State.laneSet (s : State) (lane : Nat) (up : Bool) : State :=
  if (s.pair.lanes.getD lane default).up = up then s
  else
    let s := (s.updPair fun p => { p with lanes := upd p.lanes lane fun x => { x with up := up, lastAt := s.now } }).ev 0x7020
      (leBytes 1 lane ++ leBytes 1 (ofBool up))
    s.when up fun s => (s.resync 10 0).resync 11 0

/-- LANE_CHANGED: a lane has delivered no valid frame for 20 µs, or delivers frames again (12 R588, R593, R594, R615). -/
def execLaneChanged (t lane : Nat) (up : Bool) (s : State) : Outcome :=
  actUnit t "Corridor lane" lane 2 (fun s =>
    s.when (s.live && s.mode ≠ .boot && s.paired && s.pair.sense && (s.pair.lanes.getD lane default).up ≠ up) fun s =>
      let first := up && !s.corridorUp
      let s := s.laneSet lane up
      let s := if up then s else s.cancelSwitch 2
      if first then
        let s := s.updPair fun p => { p with state := if p.state = 0 || p.state = 2 && p.role = 0 then 1 else p.state, silent := false }
        s.send 7 s.hello
      else s) s

/-- Corridor silence on the active module; one that was handing over is as a single module (12 R612; 14 R677; the latter DEDUCED). -/
def State.partnerLost (s : State) (cause : Nat) : State :=
  if s.pair.role = 1 && s.pair.state ≠ 2 && s.pair.state ≠ 0 then
    let s := s.cancelSwitch 3
    let after := s.pair.after
    let s := (s.updPair fun p => { p with state := 2, buffer := [], resyncing := false, switching := 0, after := 0 }).ev 0x7003 (leBytes 1 cause)
    s.when (after ≠ 0) fun s => s.enterFault after
  else s

/-! Planned switchover and handover (12 R613 to R616) -/

/-- A switchover is accepted (12 R613); on the standby the request travels as SWITCH. -/
def State.switchAccepts (s : State) : Bool :=
  let score := if s.pair.role = 2 then scoreOf s.findings else match s.pair.partner with | some h => h.score | none => 0
  s.pair.state = 4 && (s.pair.role = 1 || s.pair.role = 2) && s.cfg 0x1400 0x0C ≤ score && s.plans.editState ≠ 3 && s.pair.switching = 0

def State.switchRequest (s : State) : State :=
  let n := (s.task 0).landings + 3
  if s.pair.role = 2 then s.send 7 (.switch_ n)
  else (s.updPair fun p => { p with switching := 1, switchAt := n }).ev 0x7011 (leBytes 1 0 ++ leBytes 8 n)

/-- SWITCH_READY: the standby has applied every delta up to SWITCH_AT; the roles change at F (12 R614). -/
def execSwitchReady (t : Nat) (crc : Bool) (s : State) : Outcome :=
  act t (fun s => s.frame crc fun s =>
    s.when (s.pair.role = 1 && s.pair.switching = 2) fun s => s.updPair fun p => { p with switching := 3 }) s

/-! Keepalive and health (12 R590, R592, R618, R619) -/

/-- KEEPALIVE_TX: a lane has been idle for 1 µs (12 R590). -/
def execKeepaliveTx (t lane : Nat) (s : State) : Outcome :=
  actUnit t "Corridor lane" lane 2 (fun s =>
    s.when (s.live && s.mode ≠ .boot && s.paired && s.pair.sense && (s.pair.lanes.getD lane default).up) fun s => s.send 1 (.keepalive lane)) s

/-- KEEPALIVE: a KEEPALIVE with its STAMP; a standby takes pair time from it (12 R592). -/
def execKeepalive (t lane : Nat) (crc : Bool) (stamp : Nat) (s : State) : Outcome :=
  actUnit t "Corridor lane" lane 2 (fun s => s.frame crc fun s =>
    let s := s.updPair fun p => { p with lanes := upd p.lanes lane fun x => { x with lastAt := s.now } }
    s.when (s.pair.role = 2) fun s => (s.setClock stamp s.clock.ppb).updPair fun p => { p with unaligned := false }) s

/-- TAKEOVER_RECOMMENDED, and with AUTO_SWITCH the handover (12 R619). -/
def State.recommendTakeover (s : State) : State :=
  let other := match s.pair.partner with | some h => h.score | none => 0
  let s := if s.pair.recommend then s
    else (s.updPair fun p => { p with recommend := true }).ev 0x7013 (leBytes 1 (scoreOf s.findings) ++ leBytes 1 other)
  if s.cfg 0x1400 0x0A = 1 && s.hot && s.pair.switching = 0 then s.handoverOut 0 else s

/-- HEALTH_REPORT: this module's report of every second, with VL in mV; or, with `partner`, the SCORE and FINDINGS that the partner
reports (12 R618, R619). -/
def execHealthReport (t mv : Nat) (partner : Option (Nat × Nat)) (s : State) : Outcome :=
  act t (fun s =>
    s.when (s.live && s.mode ≠ .boot) fun s =>
      match partner with
      | some (score, finds) =>
        s.frame true fun s => s.updPair fun p => { p with partner := p.partner.map fun h => { h with score := score, findings := finds } }
      | none =>
        let s := s.updPair fun p => { p with supplyAt := if mv < 20000 then some s.now else p.supplyAt }
        let s := s.updSup fun v => { v with power := { v.power with vl := mv } }
        let slot := s.now / 1000000000
        let s := if s.pair.scrubSlot + 1 < slot then s.updPair fun p => { p with scrubCount := 0 } else s
        let f := s.findings
        let new := (List.range 14).any fun k => bitAt f k && !bitAt s.pair.lastFindings k
        let s := (s.updPair fun p => { p with lastFindings := f, healthAt := s.time }).when new fun s =>
          s.ev 0x7050 (leBytes 4 f ++ leBytes 1 (scoreOf f))
        let s := s.send 6 (.health (scoreOf f) f)
        let low : Bool := match s.pair.partner with | some h => decide (scoreOf f + s.cfg 0x1400 0x0B ≤ h.score) | none => false
        if s.pair.role = 1 && s.pair.state = 4 then
          if low then s.recommendTakeover else s.updPair fun p => { p with recommend := false }
        else s) s

end Sys2Proof.Machine
end

