-- ==== Sys2Proof/Machine/Upkeep.lean ====
section
/-! DEFINITION. What runs in the background: the recorder's buckets and archive, the Margin Ledger and its actions, flash upkeep, thermal and supply checks, calendar and backup domain, commits (13 R629, R635; 15 R723 to R731; 16; 17 R766, R780). -/
namespace Sys2Proof.Machine

/-! The recorder (16 R750, R753, R754) -/

/-- TOKEN_ADD: a grid instant of bucket n. -/
def execTokenAdd (t n : Nat) (s : State) : Outcome := actUnit t "bucket" n 256 (fun s => s.when s.live fun s => s.tokenAdd n) s

/-- The next record in SEQ order goes to its archive slot; the first of a sector erases what the sector held. -/
def State.archiveNext (s : State) : State :=
  let r := s.recorder
  match r.ring[r.next - 1 - r.archNext]? with
  | some e =>
    if r.next ≤ r.archNext then s
    else
      let slot := r.archNext % 1048576
      let keep (x : Nat × EventRec) : Bool := x.1 ≠ slot && (x.1 / 1024 ≠ slot / 1024 || x.2.seq / 1024 = e.seq / 1024)
      { s with recorder := { r with
          archive := (slot, e) :: r.archive.filter keep
          archNext := r.archNext + 1
          archTail := max r.archTail (r.archNext / 1024 * 1024 + 1024 - 1048576) } }
  | none => s

/-- ARCHIVE_COPY: one record is archived. -/
def execArchiveCopy (t : Nat) (s : State) : Outcome := act t (fun s => s.when s.live State.archiveNext) s

/-! The Margin Ledger (16 R739 to R742) -/

/-- Least-squares slope of y over x. -/
def slope (l : List (Rat × Rat)) : Rat :=
  let n : Rat := (l.length : Rat)
  let sx := (l.map (·.1)).sum
  let sy := (l.map (·.2)).sum
  let d := n * (l.map fun e => e.1 * e.1).sum - sx * sx
  if d = 0 then 0 else (n * (l.map fun e => e.1 * e.2).sum - sx * sy) / d

/-- A quantity limited in magnitude (R738). -/
def inMagnitude (q : Nat) : Bool := q = 6 || 8 ≤ q

/-- A quantity whose limit lies below it. -/
def limitBelow (q : Nat) : Bool := q = 0 || q = 4 || q = 5

/-- The value and samples that a prediction uses. -/
def magnitude (q : Nat) (x : Rat) : Rat := if inMagnitude q then absRat x else x

/-- TREND per 1,000 h of samples in operating seconds; 0 with too few of them. -/
def trendOf (q : Nat) (f : Rat → Rat) (l : List (Nat × Rat)) : Rat :=
  if l.length < (if q = 4 then 4 else 48) then 0 else slope (l.map fun e => ((e.1 : Rat) / 3600000, f e.2))

/-- The predicted crossing in operating hours ahead, when the slope moves the value towards its limit. -/
def crossing (q : Nat) (value limit trend : Rat) : Option Rat :=
  let gap := limit - value
  if (limitBelow q && trend < 0 && gap < 0) || (!limitBelow q && 0 < trend && 0 < gap) then some (gap / trend * 1000) else none

/-- STATE of a quantity (R741). -/
def marginState (q : Nat) (value limit : Rat) (cross : Option Rat) : Nat :=
  if (if limitBelow q then decide (value ≤ limit) else decide (limit ≤ value)) then 3
  else match cross with
  | some h => if h ≤ 720 then 2 else if h ≤ 8760 then 1 else 0
  | none => 0

/-- Recompute a quantity and record a change of its STATE; a quantity that the module needs recommends a takeover (R742). -/
def State.marginJudge (s : State) (q : Nat) : State :=
  if q = 7 then s
  else
    let value := magnitude q (s.marginValue q)
    let limit := s.marginLimit q
    let old := (s.margin q).state
    let cross := crossing q value limit (trendOf q (magnitude q) (s.margin q).samples)
    let st := marginState q value limit cross
    let s := s.updMargin q fun m => { m with trend := trendOf q id m.samples, cross := cross, state := st }
    if st = old then s
    else if st < old then s.ev 0xB004 (leBytes 1 q ++ leBytes 1 st)
    else if st < 3 then s.ev 0xB002 (leBytes 1 q ++ leBytes 1 st ++ leBytes 8 (s.crossDate (s.margin q)))
    else
      let s := s.ev 0xB003 (leBytes 1 q ++ leBytes 4 (f32Of (s.marginValue q)).toNat)
      s.when ((q = 0 || q = 1 || q = 4 || q = 6) && s.pair.role = 1 && s.pair.state = 4) State.recommendTakeover

/-! CHECKPOINT_INT (16 R745) -/

/-- D(I): the largest number of distinct chunks that changed within a span of I ms over the last 24 h of Run (Edit counts, log 155). -/
def State.dirtySpan (s : State) (ms : Nat) : Nat :=
  let l := s.sup.ledger.dirtied.filter fun e => s.runTime < e.2.1 + 86400000000000
  (l.map fun e => ((l.filter fun x => e.1 ≤ x.1 && x.1 < e.1 + ms * 1000000).map (·.2.2)).eraseDups.length).foldl max 0

/-- REQ(I) in ms. -/
def State.saveReq (s : State) (ms : Nat) : Rat := 6 / 5 * (3 / 2 + 3 / 20 * (s.dirtySpan ms : Rat)) + 125 / 2

/-- The shortest candidate: max(100 ms, major frame), in whole ms. -/
def State.ckptFloor (s : State) : Nat := max 100 (s.majorFrame / 1000000)

/-- The candidates from the longest: CHECKPOINT_PLAN ÷ 2^k on the grid of the major frame, then the floor. -/
def State.ckptCandidates (s : State) : List Nat :=
  let f := s.majorFrame
  let at_ (k : Nat) : Nat := let c := s.plan.checkpoint * 1000000 / 2 ^ k; (if f = 0 then c else c - c % f) / 1000000
  ((List.range 32).map at_).filter (s.ckptFloor < ·) ++ [s.ckptFloor]

/-- The longest candidate that the hold-up covers is set for the next major Landing; LIMIT of HOLDUP is REQ at the shortest. -/
def State.ckptChoose (s : State) : State :=
  if s.plans.active.isNone then s
  else
    let pick := (s.ckptCandidates.find? fun (i : Nat) => s.saveReq i ≤ s.sup.power.holdMs).getD s.ckptFloor
    let s := s.updMargin 4 fun m => { m with limit := s.saveReq s.ckptFloor }
    if pick = s.ckptInterval then s.updSup fun v => { v with ledger := { v.ledger with ckptNext := none } }
    else s.updSup fun v => { v with ledger := { v.ledger with ckptNext := some pick } }

/-- LEDGER_SAMPLE: an operating hour has ended, once each: `values` are the quantities 0 to 3 and 6 as last measured, by number; HOLDUP has a sample
per power-up instead (16 R739). HOURS is appended as well (13 R646). -/
def execLedgerSample (t : Nat) (values : List Rat) (s : State) : Outcome :=
  act t (fun s =>
    s.when (s.live && s.mode ≠ .boot && s.sup.ledger.hour < s.hours / 3600) fun s =>
      let s := s.updSup fun v => { v with ledger := { v.ledger with hour := s.hours / 3600 } }
      let s := s.privAppend 5 0 (leBytes 8 s.hours)
      let one (s : State) (q : Nat) : State :=
        if q = 4 || q = 7 then s
        else
          let s := s.updMargin q fun m => { m with value := values.getD q m.value }
          let v := s.marginValue q
          s.updMargin q fun m => { m with samples := (s.hours, v) :: m.samples.filter fun e => s.hours < e.1 + 3600000 }
      let s := ((List.range 16).foldl one s).ckptChoose
      (List.range 16).foldl State.marginJudge s) s

/-- HOLDUP_READY: the store reaches its charge; `us` is the hold-up measured at this power-up (14 R686; 16 R745, R757). -/
def execHoldupReady (t us : Nat) (s : State) : Outcome :=
  act t (fun s =>
    s.when (s.live && !s.sup.power.holdReady) fun s =>
      let ms : Rat := (us : Rat) / 1000
      let s := s.updSup fun v => { v with power := { v.power with holdReady := true, holdMs := ms } }
      let s := s.ev 0x9041 (leBytes 4 (f32Of ms).toNat)
      let s := s.updMargin 4 fun m => { m with value := ms, samples := ((s.hours, ms) :: m.samples).take 32 }
      s.ckptChoose.marginJudge 4) s

/-- AVS_STEP: PATH_SLACK, at `slack` ps, has stayed below 60 ps for 10 s (16 R743). -/
def execAvsStep (t : Nat) (slack : Rat) (s : State) : Outcome :=
  act t (fun s =>
    let l := s.sup.ledger
    let free : Bool := match l.avsAt with | some a => decide (a + 600000000000 ≤ s.now) | none => true
    s.when (s.live && slack < 60 && l.avsStep < 10 && free) fun s =>
      let n := l.avsStep + 1
      let s := s.updSup fun v => { v with ledger := { v.ledger with avsStep := n, avsAt := some s.now } }
      let s := (s.privAppend 4 0 (leBytes 1 n)).marginActs 0
      ((s.updMargin 0 fun m => { m with value := slack }).ev 0xB010 (leBytes 1 n ++ leBytes 4 (f32Of slack).toNat)).marginJudge 0) s

/-- MARGIN_ACTION: REFERENCE, at `ppm`, has lain beyond 20 ppm for 10 s: the trim of ±1,000 ppm moves by the error (16 R746). -/
def execMarginAction (t : Nat) (ppm : Rat) (s : State) : Outcome :=
  act t (fun s =>
    s.when (s.live && 20 < absRat ppm) fun s =>
      let trim := max (-1000) (min 1000 (s.sup.ledger.refTrim - ppm))
      let s := s.updSup fun v => { v with ledger := { v.ledger with refTrim := trim } }
      let s := (s.privAppend 4 1 (leBytes 4 (f32Of trim).toNat)).marginActs 6
      ((s.updMargin 6 fun m => { m with value := ppm }).ev 0xB001 (leBytes 1 6 ++ leBytes 4 (f32Of ppm).toNat)).marginJudge 6) s

/-- DELAY_LINE_SWAP: a channel's delay lines swap, which is the automatic action of DL_RANGE (03 R154; 16 R738). -/
def execDelayLineSwap (t c : Nat) (s : State) : Outcome :=
  actUnit t "TRG" c 16 (fun s => s.when s.live fun s =>
    let t := s.delaySwap c
    if (t.treads.trgs.getD c default).lineB = (s.treads.trgs.getD c default).lineB then t else t.marginActs 1) s

/-- AIO_TRIM: the trim check of every 10 s (09 R453; log 149); a trim that moves is the automatic action of AIO_TRIM (16 R738). -/
def execAioTrim (t n : Nat) (s : State) : Outcome :=
  actUnit t "AIO" n 8 (fun s => s.when (s.live && s.aioCfg n 1 = 2 && (s.aio n).trimAt + 10000000000 ≤ s.now) fun s =>
    let old := (s.aio n).trim
    let s := (s.updAio n fun x => { x with trimAt := s.now }).aioTrim n
    s.when ((s.aio n).trim ≠ old) fun s => (s.marginActs (8 + n)).marginJudge (8 + n)) s

/-! Flash upkeep (13 R629; 16 R744) -/

/-- The partition of a NOR address (13 R627), in the order of `partitionSectors`; none for the unused rest. -/
def partitionOf (addr : Nat) : Option Nat :=
  ([(0x2000000, 0), (0x4000000, 1), (0xC000000, 2), (0x14000000, 3), (0x16800000, 4), (0x18000000, 5), (0x1C000000, 6), (0x1D000000, 7),
    (0x1D400000, 8)].find? fun (e : Nat × Nat) => addr < e.1).map (·.2)

/-- A sector at `addr` that held `live` live bytes is erased in `us` µs, for the `erases`-th time: its space returns to its reserve, or
the sector is retired. -/
def State.sectorErased (s : State) (addr live us erases : Nat) : State :=
  match partitionOf addr with
  | none => s
  | some p =>
    let s := s.updNvm fun v => { v with
      eraseMax := if p = 4 then max v.eraseMax erases else v.eraseMax
      privEraseMax := if p = 5 then max v.privEraseMax erases else v.privEraseMax }
    if 36000 < us then
      let s := s.updSup fun v => { v with ledger := { v.ledger with retired := upd v.ledger.retired p (· + 1) } }
      ((s.marginActs 2).ev 0xB013 (leBytes 4 addr ++ leBytes 4 us)).marginJudge 2
    else s.updNvm fun v => { v with
      reserve := if p = 4 then v.reserve + (65536 - live) else v.reserve
      privReserve := if p = 5 then v.privReserve + (65536 - live) else v.privReserve
      rpReserve := if 7 ≤ p then v.rpReserve + (256 - live / 256) else v.rpReserve }

/-- RECLAIM: live records of a sector have been copied forward and the sector erased (13 R629, R648). -/
def execReclaim (t addr live us erases : Nat) (s : State) (nor : List NorErr := []) : Outcome :=
  act t (fun s => s.when (s.live && s.mode ≠ .boot) fun s => (s.norRead nor).sectorErased addr live us erases) s

/-- SECTOR_REFRESHED: a cold sector is refreshed by reclaim, at most one per 60 s (16 R744). -/
def execSectorRefreshed (t addr live us erases : Nat) (s : State) (nor : List NorErr := []) : Outcome :=
  act t (fun s =>
    let free : Bool := match s.sup.ledger.refreshAt with | some a => decide (a + 60000000000 ≤ s.now) | none => true
    s.when (s.live && s.mode ≠ .boot && free) fun s =>
      let s := s.updSup fun v => { v with ledger := { v.ledger with
        refreshed := holdMax 32 (v.ledger.refreshed + 1), refreshAt := some s.now } }
      (((s.norRead nor).marginActs 3).ev 0xB012 (leBytes 4 addr)).sectorErased addr live us erases) s

/-! Temperature and encoder supplies (17 R766, R780, R783) -/

/-- CASE_LIMIT in mK. -/
def caseLimit : Int := if Config.gradeX then 120000 else 110000

/-- CASE_MEASURE: the measurements of every second, temperatures in mK above 0 °C, powers in mW and VENC currents in mA (17 R780, R783). -/
def execCaseMeasure (t : Nat) (case_ junction : Int) (pVa pModule : Nat) (venc : List Nat) (s : State) : Outcome :=
  act t (fun s =>
    s.when (s.live && s.sup.thermal.caseAt.all fun a => a + 1000000000 ≤ s.now) fun s =>
      let x := s.sup.thermal
      let warm : Bool := decide (caseLimit - 5000 ≤ case_)
      let hot := if warm then some (x.hotAt.getD s.now) else none
      let due : Bool := match hot with | some a => decide (a + 10000000000 ≤ s.now) && !x.warned | none => false
      let clear : Bool := x.warned && decide (case_ < caseLimit - 8000)
      let above : Bool := decide (caseLimit < case_)
      let w := leBytes 4 (f32Of ((case_ : Rat) / 1000)).toNat
      let s := s.updSup fun v => { v with thermal := { v.thermal with
        case_ := case_, caseAt := some s.now, peak := some (match x.peak with | some p => max p case_ | none => case_), hotAt := hot
        warned := (x.warned || due) && !clear, above := above, junction := junction, pVa := pVa, pModule := pModule, venc := venc } }
      let s := s.when due fun s => s.ev 0x9030 w
      let s := s.when clear fun s => s.ev 0x9031 (w ++ leBytes 1 0)
      s.when (above && !x.above) fun s => s.ev 0x9031 (w ++ leBytes 1 1)) s

/-- VENC_OVERLOAD: the current limit of VENCm has acted for 1 ms: it is switched off; the inputs that the carrier feeds from it, as the
mask `fed`, fault as in R64, and a read in progress on one in `reading` is discarded (17 R766, R782; 02 R62). -/
def execVencOverload (t m fed reading : Nat) (s : State) : Outcome :=
  actUnit t "VENC" m 4 (fun s =>
    s.when (s.live && !bitAt s.sup.thermal.vencOff m) fun s =>
      let s := s.updSup fun v => { v with thermal := { v.thermal with
        vencOff := setBit v.thermal.vencOff m true, vencAt := upd v.thermal.vencAt m fun _ => s.now } }
      let s := (s.ev 0x9032 (leBytes 1 m ++ leBytes 1 1)).emit (.venc m false s.now)
      let one (s : State) (n : Nat) : State :=
        if s.encMode n = 0 then s
        else
          let s := s.when (bitAt reading n && s.encMode n = 2) fun s => s.discardSsi n 2
          s.linesLow n (s.pairsInUse n)
      (bitsOf fed 8).foldl one s) s

/-- VENC_RESTORE: 1 s after its switch-off the supply is switched on again, unless power has failed meanwhile (17 R766, R782). -/
def execVencRestore (t m : Nat) (s : State) : Outcome :=
  actUnit t "VENC" m 4 (fun s =>
    let x := s.sup.thermal
    s.when (s.live && bitAt x.vencOff m && x.vencAt.getD m 0 + 1000000000 ≤ s.now) fun s =>
      ((s.updSup fun v => { v with thermal := { v.thermal with vencOff := setBit v.thermal.vencOff m false } }).ev 0x9032
        (leBytes 1 m ++ leBytes 1 0)).emit (.venc m true s.now)) s

/-! Calendar and backup domain (15 R723 to R731) -/

/-- The calendar is set to a count of ticks; OSF clears (15 R729, R730). -/
def State.setCalendar (s : State) (ticks : Nat) : State :=
  let s := { s with clock := { s.clock with rtcBase := ticks, rtcAt := s.now, rtcEnd := false, osf := false } }
  s.updSup fun v => { v with backup := { v.backup with lastSet := s.time } }

/-- PTP time less UTC_OFFSET as calendar ticks; PTP counts from 1970-01-01 (10, IEEE 1588). -/
def State.ptpTicks (s : State) : Int :=
  ((s.time : Int) - s.cfgInt 32 0x1210 0x0A * 1000000000 - 946684800 * 1000000000) * 32768 / 1000000000

/-- RTC_SYNC: the comparison of every 60 s, or of 60 s after a SET (15 R730, R732). The calendar holds no PTP time before 2000. -/
def execRtcSync (t : Nat) (s : State) : Outcome :=
  act t (fun s =>
    let due : Bool := match s.clock.syncAt with | some a => decide (a + 60000000000 ≤ s.now) | none => true
    s.when (s.live && s.mode ≠ .boot && s.cfg 0x1720 4 = 1 && s.clock.ptpValid && due) fun s =>
      let s := { s with clock := { s.clock with syncAt := some s.now } }
      let p := s.ptpTicks
      let d := (p - (s.rtcTicks : Int)).natAbs
      if d * 1000 ≤ 2 * 32768 || p < 0 then s
      else
        let old := calendarWord s.rtcTicks
        (s.setCalendar (min calendarEnd p.toNat)).when (32768 < d) fun s => s.ev 0x9010 (leBytes 1 2 ++ leBytes 8 old)) s

/-- CALENDAR_END: the calendar reaches its last second and stops; without supply nothing is recorded (15 R731). -/
def execCalendarEnd (t : Nat) (s : State) : Outcome :=
  act t (fun s =>
    s.when (!s.clock.rtcEnd && s.rtcTicks = calendarEnd) fun s =>
      ({ s with clock := { s.clock with rtcEnd := true } }).when s.live fun s => s.ev 0x9014 []) s

/-- RTC_OSF: the 32.768 kHz oscillator has delivered no edge for 1 ms (15 R725). -/
def execRtcOsf (t : Nat) (s : State) : Outcome := act t (fun s => { s with clock := { s.clock with osf := true } }) s

/-- BACKUP_LOST: the retention detector trips (15 R726). -/
def execBackupLost (t : Nat) (s : State) : Outcome :=
  act t (fun s =>
    let s := { s with clock := { s.clock with rtcBase := 0, rtcAt := s.now, rtcEnd := false, osf := true } }
    s.updSup fun v => { v with backup := { v.backup with
      lost := true, tell := true, bytes := List.replicate 32 0, valid := false
      evidence := { v.backup.evidence with valid := false, count := 0, report := false }
      hours := none, cycles := none, actPending := false } }) s

/-- VBAT_MEASURE: VBAT in mV, every 10 s while VL is valid (15 R724). -/
def execVbatMeasure (t mv : Nat) (s : State) : Outcome :=
  act t (fun s =>
    let due : Bool := match s.sup.backup.vbatAt with | some a => decide (a + 10000000000 ≤ s.now) | none => true
    s.when (s.live && due) fun s =>
      let was := s.sup.backup.vbatLow
      let low := decide (mv < 2500) || (was && !decide (2600 < mv))
      let s := s.updSup fun v => { v with backup := { v.backup with vbat := mv, vbatAt := some s.now, vbatLow := low } }
      (s.when (low && !was) fun s => s.ev 0x9013 (leBytes 4 (f32Of ((mv : Rat) / 1000)).toNat)).marginJudge 5) s

/-- BACKUP_SUPPLY_CHANGE: the internal main backup rail and VBAT, in mV (15 R723). -/
def execBackupSupplyChange (t vr vbat : Nat) (s : State) : Outcome :=
  act t (fun s =>
    s.updSup fun v => { v with backup := { v.backup with
      onBattery := if vr < vbat || vr < 2600 then true else if vbat + 80 < vr && 2680 < vr then false else v.backup.onBattery } }) s

/-! Crossings and commits -/

/-- CROSSING_RESYNC: a reset on either side of crossing n, 1 to 12, ends its handshake after k entries were discarded (01 R36 to R38). -/
def execCrossingResync (t n k : Nat) (s : State) : Outcome :=
  perform t (fun s =>
    if 1 ≤ n ∧ n ≤ 12 then .next (s.when s.live fun s => s.resync n k) else .fault (.noUnit "crossing" n)) s

/-- PS_COMMIT: the running commit has written its copies and its summary block (13 R635, R636). -/
def execPsCommit (t : Nat) (s : State) : Outcome := act t (fun s => s.when s.live State.commitDone) s

/-- PS_COMMIT_TIMER: 100 ms after the first write staged, in a mode with no major Landing (13 R635). -/
def execPsCommitTimer (t : Nat) (s : State) : Outcome :=
  act t (fun s =>
    s.when (s.live && s.base ≠ .run && s.base ≠ .edit && !(s.follows && s.pair.state = 4)
        && !s.nvm.filling.items.isEmpty && s.nvm.filling.first + 100000000 ≤ s.now) State.commitTrigger) s

end Sys2Proof.Machine
end

