-- ==== Sys2Proof/Machine/Update.lean ====
section
/-! DEFINITION. Mode pins, and the ends of what a command started: verification of firmware and Plans, the service pause, confirmation, fuse burns (00 R3; 06 R318 to R322, R335; 14 R673 to R678, R690 to R697). -/
namespace Sys2Proof.Machine

/-! Mode pins (14 R675, R678) -/

/-- Whether a restart request is served: Stop or Fault, MODE_STOP high (04 R231; 14 R673 row 6, R675). A module without a Plan then enters
Run with nothing to run. Of a pair only the active module runs (12 R604; log 154). -/
def State.restartOk (s : State) : Bool :=
  s.live && (s.mode = .stop || s.mode = .fault) && !s.stopHeld && (!s.paired || s.pair.role = 1)

/-- MODE_RUN_EDGE: the debounced level of MODE_RUN changes; its falling edge restarts by RUN_PIN_KIND. `bad` are the Galleries that
fail the self-test of the start. -/
def execModeRunEdge (t : Nat) (low : Bool) (bad : Nat) (s : State) : Outcome :=
  act t (fun s =>
    s.when (s.live && s.mode ≠ .boot) fun s =>
      let fell := low && !s.sup.pinRun
      let s := s.updSup fun v => { v with pinRun := low }
      s.when (fell && s.restartOk) fun s => s.restart (s.cfg 0x1100 6 = 2) 1 6 bad) s

/-- MODE_STOP_LOW: the debounced level of MODE_STOP changes; going low it moves Run, Edit or Standby to Stop (14 R673 row 9). -/
def execModeStopLow (t : Nat) (low : Bool) (s : State) : Outcome :=
  act t (fun s =>
    s.when (s.live && s.mode ≠ .boot) fun s =>
      let fell := low && !s.sup.pinStop
      let s := s.updSup fun v => { v with pinStop := low }
      s.when (fell && (s.mode = .run || s.mode = .edit || s.mode = .standby)) fun s => s.enterStop 9) s

/-- MODE_MRES: the debounced level of MODE_MRES changes, or is still low as its 3 s end: in Stop that is one memory reset (14 R673 row 7,
R678). The 3 s are counted from the debounced level (log 154). -/
def execModeMres (t : Nat) (low : Bool) (s : State) : Outcome :=
  act t (fun s =>
    s.when (s.live && s.mode ≠ .boot) fun s =>
      if !low || !s.sup.pinMres then s.updSup fun v => { v with pinMres := low, mresAt := s.now, mresDone := false }
      else
        s.when (s.mode = .stop && !s.sup.mresDone && s.sup.mresAt + 3000000000 ≤ s.now) fun s =>
          (s.updSup fun v => { v with mresDone := true }).memoryReset 1) s

/-! Verification -/

/-- Firmware staging ends: back to the mode that Update was entered from (14 R673 row 15). -/
def State.leaveUpdate (s : State) : State := if s.mode = .update && !s.pausing then s.changeMode s.sup.fw.from_ 15 else s

/-- FW_VERIFIED: the verification of the staged firmware ends (14 R690). -/
def execFwVerified (t : Nat) (s : State) (nor : List NorErr := []) : Outcome :=
  act t (fun s =>
    s.when (s.live && s.sup.fw.stage = 2) fun s =>
      let s := s.norRead nor
      let b := s.slotBytes 1 (s.vestibule 1)
      let v := Config.fwVerdict b
      let s := s.updSup fun x => { x with fw := { x.fw with stage := if v = 0 then 3 else 4, reject := v } }
      (if v = 0 then s.ev 0xA003 (leBytes 4 (Config.fwVersion b)) else s.ev 0xA004 (leBytes 2 v)).leaveUpdate) s

/-- PLAN_VERIFIED: the verification of the staged Plan ends: verified, or rejected at its first failure (06 R318, R320, R322, R335). -/
def execPlanVerified (t : Nat) (s : State) (nor : List NorErr := []) : Outcome :=
  act t (fun s =>
    s.when (s.live && s.plans.stageState = 2) fun s =>
      let s := s.norRead nor
      let b := s.slotBytes 2 (s.vestibule 2)
      let edit := s.plans.editing
      match s.planReject b edit with
      | none =>
        let p := planOf b
        (s.updPlans fun v => { v with
          stageState := 3, staged := some p, rejectReason := 0, rejectDetail := 0, editState := if edit then 2 else v.editState
          editing := false }).ev 0xA011 (leBytes 8 (digestNo p.digest) ++ leBytes 1 (ofBool edit))
      | some r =>
        let s := (s.updPlans fun v => { v with
          stageState := 4, staged := none, rejectReason := r.reason, rejectDetail := rejectDetail r
          editState := if edit then 5 else v.editState, editing := false }).ev 0xA010 (leBytes 2 r.reason ++ leBytes 4 (rejectDetail r))
        s.when edit State.leaveEdit) s

/-! The service pause and confirmation (14 R691 to R697) -/

/-- The firmware in a slot passes its signature check (R692). -/
def State.slotGood (s : State) (slot : Nat) : Bool := Config.fwVerdict (s.slotBytes 1 slot) = 0

/-- The slot that the ROM runs, and why it is the other one: 1 trial unconfirmed, 2 signature, 3 rejected before (R691, R692).
None when both slots fail. -/
def State.slotSelect (s : State) : Option (Nat × Nat × Bool) :=
  let r := privInForce s.nvm.priv 7 0
  let (slot, why, trial) := match r with
    | none => (0, 0, false)
    | some r =>
      let own := leNat (r.data.take 1) % 2
      match leNat ((r.data.drop 1).take 1) with
      | 1 => if s.sup.backup.actPending then (own, 0, true) else (1 - own, 1, false)
      | 2 => (own, 0, false)
      | _ => (1 - own, 3, false)
  if s.slotGood slot then some (slot, why, trial)
  else if s.slotGood (1 - slot) then some (1 - slot, 2, false)
  else none

/-- The ROM loader selects a slot: an unconfirmed trial is rejected in the records, a fallback is counted and recorded, and a trial that
runs clears ACT_PENDING (R691). Answers whether a slot runs. -/
def State.runSlot (s : State) : State × Bool :=
  match s.slotSelect with
  | none => (s, false)
  | some (slot, why, trial) =>
    let s := s.when (why = 1) fun s => s.privAppend 7 0 (s.actFirmware (1 - slot) 3)
    let s := s.updSup fun v => { v with
      backup := { v.backup with actPending := v.backup.actPending && !trial }
      fw := { v.fw with
        booted := slot, rollbacks := if why = 0 then v.fw.rollbacks else holdMax 32 (v.fw.rollbacks + 1)
        state := if trial then 1 else 2, healthOk := !trial, confirm := false, expired := false, hotSeen := false } }
    (s.when (why = 1 || why = 2) fun s => s.ev 0xA009 (leBytes 1 slot ++ leBytes 1 why), true)

/-- PAUSE_ENDED: a major frame start after the Supervisor's restart: latches release and the module returns to Run (14 R697 step 5; 03
R163). `fault` is a failed self-test of the Supervisor, which needs no frame start. -/
def execPauseEnded (t : Nat) (fault : Bool) (s : State) : Outcome :=
  act t (fun s =>
    match s.sup.fw.pauseAt with
    | none => s
    | some at_ =>
      if !s.live then s
      else
        let s0 := s
        let (s, ok) := s.runSlot
        if fault || !ok then s.enterFault 5
        else if (s.now - s.tasks.runAt) % max 1 s.majorFrame ≠ 0 then s0
        else
          let us := (s.now - at_) / 1000
          let s := s.updSup fun v => { v with fw := { v.fw with
            pauseAt := none, lastPause := holdMax 32 us, stage := 0, reject := 0 } }
          let s := (s.discardPaused.driveAll).changeMode .run 16
          s.ev 0xA006 (leBytes 4 us ++ leBytes 4 (s.treads.pauseSkipped - s.treads.pauseBase))) s

/-- The running firmware. -/
def State.runningVersion (s : State) : Bytes := leBytes 4 s.fwVersion

/-- FW_CONFIRMED: trial firmware meets every condition of R693. -/
def execFwConfirmed (t : Nat) (s : State) : Outcome :=
  act t (fun s =>
    let f := s.sup.fw
    s.when (s.live && f.state = 1 && !f.healthOk && s.now ≤ f.actAt + 300000000000 && steadyMode s.mode && f.steadyAt + 60000000000 ≤ s.now
        && (!s.partnerPresent || f.hotSeen) && (s.cfg 0x1801 4 = 0 || f.confirm)) fun s =>
      let s := (s.privAppend 7 0 (s.actFirmware f.booted 2)).updSup fun v => { v with fw := { v.fw with state := 2, healthOk := true } }
      s.ev 0xA007 s.runningVersion) s

/-- FW_CONFIRM_EXPIRED: 300 s have passed without HEALTH_OK (R694). -/
def execFwConfirmExpired (t : Nat) (s : State) : Outcome :=
  act t (fun s =>
    let f := s.sup.fw
    s.when (s.live && f.state = 1 && !f.healthOk && !f.expired && f.actAt + 300000000000 ≤ s.now) fun s =>
      ((s.privAppend 7 0 (s.actFirmware f.booted 3)).updSup fun v => { v with fw := { v.fw with expired := true } }).ev 0xA008 s.runningVersion) s

/-! Fuses (00 R3 to R6) -/

/-- The commit fuse of a burning slot is burned. -/
def fuseDone (f : Fuse) : Fuse := { f with burn := 2, committed := f.next }

/-- FUSE_BURN_DONE: the burn of the window group (false) or the Plan key group (true) ends. -/
def execFuseBurnDone (t : Nat) (key : Bool) (s : State) : Outcome :=
  act t (fun s =>
    s.when (s.live && (if key then s.fuses.key.burn else s.fuses.win.burn) = 1) fun s =>
      if key then
        (s.updFuses fun v => { v with key := fuseDone v.key }).ev 0xA016 (leBytes 4 (keyId s.fuses.key.next))
      else s.updFuses fun v => { v with win := fuseDone v.win }) s

end Sys2Proof.Machine
end

