-- ==== Sys2Proof/Machine/WriteRules.lean ====
section
/-! DEFINITION. Writing the dictionary: who may write what and when, in the order of 10 R507, and what an accepted write does (00 R7 to R9, R16 to R21; 01 R30; 02 R83, R95; 03 R137, R164, R166; 04 R207 to R216, R231, R238 to R241; 06 R309, R310, R321 to R323, R332 to R340; 07 R376 to R387, R392; 10 R506 to R512, R535, R536; 11 R562, R569; 12 R597, R613; 13 R633 to R643, R658 to R664; 14 R673 to R676, R690, R693; 15 R710, R717, R726 to R736). -/
namespace Sys2Proof.Machine

/-- One item of a write request: entry, DTYPE and value (10 R510). -/
structure WItem where
  idx   : Nat
  sub   : Nat
  dtype : Nat
  data  : Bytes
deriving DecidableEq, Repr

/-- Who writes: session slot and role, whether KEY_SEQ armed this item, the request item that an APPLY_WAIT answer waits for, and the
outcome of the self-test that a restart or a Fault clearance runs: a failing Gallery in bits 0 to 3, anything else in bit 4. -/
structure Asker where
  slot  : Nat
  role  : Nat
  armed : Bool
  wait  : Option (Nat × Nat × Nat)
  bad   : Nat
deriving DecidableEq, Repr

/-! Roles and access classes (10 R506, R508, R536) -/

/-- A selector, held by each session (10 R506). -/
def isSelector (idx sub : Nat) : Bool :=
  match idx with
  | 0x1510 => sub = 1
  | 0x1520 => sub = 1 || sub = 2
  | 0x1600 => sub = 5 || sub = 6
  | 0x1610 => sub = 1
  | 0x2340 => sub = 1 || sub = 2
  | 0x3EFF => sub = 0x25
  | _ => false

/-- Entries that the Maintainer alone writes (00 R8; 06 R345; 10 R536; 13 R641, R664, R668; 14 R690, R693; 15 R710, R717, R734, R736). -/
def isMaintenance (idx sub : Nat) : Bool :=
  match idx with
  | 0x1221 => true
  | 0x1500 => true
  | 0x1520 => sub = 4
  | 0x1710 => true
  | 0x1722 => true
  | 0x1800 => true
  | 0x1801 => sub = 5
  | 0x2403 => true
  | _ => 0x1700 ≤ idx && idx ≤ 0x1704 && (sub = 5 || sub = 0x0D)

def isLoop (idx : Nat) : Bool := 0x4000 ≤ idx && idx ≤ 0x47FF
def isWindow (idx : Nat) : Bool := 0x2310 ≤ idx && idx ≤ 0x231F
def isTread (idx : Nat) : Bool := 0x5000 ≤ idx && idx ≤ 0x8FFF
def isFlCmd (idx : Nat) : Bool := idx = 0x218C || idx = 0x218D

/-- The lowest role that writes an entry; CMD 2 of 0x1100 needs the Maintainer (04 R239; 07 R385; 14 R676). -/
def writeRole (idx sub n : Nat) : Nat :=
  if isSelector idx sub then 1
  else if isMaintenance idx sub || (idx = 0x1100 && sub = 4 && n = 2) then 4
  else if isWindow idx || ((isLoop idx || isGroup idx) && sub ≤ 2) then 2
  else 3

/-- A window's points are all declared window-writable, in HM or WM (04 R239). -/
def State.windowWritable (s : State) (w : Nat) : Bool :=
  let x := s.window w
  match spaceOf x.space with
  | some sp => (sp = .hm || sp = .wm) && (List.range x.len).all fun j =>
      s.plan.writable.any fun r => r.space = sp && r.off ≤ x.off + j && x.off + j < r.off + r.len
  | none => false

/-- ACCESS passes: the access class first, then the role, then what the entry itself forbids (07 R378; 10 R536). -/
def State.accessOk (s : State) (a : Asker) (r : Row) (idx sub n : Nat) : Bool :=
  r.acc ≠ .ro && (r.acc ≠ .rwk || a.armed) && writeRole idx sub n ≤ a.role
    && !(s.bam.keyFactory && a.role = 4 && idx ≠ 0x1221 && idx ≠ 0x1222)
    && !(isLoop idx && sub = 2 && s.loopDeclared (idx - 0x4000) && !pointNone (s.loopCfg (idx - 0x4000) 0x11))
    && !(isWindow idx && sub = 5 && !s.windowWritable (idx - 0x2310))

/-! Types and lengths (10 R507 step 6) -/

/-- Length 4 + 8 × POINTS (07 R392, 09 R459). -/
def tableLenOk (b : Bytes) : Bool := 4 ≤ b.length && b.length = 4 + 8 * (b.headD 0).toNat

/-- Length of a STR or BLOB where its own description fixes it; images are written by BLOCK_WRITE. -/
def State.blobOk (s : State) (idx : Nat) (b : Bytes) : Bool :=
  if isWindow idx then
    match spaceOf (s.window (idx - 0x2310)).space with
    | some sp => b.length = windowBytes sp (s.window (idx - 0x2310))
    | none => true
  else if 0x1300 ≤ idx ∧ idx < 0x1400 then b.length % 12 = 0 && b.length ≤ 6144
  else if 0x2700 ≤ idx ∧ idx ≤ 0x2707 then tableLenOk b
  else
    match idx with
    | 0x1221 => b.isEmpty || (16 ≤ b.length && b.length ≤ 64)
    | 0x1520 => b.length ≤ 256
    | 0x1800 => false
    | 0x2401 => false
    | 0x3EFF => tableLenOk b
    | _ => true

def State.typeOk (s : State) (r : Row) (x : WItem) : Bool :=
  x.dtype = tyCode r.ty &&
    match tySize r.ty with
    | some n => x.data.length = n
    | none =>
      s.blobOk x.idx x.data &&
        match r.rng with
        | .len n => x.data.length = n
        | .lenUpto n => x.data.length ≤ n
        | _ => true

/-! STATE (10 R507 step 7) -/

/-- Entries of the Vestibule (01, Modes at a glance; 14). -/
def isVestibule (idx : Nat) : Bool := (0x1800 ≤ idx && idx ≤ 0x18FF) || idx = 0x2401

/-- What the mode admits: in Fault only a restart and its clearance, on a standby what 10 R509 lists and CMD 1 of 14 R673 row 9, in
Update no configuration outside the Vestibule. -/
def State.modeAdmits (s : State) (r : Row) (idx sub n : Nat) : Bool :=
  if s.mode = .fault then isSelector idx sub || (idx = 0x1110 && sub = 1) || (idx = 0x1100 && sub = 4)
  else
    (s.base ≠ .standby || (0x1400 ≤ idx && idx ≤ 0x14FF) || isVestibule idx || (idx = 0x1100 && sub = 4 && n = 1))
      && (s.mode ≠ .update || isSelector idx sub || isVestibule idx || r.acc = .wo)

/-- A single or active module. -/
def State.leads (s : State) : Bool := s.pair.role ≠ 2

/-- The staged image is an edit Plan, judged by its header (06 R303). -/
def State.stagedEdit (s : State) : Bool := bitAt (numAt (s.slotBytes 2 (s.vestibule 2)) 6 2) 0

/-- CMD 1 of 0x2401 verifies as an edit: in Run, in Edit, and on a standby (06 R335). -/
def State.verifiesEdit (s : State) : Bool :=
  s.stagedEdit && ((s.mode = .run && s.leads) || s.mode = .edit || s.mode = .standby)

/-- CMD 3 of 0x1400: the link is up with a partner of equal SCHEMA, hot or left behind (12 R605, R607). -/
def State.rejoins (s : State) : Bool :=
  s.corridorUp && (s.pair.state = 2 || s.pair.state = 4) && match s.pair.partner with | some h => h.schema = s.plan.schema | none => false

def State.cmdState (s : State) (idx sub n : Nat) : Bool :=
  match idx, sub, n with
  | 0x1100, 4, 1 => s.mode = .run || s.mode = .edit || s.mode = .standby
  | 0x1100, 4, 2 => s.mode = .fault
  | 0x1100, 4, 3 => s.mode = .stop
  | 0x1110, 1, _ => s.restartOk
  | 0x1120, 5, _ => s.leads && (s.mode = .run || s.mode = .edit)
  | 0x1210, 0x12, _ => s.ptpPorts.all fun p => (s.port p).ptp = 6
  | 0x1400, 0x0D, 1 => s.switchAccepts
  | 0x1400, 0x0D, 2 => s.pair.state = 4
  | 0x1400, 0x0D, 3 => s.rejoins
  | 0x1500, 7, _ => s.nvm.protect ≤ n || s.mode = .stop
  | 0x1500, 0x0B, _ => s.mode = .stop
  | 0x1520, 4, _ => s.nvm.rpProtect ≤ n || s.mode = .stop
  | 0x1700, 0x0D, _ => s.mode = .stop
  | 0x1722, 1, _ => s.mode = .stop
  | 0x1800, 5, 1 => s.sup.fw.stage ≠ 0
  | 0x2340, 3, _ => s.leads && (s.mode = .run || s.mode = .edit)
  | 0x2340, 4, _ => s.leads && (s.mode = .run || s.mode = .edit)
  | 0x2401, 4, 1 => s.plans.stageState ≠ 0 && s.plans.editState ≠ 3 && !(s.verifiesEdit && s.tasks.fallback ≠ 0)
  | 0x2401, 4, 2 => s.plans.editState ≠ 3
  | 0x2401, 4, 3 => s.mode = .stop && s.plans.stageState = 3 && !s.stopHeld
  | 0x2402, 2, _ => s.plans.editState = 2 && s.leads
  | 0x2402, 4, _ => 1 ≤ s.plans.editState && s.plans.editState ≤ 2
      || s.plans.editState = 3 && (s.task 0).landings + 2 ≤ s.plans.swapAt
  | 0x2403, _, _ => s.mode = .stop
  | _, _, _ => true

/-- STATE passes. -/
def State.stateOk (s : State) (r : Row) (idx sub n : Nat) : Bool :=
  s.modeAdmits r idx sub n
    && if isTread idx then !s.treadBusy (idx - 0x5000)
      else if isFlightEdit idx then !s.flightBusy (flNumber idx sub)
      else if isFlCmd idx then s.leads && !s.pausing && (s.base = .run || s.base = .edit) && s.flCommandActs (flNumber idx sub) n
      else if 0x1300 ≤ idx ∧ idx < 0x1400 ∧ idx % 0x40 = 1 then
        let c := (idx - 0x1300) / 0x40
        s.canPowered c && (s.can c).state = 4 && s.canCfg c 0x10 = 0
      else s.cmdState idx sub n

/-! LOCKED, RANGE and BUSY (10 R507 steps 8 to 10) -/

/-- A fuse group takes no further burn (00 R4 to R6). -/
def fuseClosed (f : Fuse) : Bool := !f.committed.isEmpty || 2 ≤ f.used

/-- LOCKED passes: lock bits, fuses and block protection (00 R4; 13 R640, R643, R664; 15 R710, R717). -/
def State.unlocked (s : State) (k idx sub n : Nat) : Bool :=
  (match s.persistedAs idx sub with | some rec_ => !s.psProtected rec_ | none => true) &&
    match idx, sub with
    | 0x1510, 2 => !s.psProtected (s.selOf k 0x1510 1)
    | 0x1520, 3 => !protectedBy s.nvm.rpProtect 65536 (s.selOf k 0x1520 1 / 256)
    | 0x1700, 0x0D => !(s.wdt 0).lock
    | 0x1722, 1 => !fuseClosed s.fuses.win
    | 0x2403, 2 => !fuseClosed s.fuses.key
    | _, 5 => !(0x1700 ≤ idx && idx ≤ 0x1704 && n = 0)
    | _, _ => true

/-- The target of a KEY_SEQ arming is an RWK entry (10 R536). -/
def armTarget (n : Nat) : Bool :=
  match lookup (n / 256) (n % 256) with
  | (.ok, r) => r.acc = .rwk
  | _ => false

/-- The points that a MASK or VALUE names lie in the space (04 R241). -/
def State.forceFits (s : State) (k : Nat) (b : Bytes) : Bool :=
  match forceSpace (s.selOf k 0x2340 1) with
  | some sp => s.selOf k 0x2340 2 + (if spaceIsBit sp then 8 * b.length else b.length / 4) ≤ spaceSize sp
  | none => false

/-- A MASK or VALUE of a word space holds whole words (04 R238, R241). -/
def State.forceWhole (s : State) (k idx sub : Nat) (b : Bytes) : Bool :=
  !(idx = 0x2340 && (sub = 3 || sub = 4)) ||
    match forceSpace (s.selOf k 0x2340 1) with
    | some sp => spaceIsBit sp || b.length % 4 = 0
    | none => true

/-- OFFSET and LENGTH of a window within the space that SPACE now names (04 R238, R240). -/
def State.windowRange (s : State) (w sub n : Nat) : Bool :=
  match spaceOf (s.window w).space with
  | none => true
  | some sp =>
    match sub with
    | 2 => n < spaceSize sp
    | 3 => n ≤ windowMax (spaceIsBit sp)
    | 5 => windowFits sp (s.window w)
    | _ => true

/-- What an entry requires of a value beyond its table's range. -/
def State.specialRange (s : State) (k idx sub n : Nat) (b : Bytes) : Bool :=
  if isWindow idx then s.windowRange (idx - 0x2310) sub n
  else if isTread idx then sub ≠ 8 || !treadBad (BitVec.ofNat 128 (leNat b))
  else if 0x1700 ≤ idx ∧ idx ≤ 0x1704 ∧ sub = 3 then n % 8 = 0 && 1000 ≤ n && n ≤ 60000000
  else
    match idx, sub with
    | 0x1303, j | 0x1343, j | 0x1383, j | 0x13C3, j => !(1 ≤ j && j ≤ 8) || !canPairBad n
    | 0x1221, 4 => !b.isEmpty
    | 0x1222, 1 => armTarget n
    | 0x1720, 2 => (calendarTicks n).isSome
    | 0x2340, 2 => match forceSpace (s.selOf k 0x2340 1) with | some sp => n < spaceSize sp | none => true
    | 0x2340, 3 => s.forceFits k b
    | 0x2340, 4 => s.forceFits k b
    | 0x2402, 2 => s.earliest ≤ n && n ≤ (s.task 0).landings + 2 ^ 31
    | 0x2403, 2 => edPrimeOrder s.plans.pubKey
    | 0x3EFF, 0x26 => (b.headD 0).toNat ≤ 33
    | _, _ => true

def State.rangeOk (s : State) (k : Nat) (r : Row) (x : WItem) : Bool :=
  let v := bytesVal r.ty x.data
  (x.idx = 0x1221 || rngOk r.ty r.rng v) && s.specialRange k x.idx x.sub (valNat v) x.data

/-- The record and DATA that a write stages in the commit buffer: a record's own DATA, or a persisted RW entry (13 R633, R643). -/
def State.stagesRecord (s : State) (k : Nat) (r : Row) (x : WItem) : Option (Nat × Bytes) :=
  if x.idx = 0x1510 && x.sub = 2 then some (s.selOf k 0x1510 1, x.data)
  else if r.acc = .rwa then none
  else (s.persistedAs x.idx x.sub).map fun rec_ => (rec_, persistData x.idx x.sub r.ty (bytesVal r.ty x.data))

/-- A verification of the staged Plan runs (06 R321). -/
def State.planVerifying (s : State) : Bool := s.plans.stageState = 2 || s.plans.editState = 1

/-- BUSY passes (06 R321, R322; 13 R634, R662; 14 R690; 00 R3). -/
def State.notBusy (s : State) (k : Nat) (r : Row) (x : WItem) : Bool :=
  (match s.stagesRecord k r x with | some (rec_, d) => s.psFits rec_ d | none => true) &&
    match x.idx, x.sub with
    | 0x1520, 3 => x.data.isEmpty || s.nvm.rpReserve ≠ 0
    | 0x1722, 1 => s.fuses.win.burn ≠ 1
    | 0x1800, 5 => s.sup.fw.stage ≠ 2
    | 0x2401, 4 => !s.planVerifying
    | 0x2403, _ => s.fuses.key.burn ≠ 1
    | _, _ => true

/-- The status of a write of one entry, after NO_ENTRY and NO_SUB (10 R507). A CONFIRM that is not the key's digest answers INTEGRITY (06 R310). -/
def State.writeStatus (s : State) (a : Asker) (r : Row) (x : WItem) : Status :=
  let n := valNat (bytesVal r.ty x.data)
  if !s.accessOk a r x.idx x.sub n then .access
  else if !(s.typeOk r x && s.forceWhole a.slot x.idx x.sub x.data) then .type
  else if !s.stateOk r x.idx x.sub n then .state
  else if !s.unlocked a.slot x.idx x.sub n then .locked
  else if !s.rangeOk a.slot r x then .range
  else if x.idx = 0x2403 && x.sub = 2 && n ≠ keyId s.plans.pubKey then .integrity
  else if !s.notBusy a.slot r x then .busy
  else .ok

/-! What an accepted write does -/

/-- A selector takes its value; the default leaves no entry. -/
def State.setSel (s : State) (k idx sub n : Nat) : State :=
  s.updSess k fun x => { x with sel := sput 0 x.sel (key idx sub) n }

/-- The image that ACT_PLAN names passes verification; a module without one has nothing to fail (06 R325; 14 R673 row 19). -/
def State.planHolds (s : State) : Bool :=
  match privInForce s.nvm.priv 8 0 with
  | none => true
  | some r => (s.planReject (s.slotBytes 2 (leNat (r.data.take 1))) false).isNone

/-- CMD 2 of 0x1100: a passing self-test and Plan verification leave Fault for Stop (14 R673 row 19). -/
def State.clearFault (s : State) (bad : Nat) : State :=
  if bad ≠ 0 || !s.planHolds then s
  else
    let s := match s.plans.active, privInForce s.nvm.priv 8 0 with
      | none, some r => s.loadPlan (planOf (s.slotBytes 2 (leNat (r.data.take 1))))
      | _, _ => s
    s.faultCleared.changeMode .stop 19

/-- A restart request of kind 1 cold or 2 warm. A failed self-test beyond the Galleries is a cause of Fault (14 R677). -/
def State.restartRequest (s : State) (kind bad : Nat) : State :=
  if bitAt bad 4 then s.enterFault 5 else s.restart (kind = 2) 1 6 (bad % 16)

/-- CMD of 0x1100 (14 R676). -/
def State.modeCommand (s : State) (n bad : Nat) : State :=
  match n with
  | 1 => s.enterStop 9
  | 2 => s.clearFault bad
  | _ => s.memoryReset 2

/-- CMD of 0x1400 (12 R622): a switchover, or a snapshot of the lockstep class, or of both. -/
def State.pairCommand (s : State) (n : Nat) : State :=
  match n with
  | 1 => s.switchRequest
  | _ => if s.pair.role = 1 then s.letJoin (n = 2) else s.askJoin (n = 2)

/-- CLEAR of 0x1500: every ordinary record is deleted, staged ones as well (13 R668). -/
def State.psClear (s : State) : State :=
  (s.updNvm fun v => { v with
    records := [], filling := { v.filling with items := [] }, running := v.running.map fun b => { b with items := [] } }).ev 0x800B []

/-- SUP_DISABLE: the firmware writes the sequence of 15 R709 (15 R717). -/
def State.supDisable (s : State) : State := (((s.wdtKey 0 0x1DEA true).1).wdtKey 0 0xE21A true).1

/-- The next tick of the 32.768 kHz oscillator after this instant (15 R729). -/
def State.nextTick (s : State) : Nat :=
  s.clock.rtcAt + (((s.now - s.clock.rtcAt) * 32768 / 1000000000 + 1) * 1000000000 + 32767) / 32768

/-- SET of 0x1720, from the next tick on (15 R729). -/
def State.rtcWrite (s : State) (n : Nat) : State :=
  match calendarTicks n with
  | none => s
  | some ticks =>
    let was := s.rtcTicks
    let at_ := s.nextTick
    let s := s.setCalendar ticks
    ({ s with clock := { s.clock with rtcAt := at_, rtcWas := was, syncAt := some s.now } }).ev 0x9010 (leBytes 1 1 ++ leBytes 8 (calendarWord was))

/-- A burn starts: the value goes into the next slot, which is used from now on (00 R3, R5). -/
def fuseStart (f : Fuse) (b : Bytes) : Fuse := { f with used := f.used + 1, burn := 1, next := b }

/-- CMD 2 of 0x1800: the staged firmware is discarded, with its open transfer (14 R673 row 15, R703). -/
def State.fwDiscard (s : State) : State :=
  let s := (s.stageDrop 1).updSup fun v => { v with fw := { v.fw with stage := 0, reject := 0 } }
  (s.updBam fun b => { b with transfers := b.transfers.filter fun (x : Transfer) => x.idx ≠ 0x1800 }).leaveUpdate

/-- CMD 1 of 0x2401: verification starts; with an edit Plan in Run the module moves to Edit (06 R322, R335). -/
def State.planVerify (s : State) : State :=
  let edit := s.verifiesEdit
  let s := s.updPlans fun v => { v with stageState := 2, staged := none, editing := edit, editState := if edit then 1 else v.editState }
  s.when (edit && s.mode = .run) fun s => s.changeMode .edit 10

/-- CMD 2 of 0x2401: the staged Plan is discarded; a verified edit goes with it. -/
def State.planDiscard (s : State) : State :=
  let s := (s.cancelEdit 0).leaveEdit
  let s := s.updBam fun b => { b with transfers := b.transfers.filter fun (x : Transfer) => x.idx ≠ 0x2401 }
  (s.stageDrop 2).updPlans fun v => { v with stageState := 0, staged := none, rejectReason := 0, rejectDetail := 0 }

/-- CMD 3 of 0x2401: the activation pointer is committed, the slots swap, and the module restarts as ACT_KIND says (06 R323). -/
def State.planActivate (s : State) (bad : Nat) : State :=
  match s.plans.staged with
  | none => s
  | some p =>
    let slot := s.vestibule 2
    let kind := s.plans.actKind
    let old := s
    let s := s.privAppend 8 0 (actPlan slot p.digest)
    let s := s.updPlans fun v => { v with
      slot := slot, swaps := 0, lastSwap := 0, stageState := 0, staged := none, prev := [], editState := 0, swapAt := 0 }
    let s := State.applied true old [] (s.loadPlan p)
    (s.ev 0xA012 (leBytes 8 (digestNo p.digest) ++ leBytes 1 kind)).restartRequest kind bad

/-- SWAP_AT arms the edit; a pending switchover is cancelled (06 R336; 12 R615). -/
def State.editArm (s : State) (n : Nat) : State :=
  let s := s.updPlans fun v => { v with editState := 3, swapAt := n, partnerReady := false }
  (s.ev 0xA013 (leBytes 8 n)).cancelSwitch 4

/-- A DATA write through a window (04 R240). -/
def State.windowWrite (s : State) (w : Nat) (b : Bytes) : State :=
  let x := s.window w
  match spaceOf x.space with
  | none => s
  | some sp =>
    let r : Range := ⟨sp, x.off, x.len⟩
    ((s.putRange r b).takeRanges [r]).forwardRange r

def State.setWindow (s : State) (w sub n : Nat) : State :=
  { s with hall := { s.hall with windows := upd s.hall.windows w fun x =>
      match sub with
      | 1 => { x with space := n }
      | 2 => { x with off := n }
      | 3 => { x with len := n }
      | _ => { x with view := n } } }

/-- TIME_SET (10 R490, R535). -/
def State.timeWrite (s : State) (n : Nat) : State :=
  let s := s.stepTime ((n : Int) - s.time)
  { s with net := { s.net with ptp := { s.net.ptp with timeSet := true } } }.masterValid

/-- A role key is set or removed (10 R536). -/
def State.roleKey (s : State) (j : Nat) (b : Bytes) : State :=
  s.updBam fun m => { m with
    keys := upd m.keys (j - 1) fun _ => b, keyFactory := if j = 4 then decide (b = Config.factoryKey) else m.keyFactory }

/-- PROTECT or RP_PROTECT changes (13 R641, R664). -/
def State.protectWrite (s : State) (raw : Bool) (n : Nat) : State :=
  let old := if raw then s.nvm.rpProtect else s.nvm.protect
  let s := s.updNvm fun v => if raw then { v with rpProtect := n } else { v with protect := n }
  s.when (old ≠ n) fun s => s.ev 0x8004 (leBytes 1 (ofBool raw) ++ leBytes 1 n)

/-- Writes to the module's own groups, 0x1000 to 0x1FFF and 0x2401 to 0x2403. -/
def State.moduleEffect (s : State) (a : Asker) (idx sub : Nat) (v : Val) : State :=
  let n := valNat v
  let b := valRaw v
  match idx, sub with
  | 0x1100, _ => s.modeCommand n a.bad
  | 0x1110, _ => s.restartRequest n a.bad
  | 0x1210, _ => s.timeWrite n
  | 0x1221, j => s.roleKey j b
  | 0x1222, _ => s.updSess a.slot fun x => { x with armed := some (n, s.now, x.highSeq) }
  | 0x1400, _ => s.pairCommand n
  | 0x1500, 7 => s.protectWrite false n
  | 0x1500, _ => s.psClear
  | 0x1510, _ => s.psStage (s.selOf a.slot 0x1510 1) b
  | 0x1520, 3 => s.pageWrite (s.selOf a.slot 0x1520 1) b
  | 0x1520, _ => s.protectWrite true n
  | 0x1710, _ => s.updSup fun x => { x with backup := { x.backup with evidence := { x.backup.evidence with valid := false } } }
  | 0x1720, 2 => s.rtcWrite n
  | 0x1720, _ => s.updSup fun x => { x with backup := { x.backup with lost := false } }
  | 0x1721, _ => s.updSup fun x => { x with backup := { x.backup with bytes := b, valid := true } }
  | 0x1722, _ => s.updFuses fun x => { x with win := fuseStart x.win (leBytes 1 n) }
  | 0x1800, _ => if n = 1 then s.updSup fun x => { x with fw := { x.fw with stage := 2, verifyAt := s.now } } else s.fwDiscard
  | 0x1801, _ => s.updSup fun x => { x with fw := { x.fw with confirm := true } }
  | 0x2401, 4 => if n = 1 then s.planVerify else if n = 2 then s.planDiscard else s.planActivate a.bad
  | 0x2401, _ => s.updPlans fun x => { x with actKind := n }
  | 0x2402, 2 => s.editArm n
  | 0x2402, _ => (s.cancelEdit 0).leaveEdit
  | 0x2403, 1 => s.updPlans fun x => { x with pubKey := b }
  | 0x2403, _ => s.updFuses fun x => { x with key := fuseStart x.key s.plans.pubKey }
  | _, 5 => s.updWdt (idx - 0x1700) fun x => { x with lock := true }
  | _, 0x0D => s.supDisable
  | _, _ => s.setVal idx sub v

/-- What a write that takes effect at once does; selectors aside, any other such entry takes the value. -/
def State.entryEffect (s : State) (a : Asker) (idx sub : Nat) (v : Val) : State :=
  let n := valNat v
  if isSelector idx sub then s.setSel a.slot idx sub n
  else if 0x1300 ≤ idx ∧ idx < 0x1400 then s.canState ((idx - 0x1300) / 0x40) 5
  else if idx < 0x2000 ∨ (0x2401 ≤ idx ∧ idx ≤ 0x2403) then s.moduleEffect a idx sub v
  else if 0x2040 ≤ idx ∧ idx ≤ 0x2043 then
    let i := idx - 0x2040
    if sub = 0x1E then s.presetCmd i n else if sub = 0x1F then s.readmitWrite i n else s.setVal idx sub v
  else if isFlCmd idx then s.flCmdWrite (flNumber idx sub) n
  else if isWindow idx then (if sub = 5 then s.windowWrite (idx - 0x2310) (valRaw v) else s.setWindow (idx - 0x2310) sub n)
  else if 0x2600 ≤ idx ∧ idx ≤ 0x262F then (if n = 1 then s.dioReset (idx - 0x2600) else s.dioZero (idx - 0x2600))
  else if 0x2700 ≤ idx ∧ idx ≤ 0x2707 then (if n = 1 then s.aioClear (idx - 0x2700) else s.aioTrim (idx - 0x2700))
  else if idx = 0x2800 then s.dspMode n
  else if isLoop idx ∧ sub = 1 then s.enableLoop (idx - 0x4000) (n ≠ 0)
  else s.setVal idx sub v

/-- The staged operation of an RWA write; force writes, gain tables and buckets take the session's selectors now (04 R241; 07 R392; 16 R759). -/
def State.stagedOp (s : State) (k idx sub : Nat) (v : Val) : StagedOp :=
  let n := valNat v
  let b := valRaw v
  let sp := (forceSpace (s.selOf k 0x2340 1)).getD .hi
  if idx = 0x2340 then (if sub = 3 then .force (.mask sp (s.selOf k 0x2340 2) b) else .force (.value sp (s.selOf k 0x2340 2) b))
  else if idx = 0x3EFF then .gain (s.selOf k 0x3EFF 0x25) (gainPoints b)
  else if isTread idx then .tread (idx - 0x5000) sub (if sub = 8 then leNat b else n)
  else if idx = 0x1610 then .bucket (s.selOf k 0x1610 1) sub n
  else .value idx sub v

def State.stage (s : State) (x : Staged) : State := { s with staged := s.staged ++ [{ x with at_ := some s.now }] }

/-- Entries of the lockstep class that a write changes at once; the active module sends the change as a COMMAND record (12 R597). -/
def lockstepEntry (idx sub : Nat) : Bool :=
  (isLoop idx && sub ≤ 2) || isFlCmd idx || (0x2040 ≤ idx && idx ≤ 0x2043) || (0x2700 ≤ idx && idx ≤ 0x2707 && sub = 0x18)

def State.sendCommand (s : State) (idx sub : Nat) (v : Val) : State :=
  s.when (s.pair.role = 1 && lockstepEntry idx sub) fun s =>
    s.send 3 (.command (if isFlCmd idx then .flCmd (flNumber idx sub) (valNat v) s.time else .write idx sub v))

/-- An accepted write: an RWA entry is staged, any other acts at once and is persisted as the Plan declares (01 R25; 13 R643). -/
def State.writeEffect (s : State) (a : Asker) (r : Row) (x : WItem) : State :=
  let v := bytesVal r.ty x.data
  if x.idx = 0x1120 then s.stage ⟨x.idx, x.sub, .force .clear, a.wait, none⟩
  else if r.acc = .rwa then s.stage ⟨x.idx, x.sub, s.stagedOp a.slot x.idx x.sub v, a.wait, none⟩
  else
    let s := s.when ((tySize r.ty).isNone) fun s => s.bumpVersion x.idx x.sub
    let s := (s.entryEffect a x.idx x.sub v).sendCommand x.idx x.sub v
    s.when (r.acc ≠ .wo) fun s => s.persist x.idx x.sub v

/-- Write one entry; a write that fits in no commit buffer starts a commit (13 R634). -/
def State.writeOne (s : State) (a : Asker) (x : WItem) : State × Status :=
  match lookup x.idx x.sub with
  | (.ok, r) =>
    match s.writeStatus a r x with
    | .ok => (s.writeEffect a r x, .ok)
    | .busy => (s.when (s.stagesRecord a.slot r x).isSome State.commitTrigger, .busy)
    | st => (s, st)
  | (st, _) => (s, st)

/-- A write to every member of a group, in ascending order, each with its own checks (07 R382, R383). -/
def State.writeMembers (s : State) (a : Asker) (x : WItem) (l : List Nat) : State × WriteResult :=
  l.foldl (fun (acc : State × WriteResult) n =>
    let (s, st) := acc.1.writeOne a { x with idx := 0x4000 + n }
    let r := acc.2
    (s, if st = .ok then { r with accepted := r.accepted + 1 }
        else if r.refused = 0xFFFF then { r with status := st, refused := n } else r)) (s, ⟨x.idx, x.sub, .ok, 0, 0xFFFF⟩)

/-- The checks of a group entry itself: class, role, type and mode; the rest is each member's own. -/
def State.groupStatus (s : State) (a : Asker) (r : Row) (x : WItem) : Status :=
  let n := valNat (bytesVal r.ty x.data)
  if !s.accessOk a r x.idx x.sub n then .access
  else if !s.typeOk r x then .type
  else if !s.stateOk r x.idx x.sub n then .state
  else .ok

/-- A write of one item and its RESULT (10 R510, R512). -/
def State.writeAs (s : State) (a : Asker) (x : WItem) : State × WriteResult :=
  let single (p : State × Status) : State × WriteResult := (p.1, ⟨x.idx, x.sub, p.2, ofBool (p.2 = .ok), 0xFFFF⟩)
  if isGroup x.idx && x.sub ≤ 0x0D then
    match lookup x.idx x.sub with
    | (.ok, r) =>
      match s.groupStatus a r x with
      | .ok => s.writeMembers a x (if x.idx = 0x3EFF then s.allLoops else s.groupLoops (x.idx - 0x3E00))
      | st => single (s, st)
    | (st, _) => single (s, st)
  else single (s.writeOne a x)

/-- An item of session slot k uses up the session's arming, or cancels it (10 R508). -/
def State.takeArming (s : State) (k idx sub : Nat) : State × Bool :=
  let armed := match (s.sess k).armed with
    | some (n, at_, _) => n = idx * 256 + sub && s.now ≤ at_ + 10000000000
    | none => false
  (s.updSess k fun x => { x with armed := none }, armed)

/-- Process one write item of session slot k. -/
def State.writeItem (s : State) (k : Nat) (wait : Option (Nat × Nat × Nat)) (bad : Nat) (x : WItem) : State × WriteResult :=
  let (s, armed) := s.takeArming k x.idx x.sub
  s.writeAs ⟨k, (s.sess k).role, armed, wait, bad⟩ x

/-- An authenticated WRITE of one value without APPLY_WAIT: checked, carried out and answered. -/
def State.writeCmd (s : State) (o : Origin) (idx sub : Nat) (data : Bytes) (bad : Nat) : State :=
  s.request o 3 fun k s =>
    let (s, r) := s.writeItem k none bad ⟨idx, sub, tyCode (lookup idx sub).2.ty, data⟩
    s.reply k 3 o.seq r.status (resultBytes r)

/-- A number in `n` bytes. -/
def State.writeNum (s : State) (o : Origin) (idx sub n v bad : Nat) : State := s.writeCmd o idx sub (leBytes n v) bad

end Sys2Proof.Machine
end

