-- ==== Sys2Proof/Machine/DictWrite.lean ====
section
/-! DEFINITION. The commands that write one dictionary entry, a window read, and what the standby does with COMMAND records and the pair's commands (02 R83, R95; 03 R131 to R137; 04 R212, R229, R233, R238 to R241; 06 R309 to R340; 07 R376 to R392; 08 R412; 09 R437, R440, R453, R478; 10 R508, R535, R536; 11 R569; 12 R597, R613, R622; 13 R633 to R668; 14 R673 to R704; 15 R710 to R736). Each carries an authenticated request (log 21). -/
namespace Sys2Proof.Machine

/-- A write request as a command. -/
def writeReq (t : Nat) (o : Origin) (idx sub n v bad : Nat) (s : State) : Outcome := act t (fun s => s.writeNum o idx sub n v bad) s

/-- The same of unit `n` of `count`. -/
def writeUnit (t : Nat) (o : Origin) (what : String) (n count idx sub size v : Nat) (s : State) : Outcome :=
  actUnit t what n count (fun s => s.writeNum o idx sub size v 0) s

/-- A write of bytes. -/
def writeBlob (t : Nat) (o : Origin) (idx sub : Nat) (data : Bytes) (s : State) : Outcome := act t (fun s => s.writeCmd o idx sub data 0) s

/-! Modes and restarts -/

def execModeCmdStop (t : Nat) (o : Origin) (s : State) : Outcome := writeReq t o 0x1100 4 1 1 0 s
/-- CMD 2; `bad` is what the self-test finds. -/
def execModeCmdClearFault (t : Nat) (o : Origin) (bad : Nat) (s : State) : Outcome := writeReq t o 0x1100 4 1 2 bad s
def execModeCmdMres (t : Nat) (o : Origin) (s : State) : Outcome := writeReq t o 0x1100 4 1 3 0 s
/-- REQUEST 1 and 2; `bad` is what the self-test of the start finds. -/
def execRestartCold (t : Nat) (o : Origin) (bad : Nat) (s : State) : Outcome := writeReq t o 0x1110 1 1 1 bad s
def execRestartWarm (t : Nat) (o : Origin) (bad : Nat) (s : State) : Outcome := writeReq t o 0x1110 1 1 2 bad s

/-! Position sources and Flights -/

def execReadmit (t : Nat) (o : Origin) (i mask : Nat) (s : State) : Outcome :=
  writeUnit t o "position source" i 4 (0x2040 + i) 0x1F 1 mask s
def execPresetNow (t : Nat) (o : Origin) (i : Nat) (s : State) : Outcome :=
  writeUnit t o "position source" i 4 (0x2040 + i) 0x1E 1 1 s
def execPresetAtZ (t : Nat) (o : Origin) (i : Nat) (s : State) : Outcome :=
  writeUnit t o "position source" i 4 (0x2040 + i) 0x1E 1 2 s
def execPresetAtLanding (t : Nat) (o : Origin) (i : Nat) (s : State) : Outcome :=
  writeUnit t o "position source" i 4 (0x2040 + i) 0x1E 1 3 s

def execFlArm (t : Nat) (o : Origin) (f : Nat) (s : State) : Outcome :=
  writeUnit t o "Flight" f 256 (0x218C + f / 128) (f % 128 + 1) 1 1 s
def execFlDisarm (t : Nat) (o : Origin) (f : Nat) (s : State) : Outcome :=
  writeUnit t o "Flight" f 256 (0x218C + f / 128) (f % 128 + 1) 1 2 s
def execFlAbort (t : Nat) (o : Origin) (f : Nat) (s : State) : Outcome :=
  writeUnit t o "Flight" f 256 (0x218C + f / 128) (f % 128 + 1) 1 3 s
def execFlAnchorNow (t : Nat) (o : Origin) (f : Nat) (s : State) : Outcome :=
  writeUnit t o "Flight" f 256 (0x218C + f / 128) (f % 128 + 1) 1 4 s

/-! Forcing and Hall windows -/

def execForceMask (t : Nat) (o : Origin) (data : Bytes) (s : State) : Outcome := writeBlob t o 0x2340 3 data s
def execForceValue (t : Nat) (o : Origin) (data : Bytes) (s : State) : Outcome := writeBlob t o 0x2340 4 data s
def execClearAll (t : Nat) (o : Origin) (s : State) : Outcome := writeReq t o 0x1120 5 1 1 0 s

def execHallWinWrite (t : Nat) (o : Origin) (w : Nat) (data : Bytes) (s : State) : Outcome :=
  actUnit t "window" w 16 (fun s => s.writeCmd o (0x2310 + w) 5 data 0) s

/-- A request that writes nothing ends an arming (10 R508). -/
def State.disarm (s : State) (k : Nat) : State := s.updSess k fun x => { x with armed := none }

/-- The answer to a READ; a STR or BLOB beyond 1,396 bytes needs BLOCK_READ (10 R510, R513). -/
def State.answerRead (s : State) (k seq idx sub : Nat) : State :=
  let (s, st, ty, v) := (s.disarm k).readEntry k idx sub
  let b := valBytes ty v
  let st : Status := if st = .ok && 1396 < b.length then .type else st
  s.reply k 2 seq st (leBytes 2 idx ++ leBytes 1 sub ++ leBytes 1 (tyCode ty) ++ if st = .ok then b else [])

/-- HALL_WIN_READ: a READ of a window's DATA (04 R238). -/
def execHallWinRead (t : Nat) (o : Origin) (w : Nat) (s : State) : Outcome :=
  actUnit t "window" w 16 (fun s => s.request o 2 fun k s => s.answerRead k o.seq (0x2310 + w) 5) s

/-! Loops and the Dispatcher -/

def execLoopEnable (t : Nat) (o : Origin) (n : Nat) (on : Bool) (s : State) : Outcome :=
  writeUnit t o "loop" n 2048 (0x4000 + n) 1 1 (ofBool on) s
def execLoopSpWrite (t : Nat) (o : Origin) (n : Nat) (sp : Word) (s : State) : Outcome :=
  writeUnit t o "loop" n 2048 (0x4000 + n) 2 4 sp.toNat s

/-- LOOP_GROUP_WRITE: group g, or every declared loop for g = 64 (07 R382, R383). -/
def execLoopGroupWrite (t : Nat) (o : Origin) (g sub : Nat) (data : Bytes) (s : State) : Outcome :=
  actUnit t "loop group" g 65 (fun s => s.writeCmd o (if g = 64 then 0x3EFF else 0x3E00 + g) sub data 0) s

def execGainDataWrite (t : Nat) (o : Origin) (data : Bytes) (s : State) : Outcome := writeBlob t o 0x3EFF 0x26 data s
def execDispatchOff (t : Nat) (o : Origin) (s : State) : Outcome := writeReq t o 0x2800 1 1 0 0 s
def execDispatchAuto (t : Nat) (o : Origin) (s : State) : Outcome := writeReq t o 0x2800 1 1 1 0 s
def execDispatchHold (t : Nat) (o : Origin) (s : State) : Outcome := writeReq t o 0x2800 1 1 2 0 s

/-! Field channels -/

def execDioResetLatched (t : Nat) (o : Origin) (n : Nat) (s : State) : Outcome := writeUnit t o "DIO" n 48 (0x2600 + n) 0x13 1 1 s
def execDioZeroCounter (t : Nat) (o : Origin) (n : Nat) (s : State) : Outcome := writeUnit t o "DIO" n 48 (0x2600 + n) 0x13 1 2 s
def execAioTrimNow (t : Nat) (o : Origin) (n : Nat) (s : State) : Outcome := writeUnit t o "AIO" n 8 (0x2700 + n) 0x18 1 2 s
def execAioClearLatched (t : Nat) (o : Origin) (n : Nat) (s : State) : Outcome := writeUnit t o "AIO" n 8 (0x2700 + n) 0x18 1 1 s

/-! Networks -/

def execTimeSet (t : Nat) (o : Origin) (time : Nat) (s : State) : Outcome := writeReq t o 0x1210 0x12 8 time 0 s
/-- KEY_SEQ ARM for entry `idx`, sub-index `sub`. -/
def execKeySeqArm (t : Nat) (o : Origin) (idx sub : Nat) (s : State) : Outcome := writeReq t o 0x1222 1 4 (idx * 256 + sub % 256) 0 s
/-- ROLE_KEYS of role 1 to 4. -/
def execRoleKeyWrite (t : Nat) (o : Origin) (role : Nat) (key : Bytes) (s : State) : Outcome := writeBlob t o 0x1221 role key s
def execCanRecoveryCmd (t : Nat) (o : Origin) (n : Nat) (s : State) : Outcome :=
  writeUnit t o "CAN" n 4 (0x1301 + 0x40 * n) 0x0F 1 1 s

/-! Parameter Store and Raw Pages -/

def execPsRecordWrite (t : Nat) (o : Origin) (data : Bytes) (s : State) : Outcome := writeBlob t o 0x1510 2 data s
def execProtect (t : Nat) (o : Origin) (level : Nat) (s : State) : Outcome := writeReq t o 0x1500 7 1 level 0 s
def execPsCleared (t : Nat) (o : Origin) (v : Nat) (s : State) : Outcome := writeReq t o 0x1500 0x0B 4 v 0 s
def execRawPageWrite (t : Nat) (o : Origin) (data : Bytes) (s : State) : Outcome := writeBlob t o 0x1520 3 data s
def execRpProtect (t : Nat) (o : Origin) (level : Nat) (s : State) : Outcome := writeReq t o 0x1520 4 1 level 0 s

/-! Firmware, Plans and fuses -/

def execFwVerify (t : Nat) (o : Origin) (s : State) : Outcome := writeReq t o 0x1800 5 1 1 0 s
def execFwDiscard (t : Nat) (o : Origin) (s : State) : Outcome := writeReq t o 0x1800 5 1 2 0 s
def execFwConfirm (t : Nat) (o : Origin) (s : State) : Outcome := writeReq t o 0x1801 5 1 1 0 s
def execPlanVerify (t : Nat) (o : Origin) (s : State) : Outcome := writeReq t o 0x2401 4 1 1 0 s
def execPlanDiscard (t : Nat) (o : Origin) (s : State) : Outcome := writeReq t o 0x2401 4 1 2 0 s
/-- CMD 3; `bad` is what the self-test of the restart finds. -/
def execPlanActivate (t : Nat) (o : Origin) (bad : Nat) (s : State) : Outcome := writeReq t o 0x2401 4 1 3 bad s
def execSwapAt (t : Nat) (o : Origin) (landing : Nat) (s : State) : Outcome := writeReq t o 0x2402 2 8 landing 0 s
def execCancel (t : Nat) (o : Origin) (s : State) : Outcome := writeReq t o 0x2402 4 1 1 0 s
def execPublicKey (t : Nat) (o : Origin) (key : Bytes) (s : State) : Outcome := writeBlob t o 0x2403 1 key s
def execPlanKeyConfirm (t : Nat) (o : Origin) (digest : Nat) (s : State) : Outcome := writeReq t o 0x2403 2 4 digest 0 s
def execWindowFuseBurn (t : Nat) (o : Origin) (f : Nat) (s : State) : Outcome := writeReq t o 0x1722 1 1 f 0 s

/-! Watchdogs, calendar and backup domain -/

def execWdtLock (t : Nat) (o : Origin) (w v : Nat) (s : State) : Outcome := writeUnit t o "watchdog" w 5 (0x1700 + w) 5 1 v s
def execSupDisable (t : Nat) (o : Origin) (s : State) : Outcome := writeReq t o 0x1700 0x0D 1 1 0 s
def execEvidenceClear (t : Nat) (o : Origin) (s : State) : Outcome := writeReq t o 0x1710 0x0E 1 1 0 s
def execRtcSet (t : Nat) (o : Origin) (v : Nat) (s : State) : Outcome := writeReq t o 0x1720 2 8 v 0 s
def execBkpLostClear (t : Nat) (o : Origin) (s : State) : Outcome := writeReq t o 0x1720 7 1 1 0 s
def execBackupBytesWrite (t : Nat) (o : Origin) (data : Bytes) (s : State) : Outcome := writeBlob t o 0x1721 1 data s

/-! The pair (12 R597, R613, R622) -/

/-- SWITCHOVER: CMD 1 of 0x1400, or (none) the SWITCH frame of a standby that received it. -/
def execSwitchover (t : Nat) (o : Option Origin) (crc : Bool) (s : State) : Outcome :=
  act t (fun s =>
    match o with
    | some o => s.writeNum o 0x1400 0x0D 1 1 0
    | none => s.frame crc fun s => s.when (s.pair.role = 1 && s.switchAccepts) State.switchRequest) s

def execPairResyncCmd (t : Nat) (o : Origin) (s : State) : Outcome := writeReq t o 0x1400 0x0D 1 2 0 s
def execPairRejoinCmd (t : Nat) (o : Origin) (s : State) : Outcome := writeReq t o 0x1400 0x0D 1 3 0 s

end Sys2Proof.Machine
end

