-- ==== Sys2Proof/Machine/Lockstep.lean ====
section
/-! DEFINITION. The lagged timeline of a standby, joining, deltas, takeover and switchover (12 R595 to R616). -/
namespace Sys2Proof.Machine

/-! COMMAND records and the lagged timeline (12 R596, R597) -/

/-- A fallback adopted at the active module's Landing (06 R331). -/
def State.adoptFallback (s : State) (f : Nat) : State :=
  (s.updTasks fun v => { v with fallback := f, fallbackNext := 0, tableAt := s.nextFrame }).ev 0x3030
    (leBytes 1 (f - 1) ++ leBytes 8 ((s.task 0).landings + 1))

/-- The edit that the active module swapped becomes the standby's Plan (06 R338, R339). -/
def State.swapAlong (s : State) (landing : Nat) : State :=
  s.when (s.plans.editState = 3) fun s =>
    let s := s.swapEdit landing
    (s.privAppend 8 0 (actPlan s.plans.slot s.plan.digest)).checkpointOf s.plan (s.retainedImage s.plan)

/-- A COMMAND record acts on the lockstep class; a write of any other entry is none of these records and does nothing (12 R597). -/
def State.takeCommand (s : State) : CmdRec → State
  | .flCmd f cmd _ => s.flCommand f cmd
  | .write idx sub v => s.when (lockstepEntry idx sub) fun s => s.entryEffect ⟨0, 4, false, none, 0⟩ idx sub v
  | .apply l => (s.applyList l).1
  | .fallback f => if s.tasks.fallback = f then s else s.adoptFallback f
  | .swap => s.swapAlong ((s.task 0).landings + 1)
  | .offsets l => l.foldl (fun s e => s.setLoop e.1 (putOffset (coreClock s.now) e.2 (s.loop e.1))) s

/-- One entry of the lagged timeline acts, at its own stamp. -/
def State.lagEntry (s : State) (e : Nat × LagItem) : State :=
  let f (s : State) : State := match e.2 with | .item i => s.takeItem i | .cmd c => s.takeCommand c
  { f { s with now := s.instantOf e.1 } with now := s.now }

/-- What the lagged timeline has reached acts (12 R596, R597; log 152). -/
def State.drain (s : State) : State :=
  let due (e : Nat × LagItem) : Bool := e.1 + 3000 ≤ s.time
  let l := s.pair.lag.filter due
  let items := l.filterMap fun e => match e.2 with | .item i => some (e.1, i) | .cmd _ => none
  let s := s.updPair fun p => { p with
    lag := p.lag.filter fun e => !due e, lastFwd := items.foldl (fun m e => max m e.1) p.lastFwd
    fwdBuf := items.reverse ++ p.fwdBuf.filter fun e => s.time < e.1 + 1000000 }
  l.foldl State.lagEntry s

/-- The standby drains its lagged timeline while it is hot; until the snapshot is loaded all is buffered (12 R596, R601, R605). -/
def State.drainHot (s : State) : State := s.when (s.follows && s.pair.state = 4) State.drain

/-- FORWARD: a FORWARD frame with its SEQ, STAMP and items, each with its OFFSET in ns; a duplicate is discarded, a gap is not repaired (12
R591, R595, R596). -/
def execForward (t : Nat) (crc : Bool) (seq stamp : Nat) (items : List (Nat × FwdItem)) (s : State) : Outcome :=
  act t (fun s => s.frameSeq crc 2 seq fun inOrder s =>
    let s := if inOrder || !s.follows then s else s.lockstepLost
    (s.toLag (items.map fun e => (s.itemStamp (stamp + e.1) e.2, .item e.2))).drainHot) s

/-- COMMAND_RECORD: a COMMAND frame with its SEQ and STAMP; a duplicate is discarded, a gap loses the lockstep (12 R591, R597, R601). -/
def execCommandRecord (t : Nat) (crc : Bool) (seq : Nat) (c : CmdRec) (s : State) (stamp : Nat := 0) : Outcome :=
  act t (fun s => s.frameSeq crc 3 seq fun inOrder s =>
    let s := if inOrder || !s.follows then s else s.lockstepLost
    let at_ := match c with | .flCmd _ _ a => a | _ => stamp
    (s.toLag [(at_, .cmd c)]).drainHot) s

/-- ARMF_ACT: released Flight commands act in issue order; on a standby at their stamps on the lagged timeline (05 R284, R285, R287). -/
def execArmfAct (t : Nat) (s : State) : Outcome :=
  act t (fun s => s.when s.live fun s => if s.base = .standby then s.drainHot else s.armfTo (posClock s.now)) s

/-- Load the lockstep class (12 R601, R605); Gallery 3 keeps its own failure and debug states and counters. -/
def State.loadLockstep (s : State) (x : Lockstep) : State :=
  let s := { s with line := { x.line with gridAt := (s.now : Int) + (x.gridTime - (s.time : Int)) }, treads := { x.treads with words := snorm 0 x.treads.words }, loops := x.loops, field := { s.field with dio := x.dio, aio := x.aio } }
  let s := x.pos.foldl (fun s e => s.updTask e.1 fun _ => canonTask e.2) s
  (s.updGallery 3 fun g => { g with
    accs := x.g3.accs, words := x.g3.words, preds := x.g3.preds, rept := x.g3.rept, busy := x.g3.busy }).updTasks fun v =>
      { v with launches := x.launches }

/-- The Plan's entries stand as on the active module (12 R601, R605). -/
def State.loadParams (s : State) (x : Lockstep) : State :=
  x.params.foldl (fun s (e : Nat × Val) => s.setVal (e.1 / 256) (e.1 % 256) e.2) { s with params := s.params.filter fun e => !isPlanKey e.1 }

/-- The lockstep class stands as in the snapshot, and what was buffered from its Landing on waits for its instant (12 R601, R605; log 152). -/
def State.resumeFrom (s : State) (x : Lockstep) : State :=
  ((s.loadParams x).loadLockstep x).reachHot.updPair fun p => { p with
    lag := p.lag.filter fun e => x.stamp ≤ e.1, fwdBuf := [], shadowBuf := [], lastFwd := x.stamp }

/-- LOCKSTEP_RESYNC: the BULK snapshot of the lockstep class arrives at the standby that asked for it (12 R601). -/
def execLockstepResync (t : Nat) (crc : Bool) (x : Lockstep) (s : State) : Outcome :=
  act t (fun s => s.frame crc fun s =>
    s.when (s.follows && s.pair.state = 3 && s.pair.resyncing) fun s =>
      let s := (s.resumeFrom x).updPair fun p => { p with resyncs := holdMax 32 (p.resyncs + 1) }
      ((s.drainHot).ev 0x7031 (leBytes 8 x.landing)).send 7 .joinDone) s

/-! Deltas on the standby (12 R598, R599) -/

/-- SWAP_AT of the active module reaches the standby: it arms, checks itself at SWAP_AT − 2, or ends its edit (06 R337, R340). -/
def State.swapFollow (s : State) (d : Delta) : State :=
  let v := s.plans
  let s := if d.swapAt ≠ 0 && v.editState = 2 then s.updPlans fun v => { v with editState := 3, swapAt := d.swapAt }
    else if d.swapAt = 0 && v.editState = 3 && d.landing < v.swapAt then s.cancelEdit 0 else s
  let s := s.when d.swapped fun s => s.swapAlong d.landing
  if d.major && d.swapAt ≠ 0 && d.landing + 2 = d.swapAt && s.plans.editState ≠ 3 then s.cancelEdit 0x10 else s

/-- What a delta holds of the Hall and of the frame counts (12 R599). -/
def State.deltaHall (s : State) (d : Delta) : State :=
  let db := snorm false d.bits
  let dw := snorm 0 d.words
  let h := d.outs.foldl (fun (h : Hall) x =>
    let a := spaceBase x.space + x.off
    if spaceIsBit x.space then { h with bits := sblit h.bits db a a x.len }
    else { h with words := sblit h.words dw a a x.len }) s.beforeWrite.hall
  let h := d.written.foldl (fun (h : Hall) e => { h with words := sput 0 h.words e.1 e.2 }) h
  { s with hall := h, net := { s.net with outCount := d.outCount, msgCount := d.msgCount } }

/-- The heads and acknowledged counts of the CAN queues that a delta holds (12 R599). -/
def State.deltaHeads (s : State) (d : Delta) : State :=
  let head (k : Nat) (b : CanQueue) : CanQueue :=
    match d.canHeads.find? (fun (e : Nat × Nat × Nat) => e.1 = k) with
    | some e => { b with head := BitVec.ofNat 32 e.2.1, ack := BitVec.ofNat 32 e.2.2 }
    | none => b
  { s with cans := s.cans.mapIdx fun n (c : Can) => { c with boxes := c.boxes.mapIdx fun q b => head (16 * n + q) b } }

/-- What every delta brings: its task's Landing, the points, queues and transfers that it names, raw pages, a swap, forces. -/
def State.deltaData (s : State) (d : Delta) : State :=
  let kind := (s.plan.tasks.getD d.task default).kind
  let s := (s.deltaHall d).updTask d.task fun x =>
    if kind = 2 then { x with landings := d.landing }
    else { canonTask d.image with phase := .idle, armf := [], segment := 0, pc := 0, old := 0 }
  let s := (s.takeRanges (d.outs.map sectionRange)).takeOutputs (fun _ => false) fun a => d.written.any fun e => e.1 = a
  let s := (s.deltaHeads d).updPair fun p => { p with held := d.bamcon }
  let s := d.pages.foldl (fun s (e : Nat × Bytes) => s.pageWrite e.1 e.2) s
  let s := s.swapFollow d
  match d.forces with | some x => s.takeForces x | none => s

/-- What the delta of a major Landing brings besides: the Dispatcher, the sets that apply, a fallback, record writes, the checkpoint. -/
def State.deltaMajor (s : State) (d : Delta) : State :=
  let s := (match d.dsp with | some x => { s with dsp := x } | none => s).applyStaged
  let s := if d.fallback = 0 || s.tasks.fallback = d.fallback then s else s.adoptFallback d.fallback
  let s := (d.records.foldl (fun s (e : Nat × Bytes) => s.psStage e.1 e.2) s).commitTrigger
  let s := s.updPair fun p => { p with applied := d.landing }
  let img := s.retainedImage s.plan
  let s := s.noteDirty img
  s.when s.ckptDue fun s => s.checkpointOf s.plan img

/-- A complete delta is applied whole (12 R599). -/
def State.applyDelta (s : State) (d : Delta) : State :=
  let s := s.deltaData d
  if d.major then s.deltaMajor d else s

/-- The SWITCH mark: the standby has applied every delta up to SWITCH_AT and sends SWITCH_READY; F is the next frame start (12 R614). -/
def State.switchMarked (s : State) (d : Delta) : State :=
  if d.switchMark then
    (s.updPair fun p => { p with switching := 3, switchAt := d.landing, switchF := s.nextFrame }).send 7 .switchReady
  else s

/-- DELTA: the last byte of a delta arrives; one that comes before the snapshot of a join waits for it (12 R591, R599, R605). -/
def execDelta (t : Nat) (crc : Bool) (d : Delta) (s : State) : Outcome :=
  act t (fun s => s.frame crc fun s =>
    let takes := (s.pair.role = 2 && s.base = .standby && (s.pair.state = 4 || (s.pair.state = 3 && s.pair.resyncing)))
      || (s.pair.role = 1 && s.pair.switching = 4)
    let early := s.pair.role ≠ 1 && s.pair.state = 3 && !s.pair.resyncing
    s.when (takes || early) fun s =>
      match s.takeSeq 5 d.seq with
      | none => s
      | some (s', true) =>
        if early then s'.updPair fun p => { p with early := p.early ++ [d] }
        else ((s'.drainHot.applyDelta d).switchMarked d).send 9 (.ack d.seq s'.verifiedDigest)
      | some (_, false) =>
        let next := s.pair.seqRx.getD 5 0 % 2 ^ 32
        (s.updPair fun p => { p with naks := holdMax 32 (p.naks + 1) }).send 9
          (.nak ((List.range (d.seq - next)).map (next + ·)))) s

/-! Joining (12 R605) -/

/-- The copy class stands as in the snapshot; Galleries, windows and ECC counts are the module's own. -/
def State.joinCopy (s : State) (x : Snapshot) : State :=
  let own := s.tasks.galleries
  let idle (v : TaskSt) (k : Nat) : TaskSt :=
    if (s.plan.tasks.getD k default).kind = 2 then v else { v with phase := .idle, armf := [], segment := 0, pc := 0, old := 0 }
  { s with
    hall := { canonHall x.hall with windows := s.hall.windows, corrected := s.hall.corrected }
    tasks := { x.tasks with galleries := own, tasks := x.tasks.tasks.mapIdx fun k v => idle (canonTask v) k, armf := [] }
    dsp := x.dsp }

/-- The snapshot of both classes reaches the module that joins: what was buffered of both follows, and the module is a standby. -/
def State.joinLoad (s : State) (x : Snapshot) : State :=
  let again := s.pair.role = 2
  let landing := x.lock.landing
  let s := (s.joinCopy x).forceEvents s.forced
  let early := s.pair.early
  let s := (s.resumeFrom x.lock).updPair fun p => { p with applied := landing, early := [] }
  let s := early.foldl (fun s d => (if (s.task d.task).landings < d.landing then s.applyDelta d else s).send 9 (.ack d.seq s.verifiedDigest)) s
  let s := (s.send 7 .joinDone).enterStandby 8 1
  let s := s.drainHot
  let s := s.ev 0x7002 (leBytes 8 (match s.pair.partner with | some h => h.digest | none => 0))
  s.when again fun s => s.ev 0x7005 []

/-- JOIN: the partner asks the active module for a snapshot of the lockstep class or of both (`ask`), or the snapshot of both classes
reaches the module that joins (`load`) (12 R605). -/
def execJoin (t : Nat) (crc : Bool) (ask : Option Bool) (load : Option Snapshot) (s : State) : Outcome :=
  act t (fun s => s.frame crc fun s =>
    let s := match ask with
      | some l => s.when (s.pair.role = 1 && (s.pair.state = 2 || s.pair.state = 3 || s.pair.state = 4)) fun s => s.letJoin l
      | none => s
    match load with
    | some x =>
      s.when (s.pair.role ≠ 1 && s.pair.state = 3 && !s.pair.resyncing && !s.stopHeld && (s.mode = .stop || s.mode = .standby)) fun s =>
        s.joinLoad x
    | none => s) s

/-! Takeover (12 R609 to R612, R620) -/

/-- RAMPING of the current outputs (09 R469). -/
def State.setRamping (s : State) (v : Bool) : State :=
  { s with field := { s.field with aio := s.field.aio.mapIdx fun n (x : Aio) => if s.aioCfg n 1 = 2 then { x with ramping := v } else x } }

/-- The sessions of the last delta, over this module's keys and counters (12 R609 step 4). -/
def State.takeSessions (s : State) : State :=
  match s.pair.held with
  | none => s
  | some b =>
    s.updBam fun own => { own with
      sessions := b.sessions, issued := max own.issued b.issued, transfers := b.transfers, nextTransfer := b.nextTransfer, subs := b.subs
      waits := b.waits }

/-- Each PAIR_IP is announced by gratuitous ARP (12 R609 step 4). -/
def State.announceIps (s : State) : State :=
  [0, 1].foldl (fun s p =>
    let ip := s.cfg 0x1400 (0x13 + p)
    if ip = 0 then s else s.transmit p (.arp p ip false)) s

/-- Shadow samples stamped after the last forwarded item, oldest first (12 R609 step 1). -/
def State.lateShadow (s : State) : List FwdItem :=
  ((s.pair.shadowBuf.filter fun e => s.pair.lastFwd < e.1).map (·.2)).reverse

/-- The ramps of 1 ms of the current outputs begin (09 R469). -/
def State.rampOuts (s : State) (up : Bool) : State :=
  ((List.range 8).filter fun n => s.aioCfg n 1 = 2).foldl (fun s n => s.emit (.ramp n (s.aioOutput n) up s.now)) s

/-- The estimator ticks that lie in the 3 µs which the timeline skips, by instant (12 R609; 02 R85). -/
def State.skippedTicks (s : State) (i : Nat) : List Nat :=
  let p := s.srcCfg i 9
  let last := ((s.now : Int) - s.line.gridAt) / (p : Int)
  let first := ((s.now : Int) - 3000 - s.line.gridAt) / (p : Int)
  if p = 0 then [] else (List.range (last - first).toNat).map fun (j : Nat) => (s.line.gridAt + (first + 1 + (j : Int)) * (p : Int)).toNat

/-- The estimators reach the present before the shadow samples act on them. -/
def State.catchTicks (s : State) : State :=
  (List.range 4).foldl (fun s i => (s.skippedTicks i).foldl (fun s u => { ({ s with now := u }.estimatorTick i) with now := s.now }) s) s

/-- Loops whose class ticked in the 3 µs that the timeline skips take one sample, and count further ones as overruns (12 R609; 07 R355). -/
def State.catchSamples (s : State) : State :=
  (List.range 8).foldl (fun s k =>
    let p := s.classPeriod k
    let a := s.tasks.runAt
    let n := if p = 0 || !s.loopsRun || s.now < a then 0 else (s.now - a) / p - (s.now - 3000 - a) / p
    (List.range n).foldl (fun s _ => s.classTick k) s) s

/-- The lockstep class runs live on this module from here on, which becomes the active one: forwarded items are no longer processed, records
that wait act at once, then the shadow samples (12 R609, R614; 14 R673 row 12). -/
def State.becomeActive (s : State) (cause : Nat) : State :=
  let s := s.drain
  let l := s.lateShadow
  let cmds := s.pair.lag.filterMap fun e => match e.2 with | .cmd c => some c | .item _ => none
  let s := cmds.foldl State.takeCommand (s.updPair fun p => { p with lag := [] })
  let s := ((l.foldl State.takeItem (s.catchTicks.changeMode .run 12)).catchSamples)
  let s := (s.setRole 1 cause).updPair fun p => { p with shadowBuf := [], fwdBuf := [], compare := [], resyncing := false, buffer := [] }
  let s := if cause = 2 then s.driveAll else s.driveDigital.rampOuts true
  s.takeSessions.announceIps

/-- The standby takes over warm, or cold by a restart; with MODE_STOP low it moves to Stop at once (12 R609, R620; 14 R675).
`evidence` is that of event 0x7010. -/
def State.takeover (s : State) (evidence : Nat) : State :=
  let cold := s.pair.state = 6
  let s := s.cancelSwitch 3
  let s := (s.updPair fun p => { p with
    state := 2, silent := false, after := 0, takeovers := holdMax 32 (p.takeovers + 1), lastTakeover := s.time, switching := 0 }).ev 0x7010
      (leBytes 1 evidence ++ leBytes 1 (ofBool cold))
  let s := if cold then ((s.setRole 1 2).restart false 1 12 0) else (s.setRamping false).becomeActive 2
  s.when s.stopHeld fun s => s.enterStop 9

/-- A standby that cannot take over warm enters Stop (12 R608). -/
def State.standbyStop (s : State) (cause : Nat) : State := (s.ev 0x7003 (leBytes 1 cause)).enterStop 9

/-- The standby has evidence of the loss. -/
def State.lossDeclared (s : State) (evidence cause : Nat) : State :=
  if s.pair.state = 4 || s.pair.state = 6 then s.takeover evidence else s.standbyStop cause

/-- CORRIDOR_SILENCE: both lanes have been silent for 20 µs. On a standby: `pin` a paralleled DIO output that is commanded on and has read
off, `analog` the condition of R470, `driven` a channel of a paralleled output commanded on that is driven at the pin (12 R608, R612); HANDOVER decides before
silence (R621). -/
def execCorridorSilence (t : Nat) (pin analog : Bool) (driven : Option Nat) (s : State) : Outcome :=
  act t (fun s =>
    s.when (s.live && s.mode ≠ .boot && s.paired && !s.pair.silent) fun s =>
      let s := (s.laneSet 0 false).laneSet 1 false
      let s := s.updPair fun p => { p with silent := true, silentAt := s.now, silences := holdMax 32 (p.silences + 1) }
      if s.pair.role = 1 then s.partnerLost (if s.pair.sense then 1 else 2)
      else if s.pair.role = 2 then
        let s := s.updPair fun p => { p with unaligned := true }
        if s.pair.state ≠ 4 && s.pair.state ≠ 6 then s.standbyStop 1
        else if s.pair.switching = 5 || s.coming coreClock (fun c => match c with | .handover _ crc => crc | _ => false) then s
        else if !s.pair.sense then s.takeover 1
        else if pin then s.takeover 2
        else if analog then s.takeover 3
        else match driven with
          | some ch => (s.updPair fun p => { p with state := 5 }).ev 0x7051 (leBytes 1 ch)
          | none => s
      else s.updPair fun p => { p with state := 0 }) s

/-- SILENCE_CONFIRM: silence has lasted, with every paralleled output commanded off or below 1 mA (12 R608). -/
def execSilenceConfirm (t : Nat) (allOff : Bool) (s : State) : Outcome :=
  act t (fun s =>
    s.when (s.live && s.pair.role = 2 && s.pair.silent && s.pair.sense && allOff && (s.pair.state = 4 || s.pair.state = 6)
        && s.pair.silentAt + 1000000 * s.cfg 0x1400 9 ≤ s.now) fun s => s.takeover 4) s

/-- PAIR_SENSE_CHANGE: the partner's supply appears or goes; the lanes are powered with it (12 R588, R608). -/
def execPairSenseChange (t : Nat) (sense : Bool) (s : State) : Outcome :=
  act t (fun s =>
    s.when (s.live && s.pair.sense ≠ sense) fun s =>
      let s := s.updPair fun p => { p with sense := sense }
      if sense || s.mode = .boot then s
      else
        let s := (s.laneSet 0 false).laneSet 1 false
        if s.pair.role = 2 && s.pair.silent then s.lossDeclared 1 2 else s) s

/-- No committed TRG edge and no Tread head due within ±4 µs (12 R614). -/
def State.quietClock (s : State) : Bool :=
  (s.treads.trgs.all fun (x : Trg) => x.edges.all fun e => s.now + 4000 < e.time || e.time + 4000 < s.now)
    && (List.range 4).all fun i => !s.headNear i

/-- SWITCH_T_SW: the first quiet position clock at or after F, or after a HANDOVER: the roles change (12 R614 steps 4 and 5, R616). -/
def execSwitchTSw (t : Nat) (s : State) : Outcome :=
  act t (fun s =>
    let hand := s.pair.switching = 5
    s.when (s.live && (s.pastF || hand) && (s.pair.role = 1 || s.pair.role = 2) && s.quietClock) fun s =>
      let cause := if hand then 4 else 3
      let s := if s.pair.role = 2 then s.becomeActive cause
        else
          ((s.rampOuts false).enterStandby 13 cause).dioDriveAll
      (s.setRamping true).updPair fun p => { p with switching := 4, after := 0, hotAt := s.time, rampAt := s.now + 1000000, state := 4, applied := (s.task 0).landings }) s

/-- SWITCHOVER_DONE: the ramps end 1 ms after T_sw (12 R614 step 6). -/
def execSwitchoverDone (t : Nat) (s : State) : Outcome :=
  act t (fun s =>
    s.when (s.live && s.pair.switching = 4 && s.pair.rampAt ≤ s.now) fun s =>
      let n := s.pair.switchAt
      ((s.setRamping false).updPair fun p => { p with
        switching := 0, switchAt := 0, switchovers := holdMax 32 (p.switchovers + 1) }).ev 0x7011 (leBytes 1 1 ++ leBytes 8 n)) s

/-- HANDOVER: the active module leaves the role; the standby takes over through steps 4 to 6 of R614 (12 R608, R616, R621). -/
def execHandover (t : Nat) (crc : Bool) (s : State) : Outcome :=
  act t (fun s => s.frame crc fun s =>
    s.when (s.pair.role = 2 && s.base = .standby) fun s =>
      if s.pair.state = 6 then s.takeover 5
      else if s.pair.state = 4 then
        (s.updPair fun p => { p with switching := 5 }).ev 0x7010 (leBytes 1 5 ++ leBytes 1 0)
      else s) s

end Sys2Proof.Machine
end

