-- ==== Sys2Proof/Machine/Boot.lean ====
section
/-! DEFINITION. Power failure and its save, resets, and Boot (00 R4 to R6; 02 R99 to R102; 06 R325; 12 R604; 13 R638, R644, R649 to R656, R663, R666; 14 R673, R680 to R687, R691; 15 R719 to R732; 16 R751). -/
namespace Sys2Proof.Machine

/-! Power failure (13 R654; 14 R684, R685; 16 R751) -/

/-- The activation pointer names another slot than the one that runs: a swap has not committed it (06 R339). -/
def State.actPlanOps (s : State) : List PrivOp :=
  match s.plans.active, privInForce s.nvm.priv 8 0 with
  | some p, some r => if leNat (r.data.take 1) = s.plans.slot then [] else [⟨8, 0, 0, actPlan s.plans.slot p.digest⟩]
  | some p, none => [⟨8, 0, 0, actPlan s.plans.slot p.digest⟩]
  | none, _ => []

/-- Chunks and RETAIN_COMMIT of the save; none without a Plan or with FAULT_CAUSE 1. -/
def State.retainOps (s : State) : List PrivOp :=
  match s.plans.active with
  | some p => if s.sup.cause = 1 then [] else s.checkpointOps p (s.retainedImage p)
  | none => []

/-- Steps 3 to 5 of the save. -/
def State.saveOps (s : State) : List PrivOp :=
  s.actPlanOps ++ s.retainOps ++ [⟨3, 0, 0, s.posSave⟩, ⟨5, 0, 0, leBytes 8 s.hours⟩]

/-- Half steps of a commit with its summary block. -/
def commitSteps (b : PsBuffer) : Nat := if b.items.isEmpty then 0 else 4 * b.items.length + 2

/-- The first `cut` half steps of steps 3 to 6 of the save. -/
def State.saved (s : State) (cut : Nat) : Nvm :=
  let ops := s.saveOps
  let v := appendOps cut ops s.nvm
  let cut := cut - 2 * ops.length
  let run := s.nvm.running.getD default
  let v := if run.items.isEmpty then v else cutCommit v run cut
  let v := if s.nvm.filling.items.isEmpty then v else cutCommit v s.nvm.filling (cut - commitSteps run)
  { v with running := none, filling := default }

/-- Half steps of the whole save. -/
def State.saveSteps (s : State) : Nat := 2 * s.saveOps.length + commitSteps (s.nvm.running.getD default) + commitSteps s.nvm.filling

/-- The save: as far as the hold-up carries it, in half steps, and whole once the store has its charge (R686); `us` is its time and
`arch` how many pending records it archives. -/
def State.powerSave (s : State) (cut us arch : Nat) : State :=
  let whole := s.sup.power.holdReady || s.saveSteps ≤ cut
  let chunks := s.retainOps.length - 1
  let v := s.saved (if whole then s.saveSteps else cut)
  let s := { s with nvm := v }
  if whole then
    let s := s.updNvm fun v => { v with saved := some (privSeq v.priv 2 0, chunks, us), lastSave := us }
    (List.range arch).foldl (fun s _ => s.archiveNext) s
  else s

/-- POWER_FAIL: VL, now `mv`, has stayed below 18.0 V for 20 µs. The sequence of R685 runs to its end: the save, then the reset. In
reset the supply is simply gone. -/
def execPowerFail (t mv cut us arch : Nat) (s : State) : Outcome :=
  act t (fun s =>
    if 18000 ≤ mv then s
    else if !s.live then
      s.updSup fun v => { v with power := { v.power with vl := mv, nextCause := 1 } }
    else
      let s := s.updSup fun v => { v with power := { v.power with
        vl := mv, fails := holdMax 32 (v.power.fails + 1), lastFail := s.time, saveEnd := s.now + 1000 * us } }
      let s := s.ev 0x9040 (leBytes 4 (f32Of ((mv : Rat) / 1000)).toNat)
      let s := s.when (s.pair.role = 1 && s.pair.state = 4) fun s => s.send 7 .handover
      let s := if s.mode = .boot then s else s.powerSave cut us arch
      s.fallToReset 4) s

/-- HOLDUP_EXHAUSTED: the store is empty: Backup, where VBAT keeps the backup domain. The next start is one by VL. -/
def execHoldupExhausted (t : Nat) (vbat : Bool) (s : State) : Outcome :=
  act t (fun s =>
    s.when (s.inReset && s.sup.power.vl < 18000) fun s =>
      let s := s.updSup fun v => { v with power := { v.power with nextCause := 1 } }
      if vbat then { s with mode := .backup } else s) s

/-! What a reset leaves (14 R683; 15 R719 to R721, R723) -/

/-- A fuse group after a reset: a burn in progress has used its slot up; a power-on reset takes the committed value (00 R4, R5). -/
def fuseReset (power : Bool) (f : Fuse) : Fuse :=
  { (default : Fuse) with
    used := f.used, committed := f.committed, value := if power then f.committed else f.value
    burn := if power || f.burn ≠ 2 then 0 else 2 }

/-- The NOR keeps what is programmed and its counts over life; a commit in progress stopped after `cut` half steps (13 R666). -/
def nvmReset (v : Nvm) (cut : Nat) : Nvm :=
  let v := match v.running with | some b => if b.items.isEmpty then v else cutCommit v b cut | none => v
  { resetNvm with
    records := v.records, commitNo := v.commitNo, recordCommits := v.recordCommits, halted := v.halted
    eraseMax := v.eraseMax, privEraseMax := v.privEraseMax, reserve := v.reserve, privReserve := v.privReserve, rpReserve := v.rpReserve
    priv := v.priv, privBytes := v.privBytes, pages := v.pages, pageWrites := v.pageWrites, journal := v.journal, gens := v.gens
    totals := v.totals, fwSlots := v.fwSlots, saved := v.saved, lastSave := v.lastSave }

/-- The recorder restarts after its newest archived record; buckets are free until a Plan is loaded (16 R751). -/
def recorderReset (r : Recorder) : Recorder :=
  { State.reset.recorder with
    next := r.archNext, archive := r.archive, archNext := r.archNext, archTail := r.archTail, recorded := r.recorded }

/-- The Margin Ledger keeps its samples, retired sectors, AVS_STEP and trim (16 R739 to R746). -/
def ledgerReset (l : Ledger) : Ledger :=
  { State.reset.sup.ledger with
    items := l.items, avsStep := l.avsStep, avsAt := l.avsAt, refTrim := l.refTrim, retired := l.retired, refreshed := l.refreshed
    refreshAt := l.refreshAt, hour := l.hour }

/-- The Supervisor after a reset by `cause`, power-on or not. -/
def supReset (v : Sup) (cause : Nat) (power clearTrial : Bool) : Sup :=
  { State.reset.sup with
    power := { State.reset.sup.power with
      vl := v.power.vl, fails := v.power.fails, lastFail := v.power.lastFail, pinResets := v.power.pinResets, cause := cause }
    fw := { State.reset.sup.fw with actAt := v.fw.actAt }
    wdts := v.wdts.map fun (x : Wdt) => { (default : Wdt) with lock := x.lock && !power }
    backup := { v.backup with actPending := v.backup.actPending && !clearTrial }
    ledger := ledgerReset v.ledger }

/-- ACT_PENDING after a reset within the activation pause: the ROM loader has cleared it once its step 3 is over (14 R697, R699). -/
def State.trialOver (s : State) : Bool :=
  match s.sup.fw.pauseAt with
  | some a => decide (a + 120200000 ≤ s.now)
  | none => false

/-- The working copy of the operating hours at this instant (13 R649). -/
def State.hoursCopy (s : State) : Option Nat := if s.inReset then s.sup.backup.hours else s.sup.backup.hours.map fun _ => s.hours

/-- The module as firmware finds it: reset, but for the NOR, the backup domain as R723 lists it and the calendar; step 1 of Boot was `b.bootMs` ago. -/
def State.afterReset (s : State) (b : BootIn) (cause : Nat) (power : Bool) : State :=
  let sup := supReset s.sup cause power s.trialOver
  let sup := { sup with
    backup := { sup.backup with hours := s.hoursCopy, vbat := 0, vbatAt := none, vbatLow := false, lastSet := 0 }
    power := { sup.power with fwMs := b.fwMs, selftestMs := b.selfMs, planMs := b.planMs, bootMs := b.bootMs }
    pinRun := b.run, pinStop := b.stop, pinMres := b.mres, mresAt := s.now }
  { State.reset with
    pending := s.pending, now := s.now, fresh := s.fresh, outbox := s.outbox, inReset := false
    bootAt := if power then s.now - 1000000 * b.bootMs else s.bootAt
    line := { State.reset.line with gridAt := if power then s.now - 1000000 * b.bootMs else s.line.gridAt }
    treads := { State.reset.treads with trgs := State.reset.treads.trgs.map fun (x : Trg) => { x with swapAt := s.now } }
    crossings := if cause = 5 then s.crossings else State.reset.crossings
    resyncs := if cause = 5 then s.resyncs else State.reset.resyncs
    clock := { State.reset.clock with
      refNow := s.now, rtcBase := s.clock.rtcBase, rtcAt := s.clock.rtcAt, rtcWas := s.clock.rtcWas, rtcEnd := s.clock.rtcEnd, osf := s.clock.osf }
    recorder := recorderReset s.recorder
    plans := { State.reset.plans with slots := s.plans.slots, slot := s.plans.slot }
    net := { resetNet with bamcon := { resetNet.bamcon with issued := s.net.bamcon.issued } }
    pair := { resetPair with sense := b.sense, roleSel := b.roleSel }
    nvm := nvmReset s.nvm b.cut, sup := sup, fuses := ⟨fuseReset power s.fuses.win, fuseReset power s.fuses.key⟩ }

/-! Boot -/

/-- Operating hours and power cycles: the larger of record and working copy; a power-on reset counts (13 R646, R649). -/
def State.bootCounts (s : State) (power : Bool) : State :=
  let rec_ (type_ : Nat) : Nat := ((privInForce s.nvm.priv type_ 0).map fun r => leNat r.data).getD 0
  let hours := max (rec_ 5) (s.sup.backup.hours.getD 0)
  let cycles := max (rec_ 6) (s.sup.backup.cycles.getD 0) + ofBool power
  let s := { s with clock := { s.clock with hoursBase := hours, hoursAt := s.now, cycles := cycles } }
  let s := s.updSup fun v => { v with backup := { v.backup with hours := some hours, cycles := some cycles } }
  s.when power fun s => s.privAppend 6 0 (leBytes 4 cycles)

/-- Valid privileged records that share the SEQ in force of their TYPE and INDEX (13 R647). -/
def seqTies (l : List PrivRec) : List PrivRec :=
  let good := l.filter (·.valid)
  let same (x y : PrivRec) : Bool := x.type_ = y.type_ && x.index = y.index
  let top := good.filter fun x => (good.filter (same x)).all fun y => y.seq ≤ x.seq
  (top.filter fun x => 2 ≤ top.countP (same x)).foldl (fun (acc : List PrivRec) x => if acc.any (same x) then acc else acc ++ [x]) []

/-- What the start finds of interrupted commits and saves (13 R638, R647, R656, R663, R666). -/
def State.bootFindings (s : State) (b : BootIn) : State :=
  let s := s.norRead b.nor
  let v := s.nvm
  let s := match b.rebuilt with | some ms => s.ev 0x8008 (leBytes 4 ms) | none => s
  let s := match v.halted with | some (no, k) => s.ev 0x8001 (leBytes 4 no ++ leBytes 2 k) | none => s
  let s := (seqTies v.priv).foldl (fun s r => s.ev 0x8003 (leBytes 1 r.type_ ++ leBytes 1 r.index ++ leBytes 4 r.seq)) s
  let s := match v.saved with | some (seq, k, us) => s.ev 0x8005 (leBytes 4 seq ++ leBytes 2 k ++ leBytes 4 us) | none => s
  let top := (v.priv.filter fun (r : PrivRec) => r.type_ = 2 && r.valid).foldl (fun m (r : PrivRec) => max m r.seq) 0
  let s := s.when (v.priv.any fun r => r.type_ = 1 && r.valid && top < r.ckpt) fun s => s.ev 0x8006 (leBytes 4 top)
  let s := s.when (b.torn ≠ 0) fun s => (s.updNvm fun v => { v with recovered := b.torn }).ev 0x8009 (leBytes 4 b.torn)
  s.updNvm fun v => { v with halted := none, saved := none }

/-- What the start finds in the backup domain and the fuses (00 R6; 15 R719, R725, R726, R732). Evidence captured within a power failure
led to no watchdog reset, so no 0x9006 tells of one. -/
def State.bootEvidence (s : State) : State :=
  let e := s.sup.backup.evidence
  let s := s.when e.report State.wdtEvent
  let s := s.when (e.report && s.sup.power.cause = 3) fun s => s.ev 0x9006 (leBytes 1 e.wdt ++ leBytes 4 (evidencePc e))
  let s := s.when s.clock.osf fun s => s.ev 0x9011 (leBytes 8 (calendarWord s.rtcTicks))
  let s := s.when s.sup.backup.tell fun s => s.ev 0x9012 []
  let spent (f : Fuse) : Bool := f.used = 2 && f.committed.isEmpty
  let s := s.when (spent s.fuses.win) fun s => s.ev 0x9020 (leBytes 1 1)
  let s := s.when (spent s.fuses.key) fun s => s.ev 0x9020 (leBytes 1 2)
  s.updSup fun v => { v with backup := { v.backup with tell := false, evidence := { v.backup.evidence with report := false } } }

/-- The Plan that the activation pointer names is verified and loaded; without one there is none (06 R325). -/
def State.bootPlan (s : State) : State :=
  match privInForce s.nvm.priv 8 0 with
  | none => s
  | some r =>
    let slot := leNat (r.data.take 1) % 2
    let s := s.updPlans fun v => { v with slot := slot }
    let b := s.slotBytes 2 slot
    match s.planReject b false with
    | none =>
      let s := s.loadPlan (planOf b)
      s.updNvm fun v => { v with committed := ((s.retainFind s.plan.schema).1.map (·.1)).getD [] }
    | some r => s.ev 0xA017 (leBytes 2 r.reason ++ leBytes 1 slot)

/-- Entries of which a write acts and leaves no value of theirs, or whose value has its own home (13 R633, R658; 15 R723). -/
def actsOnly (idx sub : Nat) : Bool :=
  isSelector idx sub || (idx = 0x1222 && sub = 1) || (idx = 0x1500 && sub = 0x0B) || (idx = 0x1510 && sub = 2) || (idx = 0x1520 && sub = 3)
    || (idx = 0x1721 && sub = 1) || (idx = 0x1722 && sub = 1) || (idx = 0x2402 && sub = 2) || (idx = 0x2403 && sub = 2)

/-- One persisted entry takes the value of its record, or the record is ignored (13 R644). -/
def State.restoreEntry (s : State) (e : Nat × Nat × Nat) : State :=
  let (idx, sub, rec_) := e
  let (s, d) := s.psRead rec_
  match d with
  | none => s
  | some [] => s
  | some d =>
    let ignore (s : State) : State := s.ev 0x800A (leBytes 2 rec_ ++ leBytes 2 idx ++ leBytes 1 sub)
    match lookup idx sub with
    | (.ok, r) =>
      let x : WItem := ⟨idx, sub, leNat ((d.drop 3).take 1), d.drop 4⟩
      let v := bytesVal r.ty x.data
      let c : Staged := ⟨idx, sub, s.stagedOp 0 idx sub v, none, none⟩
      if leNat (d.take 2) ≠ idx || leNat ((d.drop 2).take 1) ≠ sub || !s.typeOk r x || !s.rangeOk 0 r x
          || (r.acc = .rwa && (s.put c).refuses c) then ignore s
      else if actsOnly idx sub then s
      else if r.acc = .rwa then s.put c
      else s.entryEffect ⟨0, 4, true, none, 0⟩ idx sub v
    | _ => ignore s

/-- An encoder input takes the MODE of the Plan and what its pins show; no handshake (02 R44). -/
def State.bootEnc (s : State) (b : BootIn) (n : Nat) : State :=
  let x := b.encs.getD n default
  let s := (s.updEnc n fun e => { e with a := x.a, b := x.b, low := x.low }).startEnc n
  match x.ssi with
  | some (raw, err, par) => s.when (s.encMode n = 2 && s.lineFault n = 0) fun s => s.ssiRead n s.now raw err par
  | none => s

/-- The record POS_SAVE of source i: its LPC and fusion remainder. -/
def posSaved (b : Bytes) (i : Nat) : Dword × Nat :=
  let x := b.drop (16 * i)
  (BitVec.ofNat 64 (leNat (x.take 8)), leNat ((x.drop 8).take 2))

/-- A source that the Plan enables starts by RETAIN (02 R99 to R102); an import without valid PTP is lost (R109). An SSI input that
ENC_ENABLE disables is none that R99 names, which is the model's choice (log 140). -/
def State.bootSource (s : State) (save : Option Bytes) (i : Nat) : State :=
  let start (s : State) (lpc : Dword) (rem : Nat) (homed restored : Bool) : State :=
    (s.updSrc i fun r => { r with
      enabled := true, lpc := lpc, x := lpc.toInt * 2 ^ 32, rem := rem, homed := homed, restored := restored
      travel := List.replicate 8 0, tickAt := s.now, sampleAt := s.now }).refreshSource i
  let start (s : State) (lpc : Dword) (rem : Nat) (homed restored : Bool) : State :=
    (start s lpc rem homed restored).when (s.srcCfg i 1 ≠ 0 && !s.clock.ptpValid) fun s => s.loseSource i
  if !bitAt (s.cfg 0x2000 2) i then s
  else
    match s.srcCfg i 0x0D, save with
    | 1, some b => let p := posSaved b i; start s p.1 p.2 false true
    | 1, none => (start s 0 0 false false).ev 0x2015 (leBytes 1 i ++ leBytes 8 0)
    | 2, _ =>
      let ssi : Option Nat := (List.range 8).find? fun n => bitAt (s.srcCfg i 2) n && s.encMode n = 2
      match ssi with
      | none => start s 0 0 false false
      | some n =>
        match s.encValid n, (s.enc n).ssiPrev with
        | true, some v => start s (s.absolute i n v) 0 true false
        | _, _ =>
          (start (s.updSrc i fun r => { r with awaitAbs := some n }) 0 0 false false).ev 0x2018 (leBytes 1 i ++ leBytes 1 n)
    | _, _ => start s 0 0 false false

/-- Position sources start; POS_SAVE is read once (02 R99, 13 R653). -/
def State.bootSources (s : State) (b : BootIn) : State :=
  let s := (List.range 8).foldl (fun s n => s.bootEnc b n) s
  let save := (privInForce s.nvm.priv 3 0).map (·.data)
  let s := (List.range 4).foldl (fun s i => s.bootSource save i) s
  s.when save.isSome fun s => s.privAppend 3 0 []

/-- TRG channels stand at IDLE, enabled CAN channels integrate, outputs are safe (03 R151; 09 R472; 11 R575). -/
def State.bootIo (s : State) : State :=
  let s := (List.range 16).foldl (fun s c => s.updTrg c fun x => { x with level := s.trgIdle c }) s
  let s := (List.range 4).foldl (fun s n => s.when (s.canEnabled n) fun s => s.canState n 1) s
  s.outputsSafe

/-- Boot ends: in Stop, in Run through a restart, or in Fault (14 R673 rows 3 to 5, R681, R682; 12 R604). -/
def State.bootEnd (s : State) (b : BootIn) : State :=
  let s := s.ev 0x1004 (leBytes 1 s.sup.power.cause ++ leBytes 1 s.sup.fw.booted ++ leBytes 4 b.bootMs)
  let kind := s.cfg 0x1100 5
  if b.failed then s.enterFault 5
  else if s.plans.active.isSome && !b.stop && (kind = 1 || kind = 2) && !s.paired then s.restart (kind = 2) 2 4 b.bad
  else
    let (s, goes) := s.startGalleries s.plan b.bad
    if !goes then s.enterFault 2
    else
      let s := (s.changeMode .stop 3).updPair fun p => { p with waitAt := s.now }
      s.when (s.paired && !b.sense) State.activeAlone

/-- Boot from step 1 (14 R680), at its end; with both firmware slots bad the module stays in Boot (R692). -/
def State.boot (s : State) (b : BootIn) (cause : Nat) (power : Bool) : State :=
  let lost := s.recorder.next - s.recorder.archNext
  let forced := s.forced
  let s := (s.afterReset b cause power).bootCounts power
  let s := s.ev 0xF003 (leBytes 4 (s.recorder.next + 2 ^ 32 - 1) ++ leBytes 4 lost)
  let s := s.when forced fun s => s.ev 0x1031 (leBytes 1 2)
  let (s, runs) := s.runSlot
  if !runs then s
  else
    let s := s.updSup fun v => { v with fw := { v.fw with stage := ofBool (s.staging 1) } }
    let s := s.updPlans fun v => { v with stageState := ofBool (s.staging 2) }
    let s := ((s.wdtArm 0).bootFindings b).bootEvidence.bootPlan
    let s := match s.plans.active with
      | some p => p.persisted.foldl State.restoreEntry (s.initHall p)
      | none => s
    ((s.bootSources b).bootIo).bootEnd b

/-- POWER_ON: VL has stood at 18.6 V or above for 5 ms; Boot ends at `t` (14 R673 row 1, R684). A module that waits for its watchdog
reset does not start by it. -/
def execPowerOn (t mv : Nat) (b : BootIn) (s : State) : Outcome :=
  act t (fun s =>
    let p := s.sup.power
    s.when (s.inReset && p.nextCause ≠ 3 && 18600 ≤ mv) fun s =>
      (s.updSup fun v => { v with power := { v.power with vl := mv } }).boot b (if p.nextCause = 0 then 1 else p.nextCause) true) s

/-- NRESET: nRESET has been low for 1 µs or longer and is released; Boot ends at `t` (14 R683). -/
def execNreset (t : Nat) (b : BootIn) (s : State) : Outcome :=
  act t (fun s =>
    s.when (s.live || (s.inReset && 18600 ≤ s.sup.power.vl)) fun s =>
      (s.updSup fun v => { v with power := { v.power with pinResets := holdMax 32 (v.power.pinResets + 1) } }).boot b 2 true) s

/-- WDT_RESET: the reset that an expiry leads to; Boot ends at `t` (15 R719, R720). -/
def execWdtReset (t : Nat) (b : BootIn) (s : State) : Outcome :=
  act t (fun s => s.when (s.inReset && s.sup.power.nextCause = 3) fun s => s.boot b 3 false) s

end Sys2Proof.Machine
end

