-- ==== Sys2Proof/Machine/Bamcon.lean ====
section
/-! DEFINITION. Bamcon messages: HELLO, reads, writes, block transfers, subscriptions, COMMIT and ACTIVATE (10 R497 to R519; 13 R636; 14 R688, R689, R695, R696). -/
namespace Sys2Proof.Machine

/-- A message taken apart (10 R497): `body` is header and payload. -/
structure BamMsg where
  version : Nat
  type_   : Nat
  flags   : Nat
  session : Nat
  seq     : Nat
  payload : Bytes
  body    : Bytes
  tag     : Bytes
deriving DecidableEq, Repr

/-- The bytes of a message; none where they end before the header or before its LENGTH. -/
def parseMsg (m : Bytes) : Option BamMsg :=
  let n (off len : Nat) : Nat := leNat ((m.drop off).take len)
  let len := n 12 2
  if m.length < 16 + len || m.length < 16 then none
  else some ⟨n 0 1, n 1 1, n 2 1, n 4 4, n 8 4, (m.drop 16).take len, m.take (16 + len), (m.drop (16 + len)).take 16⟩

/-- A number in the payload. -/
def BamMsg.num (x : BamMsg) (off len : Nat) : Nat := leNat ((x.payload.drop off).take len)

/-! HELLO (10 R499 to R502) -/

/-- Whom failures and lockouts are counted for: an IPv4 address, or a client of a channel (10 R501; 11 R573). -/
def peerKey (o : Origin) : Nat := if o.link < 16 then o.ip else 2 ^ 32 + 32 * o.link + o.port

def State.lockedOut (s : State) (o : Origin) : Bool := s.bam.lockouts.any fun e => e.1 = peerKey o && s.now < e.2

/-- An AUTH failure: the fifth within 60 s locks the peer out (10 R501). -/
def State.authFailed (s : State) (o : Origin) : State :=
  let k := peerKey o
  let recent := (k, s.now) :: s.bam.fails.filter fun e => s.now < e.2 + 60000000000
  let s := s.updBam fun b => { b with authFails := holdMax 32 (b.authFails + 1), fails := recent }
  if (recent.countP fun e => e.1 = k) < 5 then s
  else
    (s.updBam fun b => { b with
      fails := recent.filter fun e => e.1 ≠ k
      lockouts := (k, s.now + 60000000000) :: b.lockouts.filter fun e => e.1 ≠ k && s.now < e.2
      lockoutCount := holdMax 32 (b.lockoutCount + 1) }).ev 0x6023 (leBytes 4 o.ip)

/-- A response of HELLO in slot k; it carries no TAG. -/
def State.helloReply (s : State) (o : Origin) (k : Nat) (payload : Bytes) : State :=
  let x := s.sess k
  s.deliver o.link o.ip o.port (bamHeader (16 + x.minor) 0x81 (ofBool s.forced) 0 x.number o.seq payload.length ++ payload)

def roleKeyOf (s : State) (role : Nat) : Bytes := s.bam.keys.getD (role - 1) []

/-- Phase 1: a session is assigned, or the status that refuses it. -/
def State.hello1 (s : State) (o : Origin) (x : BamMsg) : State :=
  let role := x.num 1 1
  let minor := min 3 (x.num 2 1)
  if x.payload.length ≠ 20 then s.replyBare o 0x81 .type []
  else if minor < 2 then s.replyBare o 0x81 .version []
  else if role = 0 || 4 < role then s.replyBare o 0x81 .range []
  else if (roleKeyOf s role).isEmpty then (s.authFailed o).replyBare o 0x81 .auth []
  else
    match (List.range 16).find? fun k => (s.sess k).state = 0 with
    | none => s.replyBare o 0x81 .busy []
    | some k =>
      let n := s.bam.issued
      let nonce := canPad 16 ((Config.moduleNonce n).take 16)
      let new : Session := { (default : Session) with
        state := 1, number := Config.sessionNumber n % 2 ^ 32, role := role, peerIp := o.ip, peerPort := o.port, link := o.link, minor := minor
        client := (x.payload.drop 4).take 16, module := nonce, replied := s.now, validAt := s.now }
      let s := (s.updBam fun b => { b with issued := n + 1 }).updSess k fun _ => new
      s.helloReply o k (leBytes 1 1 ++ leBytes 1 role ++ leBytes 1 minor ++ [0#8] ++ nonce)

/-- HMAC of a label, SESSION and two nonces (10 R500). -/
def bamProof (key : Bytes) (label : List Nat) (number : Nat) (a b : Bytes) : Bytes :=
  hmacSha256 key (label.map (BitVec.ofNat 8) ++ leBytes 4 number ++ a ++ b)

/-- Phase 2: the session opens, or is freed. The labels are BC1, BC2 and BCK in ASCII. -/
def State.hello2 (s : State) (o : Origin) (x : BamMsg) : State :=
  if x.payload.length ≠ 36 then s.replyBare o 0x81 .type []
  else
    match (List.range 16).find? fun k => (s.sess k).state = 1 && (s.sess k).number = x.session && (s.sess k).link = o.link with
    | none => (s.authFailed o).replyBare o 0x81 .auth []
    | some k =>
      let y := s.sess k
      let key := roleKeyOf s y.role
      if s.now ≤ y.replied + 5000000000 && x.payload.drop 4 = bamProof key [0x42, 0x43, 0x31] y.number y.module y.client then
        let s := s.updSess k fun z => { z with
          state := 2, key := bamProof key [0x42, 0x43, 0x4B] y.number y.client y.module, validAt := s.now, highSeq := 0 }
        let s := s.ev 0x6020 (leBytes 1 k ++ leBytes 1 y.role ++ leBytes 4 o.ip)
        s.helloReply o k (leBytes 4 2 ++ bamProof key [0x42, 0x43, 0x32] y.number y.client y.module)
      else
        let s := (s.updSess k fun _ => default).ev 0x6022 (leBytes 4 o.ip ++ leBytes 1 y.role)
        (s.authFailed o).replyBare o 0x81 .auth []

/-- A HELLO of phase 1 or 2; any other PHASE is out of range. -/
def State.hello12 (s : State) (o : Origin) (x : BamMsg) : State :=
  if s.lockedOut o then s.replyBare o 0x81 .auth []
  else if x.version / 16 ≠ 1 then s.replyBare o 0x81 .version []
  else
    match x.num 0 1 with
    | 1 => s.hello1 o x
    | 2 => s.hello2 o x
    | _ => s.replyBare o 0x81 (if x.payload.isEmpty then .type else .range) []

/-! Reads (10 R510, R513, R515) -/

/-- The addresses of a READ_MULTI or SUBSCRIBE: INDEX, SUB and a reserved byte each. -/
def addrsOf : Nat → Bytes → List Addr
  | 0, _ => []
  | n + 1, b => ⟨leNat (b.take 2), leNat ((b.drop 2).take 1)⟩ :: addrsOf n (b.drop 4)

def State.readMulti (s : State) (k : Nat) (x : BamMsg) : State :=
  let n := x.num 0 1
  if x.payload.length ≠ 2 + 4 * n || x.payload.isEmpty then s.reply k 4 x.seq .type []
  else if 64 < n then s.reply k 4 x.seq .range []
  else
    let (s, b) := s.itemsBytes k (addrsOf n (x.payload.drop 2))
    if 1398 < b.length then s.reply k 4 x.seq .range [] else s.reply k 4 x.seq .ok (leBytes 1 n ++ [0#8] ++ b)

/-- VERSION of a STR or BLOB entry. -/
def State.versionOf (s : State) (idx sub : Nat) : Nat := (1 + sget 0 s.bam.versions (key idx sub)) % 2 ^ 32

def State.blockRead (s : State) (k : Nat) (x : BamMsg) : State :=
  let idx := x.num 0 2; let sub := x.num 2 1; let version := x.num 4 4; let off := x.num 8 4; let len := x.num 12 2
  let answer (s : State) (st : Status) (total : Nat) (data : Bytes) : State :=
    s.reply k 6 x.seq st (leBytes 2 idx ++ leBytes 1 sub ++ [0#8] ++ leBytes 4 (s.versionOf idx sub) ++ leBytes 4 off ++ leBytes 4 total ++ data)
  if x.payload.length ≠ 16 then s.reply k 6 x.seq .type []
  else
    let (s, st, ty, v) := s.readEntry k idx sub
    if st ≠ .ok then answer s st 0 []
    else if (tySize ty).isSome then answer s .type 0 []
    else if 1384 < len then answer s .range 0 []
    else if version ≠ 0 && version ≠ s.versionOf idx sub then answer s .version 0 []
    else answer s .ok (valRaw v).length (((valRaw v).drop off).take len)

/-! Writes (10 R510 to R514) -/

/-- APPLY_WAIT is in force: its flag, from minor 3 on (10 R497, R502). -/
def State.applyWait (s : State) (k : Nat) (x : BamMsg) : Bool := bitAt x.flags 2 && 3 ≤ (s.sess k).minor

/-- Results of a request leave now, or once the staged changes that its items made have applied (10 R514). -/
def State.answerWrites (s : State) (k : Nat) (x : BamMsg) (l : List WriteResult) : State :=
  let number := (s.sess k).number
  let left := s.staged.filterMap fun (c : Staged) => match c.wait with
    | some (n, q, i) => if n = number && q = x.seq then some i else none
    | none => none
  let w : Waiting := ⟨number, x.seq, x.type_, l, left, none⟩
  (s.updBam fun b => { b with waits := b.waits ++ [w] }).finishWait w

/-- The items of a WRITE_MULTI, or none where they do not fit the payload; `n` counts them. -/
def itemsOf : Nat → Bytes → Option (List WItem)
  | 0, b => if b.isEmpty then some [] else none
  | n + 1, b =>
    let v := leNat ((b.drop 5).take 2)
    if b.length < 7 + v then none
    else (itemsOf n (b.drop (7 + v))).map fun l => ⟨leNat (b.take 2), leNat ((b.drop 2).take 1), leNat ((b.drop 3).take 1), (b.drop 7).take v⟩ :: l

/-- The items in order: a refused one does not stop the rest (10 R513). -/
def State.writeItems (s : State) (k : Nat) (x : BamMsg) (bad : Nat) (l : List WItem) : State × List WriteResult :=
  let number := (s.sess k).number
  l.zipIdx.foldl (fun (acc : State × List WriteResult) e =>
    let (s, r) := acc.1.writeItem k (if s.applyWait k x then some (number, x.seq, e.2) else none) bad e.1
    (s, acc.2 ++ [r])) (s, [])

def State.writeMsg (s : State) (k : Nat) (x : BamMsg) (bad : Nat) : State :=
  if x.payload.length < 4 then (s.disarm k).reply k 3 x.seq .type []
  else
    let (s, l) := s.writeItems k x bad [⟨x.num 0 2, x.num 2 1, x.num 3 1, x.payload.drop 4⟩]
    s.answerWrites k x l

def State.writeMulti (s : State) (k : Nat) (x : BamMsg) (bad : Nat) : State :=
  let n := x.num 0 1
  match if x.payload.length < 2 then none else itemsOf n (x.payload.drop 2) with
  | none => (s.disarm k).reply k 5 x.seq .type []
  | some items =>
    if 64 < n then (s.disarm k).reply k 5 x.seq .range []
    else
      let (s, l) := s.writeItems k x bad items
      s.answerWrites k x l

/-! Block writes and staging (10 R516, R517; 06 R321; 14 R689, R690) -/

/-- The image that an entry stages: 1 firmware, 2 Plan. -/
def imageOf (idx sub : Nat) : Option Nat :=
  if sub ≠ 1 then none else if idx = 0x1800 then some 1 else if idx = 0x2401 then some 2 else none

/-- Whether a write to an IMAGE is refused; `open_` is a start. -/
def State.imageStatus (s : State) (target role total : Nat) (open_ : Bool) : Status :=
  if role < (if target = 1 then 4 else 3) || (role = 4 && s.bam.keyFactory) then .access
  else if target = 1 then
    if !(s.mode = .update || (open_ && (s.mode = .run || s.mode = .stop || s.mode = .standby))) then .state
    else if 33488896 < total then .range
    else if s.sup.fw.stage = 2 then .busy else .ok
  else if s.keyState ≠ 1 then .auth
  else if s.mode = .fault || s.plans.editState = 3 then .state
  else if 134217728 < total then .range
  else if s.planVerifying then .busy else .ok

/-- A byte of 0x2401 IMAGE is written: STAGE_STATE is 1, and an earlier verification and its edit are gone (06 R321). -/
def State.imageTouched (s : State) : State :=
  ((s.cancelEdit 0).leaveEdit).updPlans fun v => { v with stageState := 1, staged := none, rejectReason := 0, rejectDetail := 0 }

/-- A start on an IMAGE opens or continues its generation; firmware staging is done in Update. Answers NEXT. -/
def State.imageOpen (s : State) (target total : Nat) : State × Nat :=
  if target = 1 then
    let s := if s.mode = .update then s else (s.updSup fun v => { v with fw := { v.fw with from_ := s.mode } }).changeMode .update 14
    let same := s.staging 1 && s.stageTotal 1 = total
    let (s, n) := s.stageOpen 1 total
    let s := s.updSup fun v => { v with fw := { v.fw with stage := 1, reject := 0 } }
    (if same then s.ev 0xA002 (leBytes 2 (s.gen 1) ++ leBytes 4 n) else s.ev 0xA001 (leBytes 2 (s.gen 1) ++ leBytes 4 total), n)
  else
    s.imageTouched.stageOpen 2 total

/-- NEXT of a transfer. -/
def State.nextOf (s : State) (x : Transfer) : Nat :=
  match imageOf x.idx x.sub with
  | some target => (s.slotBytes target (s.vestibule target)).length
  | none => x.data.length

def State.setTransfer (s : State) (x : Transfer) : State :=
  s.updBam fun b => { b with transfers := b.transfers.map fun (y : Transfer) => if y.number = x.number then x else y }
def State.dropTransfer (s : State) (number : Nat) : State :=
  s.updBam fun b => { b with transfers := b.transfers.filter fun (y : Transfer) => y.number ≠ number }

def State.blockReply (s : State) (k seq : Nat) (st : Status) (idx sub number next : Nat) : State :=
  s.reply k 7 seq st (leBytes 2 idx ++ leBytes 1 sub ++ [0#8] ++ leBytes 4 number ++ leBytes 4 next ++ leBytes 4 (s.versionOf idx sub))

/-- A segment of an open transfer; the last byte writes the entry, with all its checks. -/
def State.segment (s : State) (k seq bad off : Nat) (data : Bytes) (x : Transfer) : State :=
  let next := s.nextOf x
  let x := { x with at_ := s.now }
  let s := s.setTransfer x
  let fresh := if off ≤ next then data.drop (next - off) else []
  let s := match imageOf x.idx x.sub with
    | some target => (s.when (target = 2 && !fresh.isEmpty) State.imageTouched).stageData target fresh
    | none => s.setTransfer { x with data := x.data ++ fresh }
  let now := next + fresh.length
  if now < x.total then (s.disarm k).blockReply k seq .ok x.idx x.sub x.number now
  else
    let s := s.dropTransfer x.number
    match imageOf x.idx x.sub with
    | some _ => ((s.disarm k).bumpVersion x.idx x.sub).blockReply k seq .ok x.idx x.sub x.number now
    | none =>
      let (s, r) := s.writeItem k none bad ⟨x.idx, x.sub, tyCode (lookup x.idx x.sub).2.ty, x.data ++ fresh⟩
      s.blockReply k seq r.status x.idx x.sub x.number now

/-- A start: an open transfer for the target is discarded, and at most four are open (10 R517). -/
def State.blockStart (s : State) (k seq bad idx sub off total : Nat) (data : Bytes) : State :=
  let role := (s.sess k).role
  let refuse (s : State) (st : Status) : State := (s.disarm k).blockReply k seq st idx sub 0 0
  let st : Status := match imageOf idx sub with | some target => s.imageStatus target role total true | none => .ok
  if st ≠ .ok then refuse s st
  else
    let s := s.updBam fun b => { b with transfers := b.transfers.filter fun (y : Transfer) => y.idx ≠ idx || y.sub ≠ sub }
    if 4 ≤ s.bam.transfers.length then refuse s .busy
    else
      let n := s.bam.nextTransfer
      let x : Transfer := ⟨Config.transferNumber n % 2 ^ 32, idx, sub, total, [], s.now, role⟩
      let s := s.updBam fun b => { b with nextTransfer := n + 1, transfers := b.transfers ++ [x] }
      let s := match imageOf idx sub with | some target => (s.imageOpen target total).1 | none => s
      s.segment k seq bad off data x

def State.blockWrite (s : State) (k : Nat) (x : BamMsg) (bad : Nat) : State :=
  let idx := x.num 0 2; let sub := x.num 2 1; let number := x.num 4 4; let off := x.num 8 4; let total := x.num 12 4
  let data := x.payload.drop 16
  let refuse (st : Status) : State := (s.disarm k).blockReply k x.seq st idx sub number 0
  if x.payload.length < 16 || 1380 < data.length then (s.disarm k).reply k 7 x.seq .type []
  else
    match lookup idx sub with
    | (.ok, r) =>
      if (tySize r.ty).isSome then refuse .type
      else if number = 0 then
        if total = 0 then refuse .ok
        else if total < off + data.length then refuse .range
        else s.blockStart k x.seq bad idx sub off total data
      else
        match s.bam.transfers.find? fun (y : Transfer) => y.number = number && y.idx = idx && y.sub = sub with
        | none => refuse .state
        | some y =>
          let st : Status := match imageOf idx sub with | some target => s.imageStatus target (s.sess k).role total false | none => .ok
          if (s.sess k).role < y.role then refuse .access
          else if st ≠ .ok then refuse st
          else if total ≠ y.total || total < off + data.length then refuse .range
          else s.segment k x.seq bad off data y
    | (st, _) => refuse st

/-! SUBSCRIBE, COMMIT, ACTIVATE (10 R510, R518; 13 R636; 14 R695, R696) -/

def State.subscribe (s : State) (k : Nat) (x : BamMsg) : State :=
  let id := x.num 0 1; let task := x.num 1 1; let divider := x.num 2 2; let n := x.num 4 1
  let number := (s.sess k).number
  let answer (s : State) (st : Status) : State := s.reply k 8 x.seq st []
  if x.payload.length ≠ 6 + 4 * n then answer s .type
  else
    let items := addrsOf n (x.payload.drop 6)
    let rest := s.bam.subs.filter fun (y : Subscription) => y.session ≠ number || y.id ≠ id
    match items.find? fun a => (lookup a.idx a.sub).1 ≠ .ok with
    | some a => answer s (lookup a.idx a.sub).1
    | none =>
      if 7 < id then answer s .range
      else if divider = 0 then answer (s.updBam fun b => { b with subs := rest }) .ok
      else if 32 < n || 64 ≤ task || (s.plan.tasks.getD task default).kind = 0 || 1390 < (s.itemsBytes k items).2.length then
        answer s .range
      else if 32 ≤ rest.length then answer s .busy
      else answer (s.updBam fun b => { b with subs := rest ++ [⟨number, id, task, divider, items, 0, 0⟩] }) .ok

/-- COMMIT: a commit starts, and the answer waits for every record staged before (13 R635, R636). -/
def State.commitMsg (s : State) (k : Nat) (x : BamMsg) : State :=
  if !x.payload.isEmpty then s.reply k 9 x.seq .type []
  else if (s.sess k).role < 3 then s.reply k 9 x.seq .access []
  else if s.mode = .fault || s.base = .standby then s.reply k 9 x.seq .state []
  else
    let upto := if s.nvm.filling.items.isEmpty then s.nvm.running.map (·.upto) else some s.nvm.filling.upto
    match upto with
    | none => s.reply k 9 x.seq .ok []
    | some n =>
      let w : Waiting := ⟨(s.sess k).number, x.seq, 9, [], [], some n⟩
      (s.updBam fun b => { b with waits := b.waits ++ [w] }).commitTrigger

/-- ACTIVATE with TARGET 1 is accepted (14 R675, R695). -/
def State.activates (s : State) : Bool :=
  s.sup.fw.stage = 3 && (s.mode = .run && !s.stopHeld || s.mode = .stop || s.mode = .standby) && s.plans.editState ≠ 3
    && !(s.pair.role = 1 && s.pair.state = 4)

def State.activateMsg (s : State) (k : Nat) (x : BamMsg) (b : BootIn) : State :=
  if x.payload.length ≠ 4 then s.reply k 10 x.seq .type []
  else if (s.sess k).role < 4 then s.reply k 10 x.seq .access []
  else if x.num 0 1 ≠ 1 then s.reply k 10 x.seq .range []
  else if !s.activates then s.reply k 10 x.seq .state []
  else
    let s := s.reply k 10 x.seq .ok []
    if s.mode = .run then s.updSup fun v => { v with fw := { v.fw with pauseNext := true } }
    else
      let s := s.startTrial 2
      ({ s with now := s.now + 1000000 * b.bootMs }).boot b 5 false

/-! Dispatch (10 R503, R507) -/

/-- A new request in session slot k, by its TYPE. -/
def State.bamRequest (s : State) (k : Nat) (x : BamMsg) (bad : Nat) (b : BootIn) : State :=
  if x.version / 16 ≠ 1 then (s.disarm k).reply k (x.type_ % 128) x.seq .version []
  else if 2 ≤ x.type_ && x.type_ ≤ 10 && 1400 < x.payload.length then (s.disarm k).reply k x.type_ x.seq .type []
  else
    match x.type_ with
    | 2 => if x.payload.length = 4 then (s.norRead b.nor).answerRead k x.seq (x.num 0 2) (x.num 2 1) else (s.disarm k).reply k 2 x.seq .type []
    | 3 => s.writeMsg k x bad
    | 4 => ((s.disarm k).norRead b.nor).readMulti k x
    | 5 => s.writeMulti k x bad
    | 6 => ((s.disarm k).norRead b.nor).blockRead k x
    | 7 => s.blockWrite k x bad
    | 8 => (s.disarm k).subscribe k x
    | 9 => (s.disarm k).commitMsg k x
    | 10 => (s.disarm k).activateMsg k x b
    | n => (s.disarm k).reply k (n % 128) x.seq .version []

/-- A message that a link delivered: session and TAG first (10 R503, R504). -/
def State.bamMessage (s : State) (link ip port bad : Nat) (b : BootIn) (msg : Bytes) : State :=
  match parseMsg msg with
  | none => s
  | some x =>
    if !s.served link then s
    else
      let o : Origin := ⟨link, ip, port, x.session, x.seq⟩
      if x.type_ = 1 && x.num 0 1 ≠ 3 then s.hello12 o x
      else
        match s.slotOf o with
        | none => s.replyBare o (x.type_ % 128 + 0x80) .auth []
        | some k =>
          if x.tag ≠ bamTag (s.sess k).key x.body then s.replayed
          else if x.type_ = 1 then
            if (s.sess k).highSeq < x.seq then s.closeSession k 2 else s.replayed
          else s.admitReq o k (x.type_ % 128) fun s => s.bamRequest k x bad b

/-- A datagram of a TYPE on the Bamcon port of ETHp; a message that is not of that TYPE is no such command. -/
def bamCmd (t p ip port : Nat) (type_ : Nat → Bool) (bad : Nat) (b : BootIn) (msg : Bytes) (s : State) : Outcome :=
  actUnit t "ETH" p 2 (fun s =>
    match parseMsg msg with
    | none => if s.canSend p then (s.received p).discarded p else s
    | some x => s.when (s.canSend p && type_ x.type_) fun s => (s.received p).bamMessage p ip port bad b msg) s

/-- The same for a HELLO of a PHASE. -/
def helloCmd (t p ip port : Nat) (phase : Nat → Bool) (msg : Bytes) (s : State) : Outcome :=
  actUnit t "ETH" p 2 (fun s =>
    match parseMsg msg with
    | none => s
    | some x => s.when (s.canSend p && x.type_ = 1 && phase (x.num 0 1)) fun s => (s.received p).bamMessage p ip port 0 default msg) s

/-- HELLO_PHASE_1; a HELLO of a PHASE that 10 R499 does not list is answered here as well. -/
def execHelloPhase1 (t p ip port : Nat) (msg : Bytes) (s : State) : Outcome := helloCmd t p ip port (fun n => n ≠ 2 && n ≠ 3) msg s
def execHelloPhase2 (t p ip port : Nat) (msg : Bytes) (s : State) : Outcome := helloCmd t p ip port (· = 2) msg s
def execHelloPhase3 (t p ip port : Nat) (msg : Bytes) (s : State) : Outcome := helloCmd t p ip port (· = 3) msg s

/-- IDLE_TIMEOUT: session slot k has had no valid message for IDLE_TIMEOUT (10 R505). -/
def execIdleTimeout (t k : Nat) (s : State) : Outcome :=
  actUnit t "session" k 16 (fun s =>
    s.when (s.live && (s.sess k).state ≠ 0 && (s.sess k).validAt + 1000000000 * s.cfg 0x1220 3 ≤ s.now) fun s => s.closeSession k 1) s

/-- What the NOR reads of a request find, as `bamCmd` hands it on (13 R628). -/
def norIn (nor : List NorErr) : BootIn := { (default : BootIn) with nor := nor }

/-- READ; a message of a TYPE that the table of 10 R510 does not list is answered here as well. -/
def execRead (t p ip port : Nat) (msg : Bytes) (s : State) (nor : List NorErr := []) : Outcome :=
  bamCmd t p ip port (fun n => n = 2 || n = 0 || 10 < n) 0 (norIn nor) msg s
/-- WRITE; `bad` is what a self-test finds that the write starts. -/
def execWrite (t p ip port bad : Nat) (msg : Bytes) (s : State) : Outcome := bamCmd t p ip port (· = 3) bad default msg s
def execReadMulti (t p ip port : Nat) (msg : Bytes) (s : State) (nor : List NorErr := []) : Outcome :=
  bamCmd t p ip port (· = 4) 0 (norIn nor) msg s
def execWriteMulti (t p ip port bad : Nat) (msg : Bytes) (s : State) : Outcome := bamCmd t p ip port (· = 5) bad default msg s
def execBlockRead (t p ip port : Nat) (msg : Bytes) (s : State) (nor : List NorErr := []) : Outcome :=
  bamCmd t p ip port (· = 6) 0 (norIn nor) msg s
def execBlockWrite (t p ip port : Nat) (msg : Bytes) (s : State) : Outcome := bamCmd t p ip port (· = 7) 0 default msg s

/-- TRANSFER_EXPIRED: an open write transfer has had no segment for 600 s (10 R517). -/
def execTransferExpired (t number : Nat) (s : State) : Outcome :=
  act t (fun s =>
    s.when (s.live && s.bam.transfers.any fun x => x.number = number && x.at_ + 600000000000 ≤ s.now) fun s => s.dropTransfer number) s

def execSubscribe (t p ip port : Nat) (msg : Bytes) (s : State) : Outcome := bamCmd t p ip port (· = 8) 0 default msg s
def execCommit (t p ip port : Nat) (msg : Bytes) (s : State) : Outcome := bamCmd t p ip port (· = 9) 0 default msg s
/-- ACTIVATE; `b` is what the start finds where the activation resets the module. -/
def execActivate (t p ip port : Nat) (b : BootIn) (msg : Bytes) (s : State) : Outcome := bamCmd t p ip port (· = 10) 0 b msg s

end Sys2Proof.Machine
end

