-- ==== Sys2Proof/Machine/CanBamcon.lean ====
section
/-! DEFINITION. Frames that a CAN channel receives, and Bamcon over CAN (11 R558 to R560, R568, R570 to R575). -/
namespace Sys2Proof.Machine

/-- REC after a successful reception: one less, or from above 127 a value of 119 to 127 that ISO 11898-1 leaves open (11 R568, log 18). -/
def State.canHeard (s : State) (n : Nat) : State :=
  let r := (s.can n).rec_
  let low := 119 + (s.free 32).toNat % 9
  let s := if 127 < r then s.spend else s
  s.updCan n fun x => { x with rxFrames := holdMax 32 (x.rxFrames + 1), rec_ := if 127 < r then low else r - 1 }

/-- ROLE bit of the identifiers that the module answers: 0 single or active, 1 standby (11 R570). -/
def State.canRole (s : State) : Nat := ofBool (s.pair.role = 2)

/-- A frame lies in the range of the Bamcon service (11 R558). -/
def State.canInRange (s : State) (n : Nat) (f : CanFrame) : Bool :=
  s.canBam n 1 ≠ 0 && !f.ide && s.canBam n 2 ≤ f.id && f.id < s.canBam n 2 + 128

/-- The client whose request a frame of the range carries, if it is one of this module's (11 R570). -/
def State.canClient (s : State) (n : Nat) (f : CanFrame) : Option Nat :=
  let o := f.id - s.canBam n 2
  if o % 4 = 2 * s.canRole then some (o / 4) else none

def State.canReasm (s : State) (n c : Nat) : Option CanReasm := (s.can n).reasm.find? fun (x : CanReasm) => x.client = c
def State.canSetReasm (s : State) (n c : Nat) (l : List CanReasm) : State :=
  s.updCan n fun x => { x with reasm := l ++ x.reasm.filter fun (y : CanReasm) => y.client ≠ c }

/-- A reassembly is discarded: 2 sequence, 3 timeout (11 R572). -/
def State.canDiscard (s : State) (n c cause : Nat) : State :=
  ((s.canSetReasm n c []).updCan n fun x => { x with segErrors := holdMax 32 (x.segErrors + 1) }).ev 0x6107
    (leBytes 1 n ++ leBytes 1 cause ++ leBytes 1 c)

/-- A segment of client c: it starts, continues or ends a message; a message begun 100 ms ago is discarded first (11 R571, R572). -/
def State.canSegment (s : State) (n c bad : Nat) (b : BootIn) (data : Bytes) : State :=
  let seg := (data.headD 0).toNat
  let count := seg % 64
  let s := if (s.canReasm n c).any fun x => x.at_ + 100000000 ≤ s.now then s.canDiscard n c 3 else s
  let old := s.canReasm n c
  let take (s : State) (x : CanReasm) : State :=
    if bitAt seg 6 then
      ((s.canSetReasm n c []).updCan n fun y => { y with rxMessages := holdMax 32 (y.rxMessages + 1) }).bamMessage (16 + n) 0 c bad b x.data
    else s.canSetReasm n c [x]
  if bitAt seg 7 then
    let s := if old.isSome then s.canDiscard n c 2 else s
    if count ≠ 0 then s.canDiscard n c 2 else take s ⟨c, data.drop 1, 1, s.now⟩
  else
    match old with
    | none => s
    | some x =>
      if count ≠ x.next % 64 then s.canDiscard n c 2 else take s { x with data := x.data ++ data.drop 1, next := x.next + 1 }

/-- A received frame goes to Bamcon, or through the pairs to an RXQ; a standby takes no mailboxes from the bus (11 R558, R575). -/
def State.canReceive (s : State) (n bad : Nat) (b : BootIn) (f : CanFrame) : State :=
  let s := (s.canHeard n).canJudge n
  if s.canInRange n f then
    match s.canClient n f with
    | some c => if f.rtr then s else s.canSegment n c bad b f.data
    | none => s
  else if s.base = .standby then s
  else s.canRoutes n { f with stamp := s.time }

/-- A frame that the channel can receive: FD frames need FD (11 R580). -/
def State.canHears (s : State) (n : Nat) (f : CanFrame) : Bool := s.canOn n && (!f.fdf || s.canFd n)

/-- CAN_FRAME_RX: a frame has been received; `bad` and `b` are what a request that it completes may start. -/
def execCanFrameRx (t n bad : Nat) (b : BootIn) (f : CanFrame) (s : State) : Outcome :=
  actUnit t "CAN" n 4 (fun s => s.when (s.canHears n f) fun s => s.canReceive n bad b f) s

/-- CAN_BAMCON_SEGMENT: the same for a frame that carries a request segment of this module. -/
def execCanBamconSegment (t n bad : Nat) (b : BootIn) (f : CanFrame) (s : State) : Outcome :=
  actUnit t "CAN" n 4 (fun s =>
    s.when (s.canHears n f && s.canInRange n f && (s.canClient n f).isSome) fun s => s.canReceive n bad b f) s

/-- SEGMENT_TIMEOUT: LAST has not followed within 100 ms of FIRST (11 R572). -/
def execSegmentTimeout (t n c : Nat) (s : State) : Outcome :=
  actUnit t "CAN" n 4 (fun s =>
    match s.canReasm n c with
    | some x => s.when (s.live && x.at_ + 100000000 ≤ s.now) fun s => s.canDiscard n c 3
    | none => s) s

/-- CAN_BAMCON_TX_SEGMENT: the next segment of client c's response takes a free place; at most 8 stand (11 R574). -/
def execCanBamconTxSegment (t n c : Nat) (s : State) : Outcome :=
  actUnit t "CAN" n 4 (fun s =>
    let x := s.can n
    let standing := x.queue.countP fun (f : CanTx) => f.client = some c
    match x.segs.find? fun (e : CanSegs) => e.client = c with
    | some ⟨_, d :: rest, p⟩ =>
      s.when (s.canPowered n && standing < 8 && x.queue.length < 32) fun s =>
        let others := x.segs.erase ⟨c, d :: rest, p⟩
        let fd : Bool := s.canBam n 3 = 1
        let f := s.canFrame (s.canBam n 2 + 4 * c + 2 * s.canRole + 1) false fd fd d (some c)
        s.updCan n fun x => { x with queue := x.queue ++ [f], segs := if rest.isEmpty then others else ⟨c, rest, none⟩ :: others }
    | _ => s) s

end Sys2Proof.Machine
end

