-- ==== Sys2Proof/Machine/Dispatch.lean ====
section
/-! DEFINITION. The effect of a command: one arm for each row of the opcode table. -/
namespace Sys2Proof.Machine

def exec (i : Instr) (s : State) : Host.Outcome State Fault Refusal :=
  match i with
  | .powerOn t mv b => Sys2Proof.Machine.execPowerOn t mv b s
  | .nreset t b => Sys2Proof.Machine.execNreset t b s
  | .absStartLoaded t n t0 raw err par => Sys2Proof.Machine.execAbsStartLoaded t n t0 raw err par s
  | .joinWaitExpired t => Sys2Proof.Machine.execJoinWaitExpired t s
  | .stationBRetry t => Sys2Proof.Machine.execStationBRetry t s
  | .holdupReady t us => Sys2Proof.Machine.execHoldupReady t us s
  | .powerFail t mv cut us arch => Sys2Proof.Machine.execPowerFail t mv cut us arch s
  | .modeRunEdge t low bad => Sys2Proof.Machine.execModeRunEdge t low bad s
  | .modeStopLow t low => Sys2Proof.Machine.execModeStopLow t low s
  | .modeMres t low => Sys2Proof.Machine.execModeMres t low s
  | .modeCmdStop t o => Sys2Proof.Machine.execModeCmdStop t o s
  | .modeCmdClearFault t o bad => Sys2Proof.Machine.execModeCmdClearFault t o bad s
  | .modeCmdMres t o => Sys2Proof.Machine.execModeCmdMres t o s
  | .restartCold t o bad => Sys2Proof.Machine.execRestartCold t o bad s
  | .restartWarm t o bad => Sys2Proof.Machine.execRestartWarm t o bad s
  | .crossingResync t n k => Sys2Proof.Machine.execCrossingResync t n k s
  | .applyPoint t => Sys2Proof.Machine.execApplyPoint t s
  | .taskRelease t k => Sys2Proof.Machine.execTaskRelease t k s
  | .copyIn t k err kind addr => Sys2Proof.Machine.execCopyIn t k s err kind addr
  | .alcoveStart t k => Sys2Proof.Machine.execAlcoveStart t k s
  | .g3TaskStart t => Sys2Proof.Machine.execG3TaskStart t s
  | .bundleIssue t g k err => Sys2Proof.Machine.execBundleIssue t g k err s
  | .land t k => Sys2Proof.Machine.execLand t k s
  | .majorLanding t => Sys2Proof.Machine.execMajorLanding t s
  | .substituteMajorLanding t => Sys2Proof.Machine.execSubstituteMajorLanding t s
  | .taskNotLanded t k => Sys2Proof.Machine.execTaskNotLanded t k s
  | .selftestSequence t g equal => Sys2Proof.Machine.execSelftestSequence t g equal s
  | .codeScrub t g addr kind => Sys2Proof.Machine.execCodeScrub t g addr kind s
  | .hallScrub t result kind addr => Sys2Proof.Machine.execHallScrub t result kind addr s
  | .armfAct t => Sys2Proof.Machine.execArmfAct t s
  | .evtDrain t => Sys2Proof.Machine.execEvtDrain t s
  | .encoderCount t n a b => Sys2Proof.Machine.execEncoderCount t n a b s
  | .zEdge t n => Sys2Proof.Machine.execZEdge t n s
  | .ssiRead t n t0 raw err par => Sys2Proof.Machine.execSsiRead t n t0 raw err par s
  | .encLineFault t n pair => Sys2Proof.Machine.execEncLineFault t n pair s
  | .lineFaultClear t n pair => Sys2Proof.Machine.execLineFaultClear t n pair s
  | .faultReadmit t n => Sys2Proof.Machine.execFaultReadmit t n s
  | .readmit t o src mask => Sys2Proof.Machine.execReadmit t o src mask s
  | .estimatorTick t src => Sys2Proof.Machine.execEstimatorTick t src s
  | .standstill t src => Sys2Proof.Machine.execStandstill t src s
  | .presetNow t o src => Sys2Proof.Machine.execPresetNow t o src s
  | .presetAtZ t o src => Sys2Proof.Machine.execPresetAtZ t o src s
  | .presetAtLanding t o src => Sys2Proof.Machine.execPresetAtLanding t o src s
  | .roseloPositionRx t p mac major minor stream seq valid x v a at_ => Sys2Proof.Machine.execRoseloPositionRx t p mac major minor stream seq valid x v a at_ s
  | .importStale t src => Sys2Proof.Machine.execImportStale t src s
  | .importHoldover t src => Sys2Proof.Machine.execImportHoldover t src s
  | .roseloExport t src => Sys2Proof.Machine.execRoseloExport t src s
  | .treadDue t src bad => Sys2Proof.Machine.execTreadDue t src bad s
  | .trgCommit t src => Sys2Proof.Machine.execTrgCommit t src s
  | .trgEdge t c => Sys2Proof.Machine.execTrgEdge t c s
  | .trgPulseEnd t c => Sys2Proof.Machine.execTrgPulseEnd t c s
  | .trgIdleChange t c => Sys2Proof.Machine.execTrgIdleChange t c s
  | .delayLineSwap t c => Sys2Proof.Machine.execDelayLineSwap t c s
  | .dioPulseEnd t n => Sys2Proof.Machine.execDioPulseEnd t n s
  | .remoteFrameSend t src => Sys2Proof.Machine.execRemoteFrameSend t src s
  | .flArm t o f => Sys2Proof.Machine.execFlArm t o f s
  | .flDisarm t o f => Sys2Proof.Machine.execFlDisarm t o f s
  | .flAbort t o f => Sys2Proof.Machine.execFlAbort t o f s
  | .flAnchorNow t o f => Sys2Proof.Machine.execFlAnchorNow t o f s
  | .forceMask t o data => Sys2Proof.Machine.execForceMask t o data s
  | .forceValue t o data => Sys2Proof.Machine.execForceValue t o data s
  | .clearAll t o => Sys2Proof.Machine.execClearAll t o s
  | .hallWinWrite t o w data => Sys2Proof.Machine.execHallWinWrite t o w data s
  | .hallWinRead t o w => Sys2Proof.Machine.execHallWinRead t o w s
  | .classTick t k => Sys2Proof.Machine.execClassTick t k s
  | .loopEvaluation t => Sys2Proof.Machine.execLoopEvaluation t s
  | .loopEnable t o n on => Sys2Proof.Machine.execLoopEnable t o n on s
  | .loopSpWrite t o n sp => Sys2Proof.Machine.execLoopSpWrite t o n sp s
  | .loopGroupWrite t o g sub data => Sys2Proof.Machine.execLoopGroupWrite t o g sub data s
  | .gainDataWrite t o data => Sys2Proof.Machine.execGainDataWrite t o data s
  | .dispatchEvalDone t => Sys2Proof.Machine.execDispatchEvalDone t s
  | .dispatchOff t o => Sys2Proof.Machine.execDispatchOff t o s
  | .dispatchAuto t o => Sys2Proof.Machine.execDispatchAuto t o s
  | .dispatchHold t o => Sys2Proof.Machine.execDispatchHold t o s
  | .vgState t g mv => Sys2Proof.Machine.execVgState t g mv s
  | .vaState t mv => Sys2Proof.Machine.execVaState t mv s
  | .supplyChecksResume t g => Sys2Proof.Machine.execSupplyChecksResume t g s
  | .dioInputEdge t n level => Sys2Proof.Machine.execDioInputEdge t n level s
  | .overrateClear t n => Sys2Proof.Machine.execOverrateClear t n s
  | .dioWireBreak t n ua => Sys2Proof.Machine.execDioWireBreak t n ua s
  | .frequencyGate t n => Sys2Proof.Machine.execFrequencyGate t n s
  | .dioOverload t n thermal => Sys2Proof.Machine.execDioOverload t n thermal s
  | .dioRetry t n => Sys2Proof.Machine.execDioRetry t n s
  | .dioOpenLoad t n => Sys2Proof.Machine.execDioOpenLoad t n s
  | .dioReadback t n level => Sys2Proof.Machine.execDioReadback t n level s
  | .dioResetLatched t o n => Sys2Proof.Machine.execDioResetLatched t o n s
  | .dioZeroCounter t o n => Sys2Proof.Machine.execDioZeroCounter t o n s
  | .aioSample t n na tx => Sys2Proof.Machine.execAioSample t n na tx s
  | .aioReadback t n na => Sys2Proof.Machine.execAioReadback t n na s
  | .aioTrim t n => Sys2Proof.Machine.execAioTrim t n s
  | .aioTrimNow t o n => Sys2Proof.Machine.execAioTrimNow t o n s
  | .aioClearLatched t o n => Sys2Proof.Machine.execAioClearLatched t o n s
  | .aioCompliance t n mv tv => Sys2Proof.Machine.execAioCompliance t n mv tv s
  | .aioSurge t n => Sys2Proof.Machine.execAioSurge t n s
  | .surgeEnd t n => Sys2Proof.Machine.execSurgeEnd t n s
  | .fskTxStart t n mvpp bits => Sys2Proof.Machine.execFskTxStart t n mvpp bits s
  | .fskTxDone t n => Sys2Proof.Machine.execFskTxDone t n s
  | .fskRxFrame t n data err lost => Sys2Proof.Machine.execFskRxFrame t n data err lost s
  | .linkChange t p link => Sys2Proof.Machine.execLinkChange t p link s
  | .ipAssigned t p ip dhcp conflict => Sys2Proof.Machine.execIpAssigned t p ip dhcp conflict s
  | .arpRefresh t p ip => Sys2Proof.Machine.execArpRefresh t p ip s
  | .icmpEcho t p ip d => Sys2Proof.Machine.execIcmpEcho t p ip d s
  | .processFrameRx t p ip udpPort d => Sys2Proof.Machine.execProcessFrameRx t p ip udpPort d s
  | .ptpSync t p offset delay => Sys2Proof.Machine.execPtpSync t p offset delay s
  | .ptpAnnounceTimeout t p master => Sys2Proof.Machine.execPtpAnnounceTimeout t p master s
  | .ppsIn t => Sys2Proof.Machine.execPpsIn t s
  | .ppsOut t => Sys2Proof.Machine.execPpsOut t s
  | .timeSet t o time => Sys2Proof.Machine.execTimeSet t o time s
  | .helloPhase1 t p ip port msg => Sys2Proof.Machine.execHelloPhase1 t p ip port msg s
  | .helloPhase2 t p ip port msg => Sys2Proof.Machine.execHelloPhase2 t p ip port msg s
  | .helloPhase3 t p ip port msg => Sys2Proof.Machine.execHelloPhase3 t p ip port msg s
  | .idleTimeout t k => Sys2Proof.Machine.execIdleTimeout t k s
  | .read t p ip port msg nor => Sys2Proof.Machine.execRead t p ip port msg s nor
  | .write t p ip port bad msg => Sys2Proof.Machine.execWrite t p ip port bad msg s
  | .readMulti t p ip port msg nor => Sys2Proof.Machine.execReadMulti t p ip port msg s nor
  | .writeMulti t p ip port bad msg => Sys2Proof.Machine.execWriteMulti t p ip port bad msg s
  | .blockRead t p ip port msg nor => Sys2Proof.Machine.execBlockRead t p ip port msg s nor
  | .blockWrite t p ip port msg => Sys2Proof.Machine.execBlockWrite t p ip port msg s
  | .transferExpired t number => Sys2Proof.Machine.execTransferExpired t number s
  | .subscribe t p ip port msg => Sys2Proof.Machine.execSubscribe t p ip port msg s
  | .commit t p ip port msg => Sys2Proof.Machine.execCommit t p ip port msg s
  | .activate t p ip port b msg => Sys2Proof.Machine.execActivate t p ip port b msg s
  | .keySeqArm t o idx sub => Sys2Proof.Machine.execKeySeqArm t o idx sub s
  | .roleKeyWrite t o role key => Sys2Proof.Machine.execRoleKeyWrite t o role key s
  | .roseloAnnounceTx t p => Sys2Proof.Machine.execRoseloAnnounceTx t p s
  | .roseloAnnounceRx t p mac major minorMax => Sys2Proof.Machine.execRoseloAnnounceRx t p mac major minorMax s
  | .canFrameRx t n bad b f => Sys2Proof.Machine.execCanFrameRx t n bad b f s
  | .canListFilter t n => Sys2Proof.Machine.execCanListFilter t n s
  | .canTxDone t n t0 ns => Sys2Proof.Machine.execCanTxDone t n t0 ns s
  | .canTxFailed t n kind spared => Sys2Proof.Machine.execCanTxFailed t n kind spared s
  | .canRecoveryStart t n => Sys2Proof.Machine.execCanRecoveryStart t n s
  | .canRecoveryCmd t o n => Sys2Proof.Machine.execCanRecoveryCmd t o n s
  | .canRecovered t n => Sys2Proof.Machine.execCanRecovered t n s
  | .canIntegrated t n => Sys2Proof.Machine.execCanIntegrated t n s
  | .canBamconSegment t n bad b f => Sys2Proof.Machine.execCanBamconSegment t n bad b f s
  | .segmentTimeout t n c => Sys2Proof.Machine.execSegmentTimeout t n c s
  | .canBamconTxSegment t n c => Sys2Proof.Machine.execCanBamconTxSegment t n c s
  | .keepalive t lane crc stamp => Sys2Proof.Machine.execKeepalive t lane crc stamp s
  | .forward t crc seq stamp items => Sys2Proof.Machine.execForward t crc seq stamp items s
  | .commandRecord t crc seq c stamp => Sys2Proof.Machine.execCommandRecord t crc seq c s stamp
  | .delta t crc d => Sys2Proof.Machine.execDelta t crc d s
  | .compare t crc at_ crcs => Sys2Proof.Machine.execCompare t crc at_ crcs s
  | .lockstepResync t crc x => Sys2Proof.Machine.execLockstepResync t crc x s
  | .corridorNak t crc missing => Sys2Proof.Machine.execCorridorNak t crc missing s
  | .corridorAck t crc seq verified => Sys2Proof.Machine.execCorridorAck t crc seq verified s
  | .corridorHello t crc h => Sys2Proof.Machine.execCorridorHello t crc h s
  | .join t crc ask load => Sys2Proof.Machine.execJoin t crc ask load s
  | .partnerJoined t crc => Sys2Proof.Machine.execPartnerJoined t crc s
  | .laneChanged t lane up => Sys2Proof.Machine.execLaneChanged t lane up s
  | .corridorSilence t pin analog driven => Sys2Proof.Machine.execCorridorSilence t pin analog driven s
  | .silenceConfirm t allOff => Sys2Proof.Machine.execSilenceConfirm t allOff s
  | .pairSenseChange t sense => Sys2Proof.Machine.execPairSenseChange t sense s
  | .shadowCheck t => Sys2Proof.Machine.execShadowCheck t s
  | .driverTest t pass => Sys2Proof.Machine.execDriverTest t pass s
  | .healthReport t mv partner => Sys2Proof.Machine.execHealthReport t mv partner s
  | .switchover t o crc => Sys2Proof.Machine.execSwitchover t o crc s
  | .pairResyncCmd t o => Sys2Proof.Machine.execPairResyncCmd t o s
  | .pairRejoinCmd t o => Sys2Proof.Machine.execPairRejoinCmd t o s
  | .switchReady t crc => Sys2Proof.Machine.execSwitchReady t crc s
  | .switchTSw t => Sys2Proof.Machine.execSwitchTSw t s
  | .switchoverDone t => Sys2Proof.Machine.execSwitchoverDone t s
  | .handover t crc => Sys2Proof.Machine.execHandover t crc s
  | .psRecordWrite t o data => Sys2Proof.Machine.execPsRecordWrite t o data s
  | .psCommit t => Sys2Proof.Machine.execPsCommit t s
  | .psCommitTimer t => Sys2Proof.Machine.execPsCommitTimer t s
  | .protect t o level => Sys2Proof.Machine.execProtect t o level s
  | .psCleared t o v => Sys2Proof.Machine.execPsCleared t o v s
  | .rawPageWrite t o data => Sys2Proof.Machine.execRawPageWrite t o data s
  | .rpProtect t o level => Sys2Proof.Machine.execRpProtect t o level s
  | .reclaim t addr live us erases nor => Sys2Proof.Machine.execReclaim t addr live us erases s nor
  | .fwVerify t o => Sys2Proof.Machine.execFwVerify t o s
  | .fwDiscard t o => Sys2Proof.Machine.execFwDiscard t o s
  | .fwVerified t nor => Sys2Proof.Machine.execFwVerified t s nor
  | .pauseEnded t fault => Sys2Proof.Machine.execPauseEnded t fault s
  | .fwConfirmed t => Sys2Proof.Machine.execFwConfirmed t s
  | .fwConfirm t o => Sys2Proof.Machine.execFwConfirm t o s
  | .fwConfirmExpired t => Sys2Proof.Machine.execFwConfirmExpired t s
  | .planVerify t o => Sys2Proof.Machine.execPlanVerify t o s
  | .planDiscard t o => Sys2Proof.Machine.execPlanDiscard t o s
  | .planActivate t o bad => Sys2Proof.Machine.execPlanActivate t o bad s
  | .planVerified t nor => Sys2Proof.Machine.execPlanVerified t s nor
  | .swapAt t o landing => Sys2Proof.Machine.execSwapAt t o landing s
  | .cancel t o => Sys2Proof.Machine.execCancel t o s
  | .publicKey t o key => Sys2Proof.Machine.execPublicKey t o key s
  | .planKeyConfirm t o digest => Sys2Proof.Machine.execPlanKeyConfirm t o digest s
  | .windowFuseBurn t o f => Sys2Proof.Machine.execWindowFuseBurn t o f s
  | .fuseBurnDone t key => Sys2Proof.Machine.execFuseBurnDone t key s
  | .wdtWarning t w => Sys2Proof.Machine.execWdtWarning t w s
  | .wdtExpired t w => Sys2Proof.Machine.execWdtExpired t w s
  | .wdtReset t b => Sys2Proof.Machine.execWdtReset t b s
  | .wdtLock t o w v => Sys2Proof.Machine.execWdtLock t o w v s
  | .supDisable t o => Sys2Proof.Machine.execSupDisable t o s
  | .evidenceClear t o => Sys2Proof.Machine.execEvidenceClear t o s
  | .rtcSet t o v => Sys2Proof.Machine.execRtcSet t o v s
  | .rtcSync t => Sys2Proof.Machine.execRtcSync t s
  | .calendarEnd t => Sys2Proof.Machine.execCalendarEnd t s
  | .rtcOsf t => Sys2Proof.Machine.execRtcOsf t s
  | .backupLost t => Sys2Proof.Machine.execBackupLost t s
  | .bkpLostClear t o => Sys2Proof.Machine.execBkpLostClear t o s
  | .vbatMeasure t mv => Sys2Proof.Machine.execVbatMeasure t mv s
  | .backupBytesWrite t o data => Sys2Proof.Machine.execBackupBytesWrite t o data s
  | .ledgerSample t values => Sys2Proof.Machine.execLedgerSample t values s
  | .avsStep t slack => Sys2Proof.Machine.execAvsStep t slack s
  | .marginAction t ppm => Sys2Proof.Machine.execMarginAction t ppm s
  | .sectorRefreshed t addr live us erases nor => Sys2Proof.Machine.execSectorRefreshed t addr live us erases s nor
  | .tokenAdd t n => Sys2Proof.Machine.execTokenAdd t n s
  | .archiveCopy t => Sys2Proof.Machine.execArchiveCopy t s
  | .caseMeasure t case_ junction pVa pModule venc => Sys2Proof.Machine.execCaseMeasure t case_ junction pVa pModule venc s
  | .vencOverload t m fed reading => Sys2Proof.Machine.execVencOverload t m fed reading s
  | .vencRestore t m => Sys2Proof.Machine.execVencRestore t m s
  | .openLoadClear t n => Sys2Proof.Machine.execOpenLoadClear t n s
  | .canBusError t n kind heavy => Sys2Proof.Machine.execCanBusError t n kind heavy s
  | .arpRx t p ip mac target request => Sys2Proof.Machine.execArpRx t p ip mac target request s
  | .ptpAnnounceRx t p state gm => Sys2Proof.Machine.execPtpAnnounceRx t p state gm s
  | .ptpSyncTx t p => Sys2Proof.Machine.execPtpSyncTx t p s
  | .keepaliveTx t lane => Sys2Proof.Machine.execKeepaliveTx t lane s
  | .compareTx t => Sys2Proof.Machine.execCompareTx t s
  | .backupSupplyChange t vr vbat => Sys2Proof.Machine.execBackupSupplyChange t vr vbat s
  | .holdupExhausted t vbat => Sys2Proof.Machine.execHoldupExhausted t vbat s
  | .supervisorLockstepMismatch t => Sys2Proof.Machine.execSupervisorLockstepMismatch t s
  | .debugHalt t g halt => Sys2Proof.Machine.execDebugHalt t g halt s
  | .dhcpLeaseExpired t p => Sys2Proof.Machine.execDhcpLeaseExpired t p s

end Sys2Proof.Machine
end

