-- ==== Sys2Proof/WellFormed.lean ====
section
/-! DEFINITION. Well-formed commands: the units, addresses and messages that they name exist. -/
namespace Sys2Proof

/-- The instant of a command, in ns (log 1). -/
def Instr.time (i : Instr) : Nat := i.instant

/-- The unit that a command acts on: what it is, its number, and how many the module has; none where it names none. -/
def Instr.unit : Instr → Option (String × Nat × Nat)
  | .powerOn _ _ _ => none
  | .nreset _ _ => none
  | .absStartLoaded _ n _ _ _ _ => some ("ENC", n, 8)
  | .joinWaitExpired _ => none
  | .stationBRetry _ => none
  | .holdupReady _ _ => none
  | .powerFail _ _ _ _ _ => none
  | .modeRunEdge _ _ _ => none
  | .modeStopLow _ _ => none
  | .modeMres _ _ => none
  | .modeCmdStop _ _ => none
  | .modeCmdClearFault _ _ _ => none
  | .modeCmdMres _ _ => none
  | .restartCold _ _ _ => none
  | .restartWarm _ _ _ => none
  | .crossingResync _ n _ => some ("crossing", n - 1 + 12 * ofBool (n = 0), 12)
  | .applyPoint _ => none
  | .taskRelease _ k => some ("task", k, 64)
  | .copyIn _ k _ _ _ => some ("task", k, 64)
  | .alcoveStart _ k => some ("task", k, 64)
  | .g3TaskStart _ => none
  | .bundleIssue _ g _ _ => some ("Gallery", g, 4)
  | .land _ k => some ("task", k, 64)
  | .majorLanding _ => none
  | .substituteMajorLanding _ => none
  | .taskNotLanded _ k => some ("task", k, 64)
  | .selftestSequence _ g _ => some ("Gallery", g, 4)
  | .codeScrub _ g _ _ => some ("Gallery", g, 4)
  | .hallScrub _ _ _ _ => none
  | .armfAct _ => none
  | .evtDrain _ => none
  | .encoderCount _ n _ _ => some ("ENC", n, 8)
  | .zEdge _ n => some ("ENC", n, 8)
  | .ssiRead _ n _ _ _ _ => some ("ENC", n, 8)
  | .encLineFault _ n _ => some ("ENC", n, 8)
  | .lineFaultClear _ n _ => some ("ENC", n, 8)
  | .faultReadmit _ n => some ("ENC", n, 8)
  | .readmit _ _ i _ => some ("position source", i, 4)
  | .estimatorTick _ i => some ("position source", i, 4)
  | .standstill _ i => some ("position source", i, 4)
  | .presetNow _ _ i => some ("position source", i, 4)
  | .presetAtZ _ _ i => some ("position source", i, 4)
  | .presetAtLanding _ _ i => some ("position source", i, 4)
  | .roseloPositionRx _ p _ _ _ _ _ _ _ _ _ _ => some ("ETH", p, 2)
  | .importStale _ i => some ("position source", i, 4)
  | .importHoldover _ i => some ("position source", i, 4)
  | .roseloExport _ i => some ("position source", i, 4)
  | .treadDue _ src _ => some ("position source", src, 4)
  | .trgCommit _ src => some ("position source", src, 4)
  | .trgEdge _ c => some ("TRG", c, 16)
  | .trgPulseEnd _ c => some ("TRG", c, 16)
  | .trgIdleChange _ c => some ("TRG", c, 16)
  | .delayLineSwap _ c => some ("TRG", c, 16)
  | .dioPulseEnd _ n => some ("DIO", n, 48)
  | .remoteFrameSend _ src => some ("position source", src, 4)
  | .flArm _ _ f => some ("Flight", f, 256)
  | .flDisarm _ _ f => some ("Flight", f, 256)
  | .flAbort _ _ f => some ("Flight", f, 256)
  | .flAnchorNow _ _ f => some ("Flight", f, 256)
  | .forceMask _ _ _ => none
  | .forceValue _ _ _ => none
  | .clearAll _ _ => none
  | .hallWinWrite _ _ w _ => some ("window", w, 16)
  | .hallWinRead _ _ w => some ("window", w, 16)
  | .classTick _ k => some ("rate class", k, 8)
  | .loopEvaluation _ => none
  | .loopEnable _ _ n _ => some ("loop", n, 2048)
  | .loopSpWrite _ _ n _ => some ("loop", n, 2048)
  | .loopGroupWrite _ _ g _ _ => some ("loop group", g, 65)
  | .gainDataWrite _ _ _ => none
  | .dispatchEvalDone _ => none
  | .dispatchOff _ _ => none
  | .dispatchAuto _ _ => none
  | .dispatchHold _ _ => none
  | .vgState _ g _ => some ("DIO group", g, 6)
  | .vaState _ _ => none
  | .supplyChecksResume _ g => some ("DIO group", g, 6)
  | .dioInputEdge _ n _ => some ("DIO", n, 48)
  | .overrateClear _ n => some ("DIO", n, 48)
  | .dioWireBreak _ n _ => some ("DIO", n, 48)
  | .frequencyGate _ n => some ("DIO", n, 48)
  | .dioOverload _ n _ => some ("DIO", n, 48)
  | .dioRetry _ n => some ("DIO", n, 48)
  | .dioOpenLoad _ n => some ("DIO", n, 48)
  | .dioReadback _ n _ => some ("DIO", n, 48)
  | .dioResetLatched _ _ n => some ("DIO", n, 48)
  | .dioZeroCounter _ _ n => some ("DIO", n, 48)
  | .aioSample _ n _ _ => some ("AIO", n, 8)
  | .aioReadback _ n _ => some ("AIO", n, 8)
  | .aioTrim _ n => some ("AIO", n, 8)
  | .aioTrimNow _ _ n => some ("AIO", n, 8)
  | .aioClearLatched _ _ n => some ("AIO", n, 8)
  | .aioCompliance _ n _ _ => some ("AIO", n, 8)
  | .aioSurge _ n => some ("AIO", n, 8)
  | .surgeEnd _ n => some ("AIO", n, 8)
  | .fskTxStart _ n _ _ => some ("AIO", n, 8)
  | .fskTxDone _ n => some ("AIO", n, 8)
  | .fskRxFrame _ n _ _ _ => some ("AIO", n, 8)
  | .linkChange _ p _ => some ("ETH", p, 2)
  | .ipAssigned _ p _ _ _ => some ("ETH", p, 2)
  | .arpRefresh _ p _ => some ("ETH", p, 2)
  | .icmpEcho _ p _ _ => some ("ETH", p, 2)
  | .processFrameRx _ p _ _ _ => some ("ETH", p, 2)
  | .ptpSync _ p _ _ => some ("ETH", p, 2)
  | .ptpAnnounceTimeout _ p _ => some ("ETH", p, 2)
  | .ppsIn _ => none
  | .ppsOut _ => none
  | .timeSet _ _ _ => none
  | .helloPhase1 _ p _ _ _ => some ("ETH", p, 2)
  | .helloPhase2 _ p _ _ _ => some ("ETH", p, 2)
  | .helloPhase3 _ p _ _ _ => some ("ETH", p, 2)
  | .idleTimeout _ k => some ("session", k, 16)
  | .read _ p _ _ _ _ => some ("ETH", p, 2)
  | .write _ p _ _ _ _ => some ("ETH", p, 2)
  | .readMulti _ p _ _ _ _ => some ("ETH", p, 2)
  | .writeMulti _ p _ _ _ _ => some ("ETH", p, 2)
  | .blockRead _ p _ _ _ _ => some ("ETH", p, 2)
  | .blockWrite _ p _ _ _ => some ("ETH", p, 2)
  | .transferExpired _ _ => none
  | .subscribe _ p _ _ _ => some ("ETH", p, 2)
  | .commit _ p _ _ _ => some ("ETH", p, 2)
  | .activate _ p _ _ _ _ => some ("ETH", p, 2)
  | .keySeqArm _ _ _ _ => none
  | .roleKeyWrite _ _ _ _ => none
  | .roseloAnnounceTx _ p => some ("ETH", p, 2)
  | .roseloAnnounceRx _ p _ _ _ => some ("ETH", p, 2)
  | .canFrameRx _ n _ _ _ => some ("CAN", n, 4)
  | .canListFilter _ n => some ("CAN", n, 4)
  | .canTxDone _ n _ _ => some ("CAN", n, 4)
  | .canTxFailed _ n _ _ => some ("CAN", n, 4)
  | .canRecoveryStart _ n => some ("CAN", n, 4)
  | .canRecoveryCmd _ _ n => some ("CAN", n, 4)
  | .canRecovered _ n => some ("CAN", n, 4)
  | .canIntegrated _ n => some ("CAN", n, 4)
  | .canBamconSegment _ n _ _ _ => some ("CAN", n, 4)
  | .segmentTimeout _ n _ => some ("CAN", n, 4)
  | .canBamconTxSegment _ n _ => some ("CAN", n, 4)
  | .keepalive _ lane _ _ => some ("Corridor lane", lane, 2)
  | .forward _ _ _ _ _ => none
  | .commandRecord _ _ _ _ _ => none
  | .delta _ _ _ => none
  | .compare _ _ _ _ => none
  | .lockstepResync _ _ _ => none
  | .corridorNak _ _ _ => none
  | .corridorAck _ _ _ _ => none
  | .corridorHello _ _ _ => none
  | .join _ _ _ _ => none
  | .partnerJoined _ _ => none
  | .laneChanged _ lane _ => some ("Corridor lane", lane, 2)
  | .corridorSilence _ _ _ _ => none
  | .silenceConfirm _ _ => none
  | .pairSenseChange _ _ => none
  | .shadowCheck _ => none
  | .driverTest _ _ => none
  | .healthReport _ _ _ => none
  | .switchover _ _ _ => none
  | .pairResyncCmd _ _ => none
  | .pairRejoinCmd _ _ => none
  | .switchReady _ _ => none
  | .switchTSw _ => none
  | .switchoverDone _ => none
  | .handover _ _ => none
  | .psRecordWrite _ _ _ => none
  | .psCommit _ => none
  | .psCommitTimer _ => none
  | .protect _ _ _ => none
  | .psCleared _ _ _ => none
  | .rawPageWrite _ _ _ => none
  | .rpProtect _ _ _ => none
  | .reclaim _ _ _ _ _ _ => none
  | .fwVerify _ _ => none
  | .fwDiscard _ _ => none
  | .fwVerified _ _ => none
  | .pauseEnded _ _ => none
  | .fwConfirmed _ => none
  | .fwConfirm _ _ => none
  | .fwConfirmExpired _ => none
  | .planVerify _ _ => none
  | .planDiscard _ _ => none
  | .planActivate _ _ _ => none
  | .planVerified _ _ => none
  | .swapAt _ _ _ => none
  | .cancel _ _ => none
  | .publicKey _ _ _ => none
  | .planKeyConfirm _ _ _ => none
  | .windowFuseBurn _ _ _ => none
  | .fuseBurnDone _ _ => none
  | .wdtWarning _ w => some ("watchdog", w, 5)
  | .wdtExpired _ w => some ("watchdog", w, 5)
  | .wdtReset _ _ => none
  | .wdtLock _ _ w _ => some ("watchdog", w, 5)
  | .supDisable _ _ => none
  | .evidenceClear _ _ => none
  | .rtcSet _ _ _ => none
  | .rtcSync _ => none
  | .calendarEnd _ => none
  | .rtcOsf _ => none
  | .backupLost _ => none
  | .bkpLostClear _ _ => none
  | .vbatMeasure _ _ => none
  | .backupBytesWrite _ _ _ => none
  | .ledgerSample _ _ => none
  | .avsStep _ _ => none
  | .marginAction _ _ => none
  | .sectorRefreshed _ _ _ _ _ _ => none
  | .tokenAdd _ n => some ("bucket", n, 256)
  | .archiveCopy _ => none
  | .caseMeasure _ _ _ _ _ _ => none
  | .vencOverload _ m _ _ => some ("VENC", m, 4)
  | .vencRestore _ m => some ("VENC", m, 4)
  | .openLoadClear _ n => some ("DIO", n, 48)
  | .canBusError _ n _ _ => some ("CAN", n, 4)
  | .arpRx _ p _ _ _ _ => some ("ETH", p, 2)
  | .ptpAnnounceRx _ p _ _ => some ("ETH", p, 2)
  | .ptpSyncTx _ p => some ("ETH", p, 2)
  | .keepaliveTx _ lane => some ("Corridor lane", lane, 2)
  | .compareTx _ => none
  | .backupSupplyChange _ _ _ => none
  | .holdupExhausted _ _ => none
  | .supervisorLockstepMismatch _ => none
  | .debugHalt _ g _ => some ("Gallery", g, 4)
  | .dhcpLeaseExpired _ p => some ("ETH", p, 2)

/-- The authenticated request that a command carries (log 21). -/
def Instr.origin : Instr → Option Origin
  | .powerOn _ _ _ => none
  | .nreset _ _ => none
  | .absStartLoaded _ _ _ _ _ _ => none
  | .joinWaitExpired _ => none
  | .stationBRetry _ => none
  | .holdupReady _ _ => none
  | .powerFail _ _ _ _ _ => none
  | .modeRunEdge _ _ _ => none
  | .modeStopLow _ _ => none
  | .modeMres _ _ => none
  | .modeCmdStop _ o => some o
  | .modeCmdClearFault _ o _ => some o
  | .modeCmdMres _ o => some o
  | .restartCold _ o _ => some o
  | .restartWarm _ o _ => some o
  | .crossingResync _ _ _ => none
  | .applyPoint _ => none
  | .taskRelease _ _ => none
  | .copyIn .. => none
  | .alcoveStart _ _ => none
  | .g3TaskStart _ => none
  | .bundleIssue _ _ _ _ => none
  | .land _ _ => none
  | .majorLanding _ => none
  | .substituteMajorLanding _ => none
  | .taskNotLanded _ _ => none
  | .selftestSequence _ _ _ => none
  | .codeScrub _ _ _ _ => none
  | .hallScrub _ _ _ _ => none
  | .armfAct _ => none
  | .evtDrain _ => none
  | .encoderCount _ _ _ _ => none
  | .zEdge _ _ => none
  | .ssiRead _ _ _ _ _ _ => none
  | .encLineFault _ _ _ => none
  | .lineFaultClear _ _ _ => none
  | .faultReadmit _ _ => none
  | .readmit _ o _ _ => some o
  | .estimatorTick _ _ => none
  | .standstill _ _ => none
  | .presetNow _ o _ => some o
  | .presetAtZ _ o _ => some o
  | .presetAtLanding _ o _ => some o
  | .roseloPositionRx _ _ _ _ _ _ _ _ _ _ _ _ => none
  | .importStale _ _ => none
  | .importHoldover _ _ => none
  | .roseloExport _ _ => none
  | .treadDue _ _ _ => none
  | .trgCommit _ _ => none
  | .trgEdge _ _ => none
  | .trgPulseEnd _ _ => none
  | .trgIdleChange _ _ => none
  | .delayLineSwap _ _ => none
  | .dioPulseEnd _ _ => none
  | .remoteFrameSend _ _ => none
  | .flArm _ o _ => some o
  | .flDisarm _ o _ => some o
  | .flAbort _ o _ => some o
  | .flAnchorNow _ o _ => some o
  | .forceMask _ o _ => some o
  | .forceValue _ o _ => some o
  | .clearAll _ o => some o
  | .hallWinWrite _ o _ _ => some o
  | .hallWinRead _ o _ => some o
  | .classTick _ _ => none
  | .loopEvaluation _ => none
  | .loopEnable _ o _ _ => some o
  | .loopSpWrite _ o _ _ => some o
  | .loopGroupWrite _ o _ _ _ => some o
  | .gainDataWrite _ o _ => some o
  | .dispatchEvalDone _ => none
  | .dispatchOff _ o => some o
  | .dispatchAuto _ o => some o
  | .dispatchHold _ o => some o
  | .vgState _ _ _ => none
  | .vaState _ _ => none
  | .supplyChecksResume _ _ => none
  | .dioInputEdge _ _ _ => none
  | .overrateClear _ _ => none
  | .dioWireBreak _ _ _ => none
  | .frequencyGate _ _ => none
  | .dioOverload _ _ _ => none
  | .dioRetry _ _ => none
  | .dioOpenLoad _ _ => none
  | .dioReadback _ _ _ => none
  | .dioResetLatched _ o _ => some o
  | .dioZeroCounter _ o _ => some o
  | .aioSample _ _ _ _ => none
  | .aioReadback _ _ _ => none
  | .aioTrim _ _ => none
  | .aioTrimNow _ o _ => some o
  | .aioClearLatched _ o _ => some o
  | .aioCompliance _ _ _ _ => none
  | .aioSurge _ _ => none
  | .surgeEnd _ _ => none
  | .fskTxStart _ _ _ _ => none
  | .fskTxDone _ _ => none
  | .fskRxFrame _ _ _ _ _ => none
  | .linkChange _ _ _ => none
  | .ipAssigned _ _ _ _ _ => none
  | .arpRefresh _ _ _ => none
  | .icmpEcho _ _ _ _ => none
  | .processFrameRx _ _ _ _ _ => none
  | .ptpSync _ _ _ _ => none
  | .ptpAnnounceTimeout _ _ _ => none
  | .ppsIn _ => none
  | .ppsOut _ => none
  | .timeSet _ o _ => some o
  | .helloPhase1 _ _ _ _ _ => none
  | .helloPhase2 _ _ _ _ _ => none
  | .helloPhase3 _ _ _ _ _ => none
  | .idleTimeout _ _ => none
  | .read _ _ _ _ _ _ => none
  | .write _ _ _ _ _ _ => none
  | .readMulti _ _ _ _ _ _ => none
  | .writeMulti _ _ _ _ _ _ => none
  | .blockRead _ _ _ _ _ _ => none
  | .blockWrite _ _ _ _ _ => none
  | .transferExpired _ _ => none
  | .subscribe _ _ _ _ _ => none
  | .commit _ _ _ _ _ => none
  | .activate _ _ _ _ _ _ => none
  | .keySeqArm _ o _ _ => some o
  | .roleKeyWrite _ o _ _ => some o
  | .roseloAnnounceTx _ _ => none
  | .roseloAnnounceRx _ _ _ _ _ => none
  | .canFrameRx _ _ _ _ _ => none
  | .canListFilter _ _ => none
  | .canTxDone _ _ _ _ => none
  | .canTxFailed _ _ _ _ => none
  | .canRecoveryStart _ _ => none
  | .canRecoveryCmd _ o _ => some o
  | .canRecovered _ _ => none
  | .canIntegrated _ _ => none
  | .canBamconSegment _ _ _ _ _ => none
  | .segmentTimeout _ _ _ => none
  | .canBamconTxSegment _ _ _ => none
  | .keepalive _ _ _ _ => none
  | .forward _ _ _ _ _ => none
  | .commandRecord _ _ _ _ _ => none
  | .delta _ _ _ => none
  | .compare _ _ _ _ => none
  | .lockstepResync _ _ _ => none
  | .corridorNak _ _ _ => none
  | .corridorAck _ _ _ _ => none
  | .corridorHello _ _ _ => none
  | .join _ _ _ _ => none
  | .partnerJoined _ _ => none
  | .laneChanged _ _ _ => none
  | .corridorSilence _ _ _ _ => none
  | .silenceConfirm _ _ => none
  | .pairSenseChange _ _ => none
  | .shadowCheck _ => none
  | .driverTest _ _ => none
  | .healthReport _ _ _ => none
  | .switchover _ o _ => o
  | .pairResyncCmd _ o => some o
  | .pairRejoinCmd _ o => some o
  | .switchReady _ _ => none
  | .switchTSw _ => none
  | .switchoverDone _ => none
  | .handover _ _ => none
  | .psRecordWrite _ o _ => some o
  | .psCommit _ => none
  | .psCommitTimer _ => none
  | .protect _ o _ => some o
  | .psCleared _ o _ => some o
  | .rawPageWrite _ o _ => some o
  | .rpProtect _ o _ => some o
  | .reclaim _ _ _ _ _ _ => none
  | .fwVerify _ o => some o
  | .fwDiscard _ o => some o
  | .fwVerified _ _ => none
  | .pauseEnded _ _ => none
  | .fwConfirmed _ => none
  | .fwConfirm _ o => some o
  | .fwConfirmExpired _ => none
  | .planVerify _ o => some o
  | .planDiscard _ o => some o
  | .planActivate _ o _ => some o
  | .planVerified _ _ => none
  | .swapAt _ o _ => some o
  | .cancel _ o => some o
  | .publicKey _ o _ => some o
  | .planKeyConfirm _ o _ => some o
  | .windowFuseBurn _ o _ => some o
  | .fuseBurnDone _ _ => none
  | .wdtWarning _ _ => none
  | .wdtExpired _ _ => none
  | .wdtReset _ _ => none
  | .wdtLock _ o _ _ => some o
  | .supDisable _ o => some o
  | .evidenceClear _ o => some o
  | .rtcSet _ o _ => some o
  | .rtcSync _ => none
  | .calendarEnd _ => none
  | .rtcOsf _ => none
  | .backupLost _ => none
  | .bkpLostClear _ o => some o
  | .vbatMeasure _ _ => none
  | .backupBytesWrite _ o _ => some o
  | .ledgerSample _ _ => none
  | .avsStep _ _ => none
  | .marginAction _ _ => none
  | .sectorRefreshed _ _ _ _ _ _ => none
  | .tokenAdd _ _ => none
  | .archiveCopy _ => none
  | .caseMeasure _ _ _ _ _ _ => none
  | .vencOverload _ _ _ _ => none
  | .vencRestore _ _ => none
  | .openLoadClear _ _ => none
  | .canBusError _ _ _ _ => none
  | .arpRx _ _ _ _ _ _ => none
  | .ptpAnnounceRx _ _ _ _ => none
  | .ptpSyncTx _ _ => none
  | .keepaliveTx _ _ => none
  | .compareTx _ => none
  | .backupSupplyChange _ _ _ => none
  | .holdupExhausted _ _ => none
  | .supervisorLockstepMismatch _ => none
  | .debugHalt _ _ _ => none
  | .dhcpLeaseExpired _ _ => none

/-- The Bamcon datagram that a command carries, with its peer address and port. -/
def Instr.message : Instr → Option (Nat × Nat × Bytes)
  | .powerOn _ _ _ => none
  | .nreset _ _ => none
  | .absStartLoaded _ _ _ _ _ _ => none
  | .joinWaitExpired _ => none
  | .stationBRetry _ => none
  | .holdupReady _ _ => none
  | .powerFail _ _ _ _ _ => none
  | .modeRunEdge _ _ _ => none
  | .modeStopLow _ _ => none
  | .modeMres _ _ => none
  | .modeCmdStop _ _ => none
  | .modeCmdClearFault _ _ _ => none
  | .modeCmdMres _ _ => none
  | .restartCold _ _ _ => none
  | .restartWarm _ _ _ => none
  | .crossingResync _ _ _ => none
  | .applyPoint _ => none
  | .taskRelease _ _ => none
  | .copyIn .. => none
  | .alcoveStart _ _ => none
  | .g3TaskStart _ => none
  | .bundleIssue _ _ _ _ => none
  | .land _ _ => none
  | .majorLanding _ => none
  | .substituteMajorLanding _ => none
  | .taskNotLanded _ _ => none
  | .selftestSequence _ _ _ => none
  | .codeScrub _ _ _ _ => none
  | .hallScrub _ _ _ _ => none
  | .armfAct _ => none
  | .evtDrain _ => none
  | .encoderCount _ _ _ _ => none
  | .zEdge _ _ => none
  | .ssiRead _ _ _ _ _ _ => none
  | .encLineFault _ _ _ => none
  | .lineFaultClear _ _ _ => none
  | .faultReadmit _ _ => none
  | .readmit _ _ _ _ => none
  | .estimatorTick _ _ => none
  | .standstill _ _ => none
  | .presetNow _ _ _ => none
  | .presetAtZ _ _ _ => none
  | .presetAtLanding _ _ _ => none
  | .roseloPositionRx _ _ _ _ _ _ _ _ _ _ _ _ => none
  | .importStale _ _ => none
  | .importHoldover _ _ => none
  | .roseloExport _ _ => none
  | .treadDue _ _ _ => none
  | .trgCommit _ _ => none
  | .trgEdge _ _ => none
  | .trgPulseEnd _ _ => none
  | .trgIdleChange _ _ => none
  | .delayLineSwap _ _ => none
  | .dioPulseEnd _ _ => none
  | .remoteFrameSend _ _ => none
  | .flArm _ _ _ => none
  | .flDisarm _ _ _ => none
  | .flAbort _ _ _ => none
  | .flAnchorNow _ _ _ => none
  | .forceMask _ _ _ => none
  | .forceValue _ _ _ => none
  | .clearAll _ _ => none
  | .hallWinWrite _ _ _ _ => none
  | .hallWinRead _ _ _ => none
  | .classTick _ _ => none
  | .loopEvaluation _ => none
  | .loopEnable _ _ _ _ => none
  | .loopSpWrite _ _ _ _ => none
  | .loopGroupWrite _ _ _ _ _ => none
  | .gainDataWrite _ _ _ => none
  | .dispatchEvalDone _ => none
  | .dispatchOff _ _ => none
  | .dispatchAuto _ _ => none
  | .dispatchHold _ _ => none
  | .vgState _ _ _ => none
  | .vaState _ _ => none
  | .supplyChecksResume _ _ => none
  | .dioInputEdge _ _ _ => none
  | .overrateClear _ _ => none
  | .dioWireBreak _ _ _ => none
  | .frequencyGate _ _ => none
  | .dioOverload _ _ _ => none
  | .dioRetry _ _ => none
  | .dioOpenLoad _ _ => none
  | .dioReadback _ _ _ => none
  | .dioResetLatched _ _ _ => none
  | .dioZeroCounter _ _ _ => none
  | .aioSample _ _ _ _ => none
  | .aioReadback _ _ _ => none
  | .aioTrim _ _ => none
  | .aioTrimNow _ _ _ => none
  | .aioClearLatched _ _ _ => none
  | .aioCompliance _ _ _ _ => none
  | .aioSurge _ _ => none
  | .surgeEnd _ _ => none
  | .fskTxStart _ _ _ _ => none
  | .fskTxDone _ _ => none
  | .fskRxFrame _ _ _ _ _ => none
  | .linkChange _ _ _ => none
  | .ipAssigned _ _ _ _ _ => none
  | .arpRefresh _ _ _ => none
  | .icmpEcho _ _ _ _ => none
  | .processFrameRx _ _ _ _ _ => none
  | .ptpSync _ _ _ _ => none
  | .ptpAnnounceTimeout _ _ _ => none
  | .ppsIn _ => none
  | .ppsOut _ => none
  | .timeSet _ _ _ => none
  | .helloPhase1 _ _ ip port msg => some (ip, port, msg)
  | .helloPhase2 _ _ ip port msg => some (ip, port, msg)
  | .helloPhase3 _ _ ip port msg => some (ip, port, msg)
  | .idleTimeout _ _ => none
  | .read _ _ ip port msg _ => some (ip, port, msg)
  | .write _ _ ip port _ msg => some (ip, port, msg)
  | .readMulti _ _ ip port msg _ => some (ip, port, msg)
  | .writeMulti _ _ ip port _ msg => some (ip, port, msg)
  | .blockRead _ _ ip port msg _ => some (ip, port, msg)
  | .blockWrite _ _ ip port msg => some (ip, port, msg)
  | .transferExpired _ _ => none
  | .subscribe _ _ ip port msg => some (ip, port, msg)
  | .commit _ _ ip port msg => some (ip, port, msg)
  | .activate _ _ ip port _ msg => some (ip, port, msg)
  | .keySeqArm _ _ _ _ => none
  | .roleKeyWrite _ _ _ _ => none
  | .roseloAnnounceTx _ _ => none
  | .roseloAnnounceRx _ _ _ _ _ => none
  | .canFrameRx _ _ _ _ _ => none
  | .canListFilter _ _ => none
  | .canTxDone _ _ _ _ => none
  | .canTxFailed _ _ _ _ => none
  | .canRecoveryStart _ _ => none
  | .canRecoveryCmd _ _ _ => none
  | .canRecovered _ _ => none
  | .canIntegrated _ _ => none
  | .canBamconSegment _ _ _ _ _ => none
  | .segmentTimeout _ _ _ => none
  | .canBamconTxSegment _ _ _ => none
  | .keepalive _ _ _ _ => none
  | .forward _ _ _ _ _ => none
  | .commandRecord _ _ _ _ _ => none
  | .delta _ _ _ => none
  | .compare _ _ _ _ => none
  | .lockstepResync _ _ _ => none
  | .corridorNak _ _ _ => none
  | .corridorAck _ _ _ _ => none
  | .corridorHello _ _ _ => none
  | .join _ _ _ _ => none
  | .partnerJoined _ _ => none
  | .laneChanged _ _ _ => none
  | .corridorSilence _ _ _ _ => none
  | .silenceConfirm _ _ => none
  | .pairSenseChange _ _ => none
  | .shadowCheck _ => none
  | .driverTest _ _ => none
  | .healthReport _ _ _ => none
  | .switchover _ _ _ => none
  | .pairResyncCmd _ _ => none
  | .pairRejoinCmd _ _ => none
  | .switchReady _ _ => none
  | .switchTSw _ => none
  | .switchoverDone _ => none
  | .handover _ _ => none
  | .psRecordWrite _ _ _ => none
  | .psCommit _ => none
  | .psCommitTimer _ => none
  | .protect _ _ _ => none
  | .psCleared _ _ _ => none
  | .rawPageWrite _ _ _ => none
  | .rpProtect _ _ _ => none
  | .reclaim _ _ _ _ _ _ => none
  | .fwVerify _ _ => none
  | .fwDiscard _ _ => none
  | .fwVerified _ _ => none
  | .pauseEnded _ _ => none
  | .fwConfirmed _ => none
  | .fwConfirm _ _ => none
  | .fwConfirmExpired _ => none
  | .planVerify _ _ => none
  | .planDiscard _ _ => none
  | .planActivate _ _ _ => none
  | .planVerified _ _ => none
  | .swapAt _ _ _ => none
  | .cancel _ _ => none
  | .publicKey _ _ _ => none
  | .planKeyConfirm _ _ _ => none
  | .windowFuseBurn _ _ _ => none
  | .fuseBurnDone _ _ => none
  | .wdtWarning _ _ => none
  | .wdtExpired _ _ => none
  | .wdtReset _ _ => none
  | .wdtLock _ _ _ _ => none
  | .supDisable _ _ => none
  | .evidenceClear _ _ => none
  | .rtcSet _ _ _ => none
  | .rtcSync _ => none
  | .calendarEnd _ => none
  | .rtcOsf _ => none
  | .backupLost _ => none
  | .bkpLostClear _ _ => none
  | .vbatMeasure _ _ => none
  | .backupBytesWrite _ _ _ => none
  | .ledgerSample _ _ => none
  | .avsStep _ _ => none
  | .marginAction _ _ => none
  | .sectorRefreshed _ _ _ _ _ _ => none
  | .tokenAdd _ _ => none
  | .archiveCopy _ => none
  | .caseMeasure _ _ _ _ _ _ => none
  | .vencOverload _ _ _ _ => none
  | .vencRestore _ _ => none
  | .openLoadClear _ _ => none
  | .canBusError _ _ _ _ => none
  | .arpRx _ _ _ _ _ _ => none
  | .ptpAnnounceRx _ _ _ _ => none
  | .ptpSyncTx _ _ => none
  | .keepaliveTx _ _ => none
  | .compareTx _ => none
  | .backupSupplyChange _ _ _ => none
  | .holdupExhausted _ _ => none
  | .supervisorLockstepMismatch _ => none
  | .debugHalt _ _ _ => none
  | .dhcpLeaseExpired _ _ => none

/-- The unit exists. -/
def unitOk : Option (String × Nat × Nat) → Bool
  | some (_, n, k) => n < k
  | none => true

/-- A request comes over an Ethernet port or a CAN channel, and its fields fit their places (10 R497, R537). -/
def originOk : Option Origin → Bool
  | some o => (o.link < 2 || (16 ≤ o.link && o.link < 20)) && o.ip < 2 ^ 32 && o.port < 2 ^ 16 && o.session < 2 ^ 32 && o.seq < 2 ^ 32
  | none => true

/-- A datagram has a peer and at most header, payload and TAG (10 R497). -/
def messageOk : Option (Nat × Nat × Bytes) → Bool
  | some (ip, port, m) => ip < 2 ^ 32 && port < 2 ^ 16 && m.length ≤ 1432
  | none => true

/-- A command that the outside of the module can give. -/
def Instr.wf (i : Instr) : Bool := unitOk i.unit && originOk i.origin && messageOk i.message

end Sys2Proof
end

