-- ==== Sys2Proof/Safety.lean ====
section
/-! DEFINITION. What counts as a safe run: the invariants that statements speak of. -/
namespace Sys2Proof.Machine

/-- A fuse group is sound: it has two slots, and a burn in progress has used one of a group without a committed value (00 R3 to R5). -/
def Fuse.sound (f : Fuse) : Prop := f.used ≤ 2 ∧ (f.burn = 1 → f.committed = [] ∧ 1 ≤ f.used)

/-- Both fuse groups are sound, and monotonic time has not begun in the future (00 R3 to R5; 05 R247). -/
def State.anchored (s : State) : Prop := Fuse.sound s.fuses.win ∧ Fuse.sound s.fuses.key ∧ s.bootAt ≤ s.now

/-- Every command that waits is well-formed. -/
def State.queued (s : State) : Prop := ∀ i ∈ s.pending, Instr.wf i = true

/-- The module at the instant of a command: time never goes back (log 1). -/
def State.upTo (s : State) (t : Nat) : State := { s with now := max s.now t }

/-- No command that waits in the queue falls in the clocks of instant `t`, nor within the longest handshake of a crossing after it, so no rule that
orders coinciding events looks ahead of a command given at `t` (01 R36, 02 R112, 03 R168, 04 R221; log 137). -/
abbrev State.clear (s : State) (t : Nat) : Prop := ∀ c ∈ s.pending, max s.now t + 250000 < c.instant

/-- The module once session `k` has taken a request and its arming, and before the request acts (10 R504, R508). -/
def State.asked (s : State) (o : Origin) (k : Nat) : State :=
  ((s.received o.link).updSess k fun x => { x with highSeq := o.seq, validAt := s.now, open_ := x.open_ ++ [o.seq] }).updSess k
    fun x => { x with armed := none }

/-- Who asks in session `k` for entry `idx`, sub-index `sub` (10 R508, R536). -/
def State.asker (s : State) (o : Origin) (k idx sub bad : Nat) : Asker :=
  ⟨k, (s.sess k).role, (((s.received o.link).updSess k fun x =>
    { x with highSeq := o.seq, validAt := s.now, open_ := x.open_ ++ [o.seq] }).takeArming k idx sub).2, none, bad⟩

/-- The item of a write of one entry. -/
def writeOf (idx sub : Nat) (data : Bytes) : WItem := ⟨idx, sub, tyCode (lookup idx sub).2.ty, data⟩

/-- The module as step 3 of the major Landing finds it (01 R25; 03 R138; 07 R352). -/
def State.atApply (s : State) : State := { ((List.range 4).foldl State.fillNow s).engineBegin with staged := [] }

/-- A staged change that is alone passes every check of the apply (01 R25; 03 R126 to R128, R165). -/
def State.passes (s : State) (x : Staged) : Prop :=
  s.overtaken x = false ∧ applyChecks s 2 [x] [] [] = ([x], [], []) ∧ ((s.put x).flightsOf x).any (s.put x).orderBad = false

/-- An authenticated write of `data` to an entry that is no group reaches open session `k`, with a new SEQ and fewer than four
requests unanswered, and passes every check of 10 R507. -/
def State.granted (s : State) (o : Origin) (k idx sub : Nat) (data : Bytes) : Bool :=
  s.accepts o = some k && (lookup idx sub).1 = .ok && !(isGroup idx && sub ≤ 0x0D)
    && (s.asked o k).writeStatus (s.asker o k idx sub 0) (lookup idx sub).2 (writeOf idx sub data) = .ok

/-- The module once open session `k` has taken request `seq` from port `p`, and before the request acts (10 R504). -/
def State.taken (s : State) (p k seq : Nat) : State :=
  (s.received p).updSess k fun y => { y with highSeq := seq, validAt := s.now, open_ := y.open_ ++ [seq] }

/-- Message `msg` reaches port `p` as request `x` of open session `k`, the only one of its number: its TAG is right, its SEQ new, and fewer than four
requests are unanswered (10 R497, R503, R504). -/
def State.heard (s : State) (p ip port : Nat) (msg : Bytes) (x : BamMsg) (k : Nat) : Prop :=
  parseMsg msg = some x ∧ s.canSend p = true ∧ s.served p = true ∧ p < 2 ∧ s.slotOf ⟨p, ip, port, x.session, x.seq⟩ = some k
    ∧ x.tag = bamTag (s.sess k).key x.body ∧ x.version / 16 = 1 ∧ (s.sess k).highSeq < x.seq ∧ (s.sess k).open_.length < 4
    ∧ ∀ j < 16, (s.sess j).state = 2 → (s.sess j).number = x.session → j = k

/-- A frame as it leaves port `p`, with its priority and VLAN tag (10 R483). -/
def State.onWire (s : State) (p : Nat) (e : Emission) : Emission := .tagged (s.framePcp p e) (s.portCfg p 7) e

/-- Session `k` has answered request `seq` of a TYPE with a status and a payload: the response is kept, and it is what left last (10 R497, R498, R504). -/
def State.answered (s : State) (k type_ seq : Nat) (st : Status) (payload : Bytes) : Prop :=
  let y := s.sess k
  let m := s.sessionMsg k (type_ + 0x80) 0 seq st payload
  y.highSeq = seq ∧ y.cache.head? = some (seq, m) ∧ seq ∉ y.open_ ∧ s.outbox.head? = some (s.onWire y.link (.bamcon y.link y.peerIp y.peerPort m))

/-- Whether a change of the levels of A and B from (a0, b0) to (a, b) steps the count up: A leads B (02 R45). -/
def aLeads (a0 b0 a b : Bool) : Bool :=
  (!a0 && !b0 && a && !b) || (a0 && !b0 && a && b) || (a0 && b0 && !a && b) || (!a0 && b0 && !a && !b)

/-- A set of the parts of the state. -/
structure Parts where
  pending : Bool := false
  now : Bool := false
  bootAt : Bool := false
  fresh : Bool := false
  outbox : Bool := false
  mode : Bool := false
  inReset : Bool := false
  clock : Bool := false
  params : Bool := false
  staged : Bool := false
  recorder : Bool := false
  crossings : Bool := false
  carried : Bool := false
  resyncs : Bool := false
  line : Bool := false
  treads : Bool := false
  hall : Bool := false
  tasks : Bool := false
  plans : Bool := false
  loops : Bool := false
  dsp : Bool := false
  field : Bool := false
  net : Bool := false
  cans : Bool := false
  pair : Bool := false
  nvm : Bool := false
  sup : Bool := false
  fuses : Bool := false
deriving DecidableEq, Repr

/-- The state with the parts in `w` blanked: two states that agree outside `w` are the same here. -/
def State.outside (w : Parts) (s : State) : State :=
  { pending := if w.pending then [] else s.pending
    now := if w.now then 0 else s.now
    bootAt := if w.bootAt then 0 else s.bootAt
    fresh := if w.fresh then 0 else s.fresh
    outbox := if w.outbox then [] else s.outbox
    mode := if w.mode then .boot else s.mode
    inReset := if w.inReset then false else s.inReset
    clock := if w.clock then default else s.clock
    params := if w.params then [] else s.params
    staged := if w.staged then [] else s.staged
    recorder := if w.recorder then default else s.recorder
    crossings := if w.crossings then [] else s.crossings
    carried := if w.carried then [] else s.carried
    resyncs := if w.resyncs then 0 else s.resyncs
    line := if w.line then default else s.line
    treads := if w.treads then default else s.treads
    hall := if w.hall then default else s.hall
    tasks := if w.tasks then default else s.tasks
    plans := if w.plans then default else s.plans
    loops := if w.loops then default else s.loops
    dsp := if w.dsp then default else s.dsp
    field := if w.field then default else s.field
    net := if w.net then default else s.net
    cans := if w.cans then [] else s.cans
    pair := if w.pair then default else s.pair
    nvm := if w.nvm then default else s.nvm
    sup := if w.sup then default else s.sup
    fuses := if w.fuses then default else s.fuses }

/-- The parts that an authenticated dictionary write may change whatever it writes: the instant, the links and sessions, the answers that leave, and
the stored parameters (10 R503 to R512; 13 R643). -/
def requestParts : Parts := { now := true, outbox := true, net := true, cans := true, nvm := true }

/-- Every part but the queue: what a start, or a message whose content is open, may change. -/
def allParts : Parts :=
  { now := true, bootAt := true, fresh := true, outbox := true, mode := true, inReset := true, clock := true, params := true, staged := true, recorder := true, crossings := true, carried := true, resyncs := true, line := true, treads := true, hall := true, tasks := true, plans := true, loops := true, dsp := true, field := true, net := true, cans := true, pair := true, nvm := true, sup := true, fuses := true }

/-- The parts of the state that each command may change; every other part it leaves as it was. -/
def footprint : Instr → Parts
  | .powerOn .. | .nreset .. | .write .. | .writeMulti .. | .blockWrite .. | .activate .. | .canFrameRx .. | .canBamconSegment ..
  | .wdtReset .. =>
    allParts
  | .absStartLoaded .. | .encoderCount .. | .ssiRead .. | .encLineFault .. =>
    { now := true, outbox := true, recorder := true, line := true, pair := true }
  | .joinWaitExpired .. | .stationBRetry .. =>
    { now := true, recorder := true, pair := true }
  | .holdupReady .. | .modeStopLow .. | .copyIn .. | .taskNotLanded .. | .selftestSequence .. | .codeScrub .. | .hallScrub .. | .aioTrim ..
  | .healthReport .. | .vbatMeasure .. =>
    { now := true, outbox := true, mode := true, recorder := true, treads := true, hall := true, tasks := true, plans := true, loops := true, dsp := true, field := true, pair := true, sup := true }
  | .powerFail .. =>
    { now := true, outbox := true, inReset := true, recorder := true, treads := true, field := true, pair := true, nvm := true, sup := true }
  | .modeRunEdge .. =>
    { allParts with bootAt := false, fresh := false, inReset := false, clock := false, params := false, staged := false, crossings := false, carried := false, resyncs := false, line := false, net := false, fuses := false }
  | .modeMres .. =>
    { now := true, mode := true, recorder := true, hall := true, tasks := true, loops := true, dsp := true, field := true, cans := true, nvm := true, sup := true }
  | .modeCmdStop .. | .restartCold .. | .restartWarm .. =>
    { requestParts with mode := true, recorder := true, treads := true, hall := true, tasks := true, plans := true, loops := true, dsp := true, field := true, pair := true, sup := true }
  | .modeCmdClearFault .. =>
    { requestParts with mode := true, params := true, recorder := true, treads := true, hall := true, plans := true, loops := true, sup := true }
  | .modeCmdMres .. =>
    { requestParts with mode := true, recorder := true, hall := true, tasks := true, loops := true, dsp := true, field := true, sup := true }
  | .crossingResync .. =>
    { now := true, recorder := true, crossings := true, carried := true, resyncs := true }
  | .applyPoint .. =>
    { requestParts with clock := true, params := true, staged := true, recorder := true, crossings := true, carried := true, resyncs := true, line := true, treads := true, hall := true, tasks := true, loops := true, dsp := true, field := true, pair := true, sup := true }
  | .taskRelease .. =>
    { now := true, tasks := true, pair := true, sup := true }
  | .alcoveStart .. | .g3TaskStart .. =>
    { now := true, tasks := true, sup := true }
  | .bundleIssue .. | .wdtExpired .. =>
    { allParts with bootAt := false, clock := false, params := false, staged := false, crossings := false, carried := false, resyncs := false, line := false, net := false, cans := false, nvm := false, fuses := false }
  | .land .. =>
    { requestParts with fresh := true, recorder := true, treads := true, hall := true, tasks := true, field := true, pair := true }
  | .majorLanding .. | .substituteMajorLanding .. =>
    { requestParts with fresh := true, mode := true, clock := true, params := true, staged := true, recorder := true, crossings := true, carried := true, resyncs := true, line := true, treads := true, hall := true, tasks := true, plans := true, loops := true, dsp := true, field := true, pair := true, sup := true }
  | .armfAct .. | .forward .. | .commandRecord .. | .lockstepResync .. =>
    { requestParts with mode := true, clock := true, params := true, recorder := true, crossings := true, carried := true, resyncs := true, line := true, treads := true, hall := true, tasks := true, plans := true, loops := true, dsp := true, field := true, pair := true, sup := true, fuses := true }
  | .evtDrain .. =>
    { now := true, recorder := true, tasks := true }
  | .zEdge .. =>
    { now := true, outbox := true, recorder := true, line := true, treads := true, tasks := true, pair := true }
  | .lineFaultClear .. | .faultReadmit .. | .estimatorTick .. | .importStale .. | .importHoldover .. =>
    { now := true, recorder := true, line := true }
  | .readmit .. =>
    { requestParts with recorder := true, line := true, pair := true }
  | .standstill .. =>
    { now := true, line := true }
  | .presetNow .. | .presetAtZ .. | .presetAtLanding .. =>
    { requestParts with recorder := true, line := true, treads := true, tasks := true, pair := true }
  | .roseloPositionRx .. =>
    { now := true, recorder := true, line := true, net := true }
  | .roseloExport .. =>
    { now := true, outbox := true, line := true, net := true }
  | .treadDue .. =>
    { allParts with bootAt := false, inReset := false, clock := false, params := false, staged := false, crossings := false, carried := false, resyncs := false, line := false, net := false, cans := false, nvm := false, fuses := false }
  | .trgCommit .. =>
    { now := true, fresh := true, outbox := true, recorder := true, treads := true, tasks := true, loops := true, field := true, pair := true }
  | .trgEdge .. | .trgPulseEnd .. | .trgIdleChange .. =>
    { now := true, outbox := true, treads := true }
  | .delayLineSwap .. =>
    { now := true, treads := true, sup := true }
  | .dioPulseEnd .. | .dioRetry .. | .fskTxStart .. =>
    { now := true, outbox := true, field := true }
  | .remoteFrameSend .. =>
    { now := true, outbox := true, recorder := true, treads := true, net := true, pair := true }
  | .flArm .. | .flDisarm .. | .flAbort .. | .flAnchorNow .. =>
    { requestParts with recorder := true, treads := true, tasks := true, pair := true }
  | .forceMask .. | .forceValue .. | .clearAll .. | .gainDataWrite .. =>
    { requestParts with staged := true }
  | .hallWinWrite .. =>
    { requestParts with hall := true, field := true, pair := true }
  | .hallWinRead .. | .read .. | .readMulti .. | .blockRead .. | .subscribe .. =>
    { requestParts with fresh := true, recorder := true, treads := true, hall := true }
  | .classTick .. =>
    { now := true, fresh := true, recorder := true, loops := true }
  | .loopEvaluation .. =>
    { now := true, outbox := true, hall := true, loops := true, field := true, cans := true, pair := true }
  | .loopEnable .. =>
    { requestParts with params := true, loops := true, pair := true }
  | .loopSpWrite .. =>
    { requestParts with params := true, pair := true }
  | .loopGroupWrite .. =>
    { requestParts with params := true, staged := true, loops := true, pair := true }
  | .dispatchEvalDone .. =>
    { now := true, dsp := true }
  | .dispatchOff .. | .dispatchAuto .. | .dispatchHold .. =>
    { requestParts with params := true, dsp := true }
  | .vgState .. | .dioOverload .. =>
    { now := true, outbox := true, recorder := true, field := true }
  | .vaState .. | .dioOpenLoad .. | .dioReadback .. | .aioReadback .. | .aioCompliance .. | .aioSurge .. =>
    { now := true, recorder := true, field := true }
  | .supplyChecksResume .. | .overrateClear .. | .surgeEnd .. | .openLoadClear .. =>
    { now := true, field := true }
  | .dioInputEdge .. =>
    { now := true, outbox := true, recorder := true, treads := true, hall := true, tasks := true, field := true, pair := true }
  | .dioWireBreak .. =>
    { now := true, recorder := true, hall := true, field := true }
  | .frequencyGate .. =>
    { now := true, hall := true, field := true }
  | .dioResetLatched .. | .dioZeroCounter .. =>
    { requestParts with field := true }
  | .aioSample .. =>
    { now := true, outbox := true, recorder := true, hall := true, field := true, pair := true }
  | .aioTrimNow .. =>
    { requestParts with recorder := true, field := true, pair := true }
  | .aioClearLatched .. =>
    { requestParts with field := true, pair := true }
  | .fskTxDone .. =>
    { now := true, tasks := true, field := true }
  | .fskRxFrame .. =>
    { now := true, outbox := true, recorder := true, hall := true, tasks := true, field := true, cans := true, pair := true }
  | .linkChange .. =>
    { now := true, outbox := true, recorder := true, crossings := true, carried := true, resyncs := true, net := true }
  | .ipAssigned .. | .idleTimeout .. | .roseloAnnounceRx .. =>
    { now := true, recorder := true, net := true }
  | .arpRefresh .. | .icmpEcho .. | .ppsOut .. | .arpRx .. | .ptpSyncTx .. =>
    { now := true, outbox := true, net := true }
  | .processFrameRx .. =>
    { now := true, outbox := true, recorder := true, hall := true, tasks := true, field := true, net := true, cans := true, pair := true }
  | .ptpSync .. =>
    { now := true, fresh := true, clock := true, recorder := true, line := true, treads := true, net := true }
  | .ptpAnnounceTimeout .. | .ptpAnnounceRx .. =>
    { now := true, clock := true, recorder := true, line := true, net := true }
  | .ppsIn .. =>
    { now := true, fresh := true, clock := true, recorder := true, line := true, net := true }
  | .timeSet .. =>
    { requestParts with clock := true, recorder := true, line := true, treads := true }
  | .helloPhase1 .. | .helloPhase2 .. | .helloPhase3 .. =>
    { now := true, outbox := true, recorder := true, net := true, cans := true }
  | .transferExpired .. =>
    { now := true, net := true }
  | .commit .. | .canRecoveryCmd .. | .psCommit .. | .protect .. | .psCleared .. | .rpProtect .. =>
    { requestParts with recorder := true }
  | .keySeqArm .. | .roleKeyWrite .. | .psRecordWrite .. =>
    requestParts
  | .roseloAnnounceTx .. | .dhcpLeaseExpired .. =>
    { now := true, outbox := true, recorder := true, net := true }
  | .canListFilter .. =>
    { now := true, outbox := true, recorder := true, hall := true, tasks := true, cans := true, pair := true }
  | .canTxDone .. =>
    { now := true, outbox := true, recorder := true, cans := true }
  | .canTxFailed .. | .canRecoveryStart .. | .canRecovered .. | .canIntegrated .. | .segmentTimeout .. | .canBusError .. =>
    { now := true, recorder := true, cans := true }
  | .canBamconTxSegment .. =>
    { now := true, cans := true }
  | .keepalive .. =>
    { now := true, clock := true, pair := true }
  | .delta .. | .join .. =>
    { requestParts with mode := true, clock := true, params := true, staged := true, recorder := true, crossings := true, carried := true, resyncs := true, line := true, treads := true, hall := true, tasks := true, plans := true, loops := true, dsp := true, field := true, pair := true, sup := true, fuses := true }
  | .compare .. =>
    { now := true, outbox := true, recorder := true, pair := true }
  | .corridorNak .. | .keepaliveTx .. | .compareTx .. =>
    { now := true, outbox := true, pair := true }
  | .corridorAck .. =>
    { now := true, plans := true, pair := true }
  | .corridorHello .. =>
    { now := true, outbox := true, mode := true, recorder := true, pair := true, sup := true }
  | .partnerJoined .. =>
    { now := true, recorder := true, pair := true, sup := true }
  | .laneChanged .. =>
    { now := true, outbox := true, recorder := true, crossings := true, carried := true, resyncs := true, pair := true }
  | .corridorSilence .. | .silenceConfirm .. | .pairSenseChange .. | .switchTSw .. | .handover .. =>
    { requestParts with fresh := true, mode := true, clock := true, params := true, recorder := true, crossings := true, carried := true, resyncs := true, line := true, treads := true, hall := true, tasks := true, plans := true, loops := true, dsp := true, field := true, pair := true, sup := true, fuses := true }
  | .shadowCheck .. | .driverTest .. | .switchReady .. =>
    { now := true, pair := true }
  | .switchover .. | .pairResyncCmd .. | .pairRejoinCmd .. | .rawPageWrite .. =>
    { requestParts with recorder := true, pair := true }
  | .switchoverDone .. =>
    { now := true, recorder := true, field := true, pair := true }
  | .psCommitTimer .. =>
    { now := true, nvm := true }
  | .reclaim .. | .ledgerSample .. | .avsStep .. | .marginAction .. | .sectorRefreshed .. =>
    { allParts with bootAt := false, fresh := false, inReset := false, clock := false, params := false, staged := false, crossings := false, carried := false, resyncs := false, line := false, net := false, cans := false, fuses := false }
  | .fwVerify .. | .fwConfirm .. | .wdtLock .. | .evidenceClear .. | .bkpLostClear .. | .backupBytesWrite .. =>
    { requestParts with sup := true }
  | .fwDiscard .. | .planVerify .. | .planDiscard .. | .cancel .. =>
    { requestParts with mode := true, recorder := true, plans := true, sup := true }
  | .fwVerified .. =>
    { now := true, mode := true, recorder := true, nvm := true, sup := true }
  | .pauseEnded .. =>
    { now := true, outbox := true, mode := true, recorder := true, treads := true, hall := true, tasks := true, plans := true, loops := true, dsp := true, field := true, nvm := true, sup := true }
  | .fwConfirmed .. | .fwConfirmExpired .. =>
    { now := true, recorder := true, nvm := true, sup := true }
  | .planActivate .. =>
    { requestParts with mode := true, clock := true, params := true, recorder := true, crossings := true, carried := true, resyncs := true, line := true, treads := true, hall := true, tasks := true, plans := true, loops := true, dsp := true, field := true, pair := true, sup := true }
  | .planVerified .. =>
    { now := true, mode := true, params := true, recorder := true, treads := true, hall := true, plans := true, loops := true, nvm := true, sup := true }
  | .swapAt .. =>
    { requestParts with recorder := true, plans := true, pair := true }
  | .publicKey .. =>
    { requestParts with plans := true }
  | .planKeyConfirm .. | .windowFuseBurn .. =>
    { requestParts with fuses := true }
  | .fuseBurnDone .. =>
    { now := true, recorder := true, fuses := true }
  | .wdtWarning .. | .caseMeasure .. =>
    { now := true, recorder := true, sup := true }
  | .supDisable .. =>
    { requestParts with recorder := true, sup := true }
  | .rtcSet .. =>
    { requestParts with clock := true, recorder := true, sup := true }
  | .rtcSync .. =>
    { now := true, clock := true, recorder := true, sup := true }
  | .calendarEnd .. =>
    { now := true, clock := true, recorder := true }
  | .rtcOsf .. =>
    { now := true, clock := true }
  | .backupLost .. =>
    { now := true, clock := true, sup := true }
  | .tokenAdd .. | .archiveCopy .. =>
    { now := true, recorder := true }
  | .vencOverload .. =>
    { now := true, outbox := true, recorder := true, line := true, pair := true, sup := true }
  | .vencRestore .. =>
    { now := true, outbox := true, recorder := true, sup := true }
  | .backupSupplyChange .. =>
    { now := true, sup := true }
  | .holdupExhausted .. =>
    { now := true, mode := true, sup := true }
  | .supervisorLockstepMismatch .. =>
    { now := true, outbox := true, mode := true, recorder := true, treads := true, hall := true, tasks := true, plans := true, loops := true, dsp := true, field := true, sup := true }
  | .debugHalt .. =>
    { now := true, tasks := true }

end Sys2Proof.Machine
end

