-- ==== Sys2Proof/Certificates/Slice0/Obligations.lean ====
section
/-! DEFINITION. The statements. Unless a docstring says otherwise, each is about every state and every operand that meets its hypotheses. -/
open Sys2Proof Sys2Proof.Machine

/-- One step takes the command at the front of the queue and carries it out on the state with the rest of the queue; on an empty queue the block idles, which is the model's choice (log 6). -/
def Obligations.StepRunsTheFront : Prop :=
  ∀ s : State, (∀ c rest, s.pending = c :: rest → Sys2Proof.Machine.step s = Sys2Proof.Machine.exec c { s with pending := rest }) ∧ (s.pending = [] → Sys2Proof.Machine.step s = .next s)

/-- A queue of well-formed commands runs: each step answers a next state, whose queue is the rest. -/
def Obligations.WellFormedQueuesRun : Prop :=
  ∀ s : State, s.queued → ∃ s', Sys2Proof.Machine.step s = .next s' ∧ s'.pending = s.pending.tail ∧ s'.queued

/-- The frame of every command: what it changes lies in its footprint, and every other part of the state is as it was. -/
def Obligations.CommandsStayInTheirFootprint : Prop :=
  ∀ (c : Instr) (s s' : State), Sys2Proof.Machine.exec c s = .next s' → s'.outside (footprint c) = s.outside (footprint c)

/-- After reset: the module is in reset before Boot, no command waits, nothing is staged, no Plan is loaded (14 R673, R684), nothing is forced (04 R215), both crossings' counts are 0 (01 R39), OSF is set (15 R725), the firmware is confirmed and healthy (14 R704), ACT_KIND is 1 (06 R343), the pair has no link (12 R622), the Maintainer key is the factory's (10 R536) and no record is stored; and the invariant holds. -/
def Obligations.ResetIsAsSpecified : Prop :=
  State.reset.mode = .boot ∧ State.reset.inReset = true ∧ State.reset.pending = [] ∧ State.reset.staged = [] ∧ State.reset.params = [] ∧ State.reset.plans.active = none ∧ State.reset.plans.actKind = 1
    ∧ State.reset.forced = false ∧ (∀ c ∈ State.reset.crossings, c = 0) ∧ State.reset.crossings.length = 12 ∧ State.reset.resyncs = 0 ∧ State.reset.clock.osf = true ∧ State.reset.sup.fw.state = 2
    ∧ State.reset.sup.fw.healthOk = true ∧ State.reset.pair.state = 0 ∧ State.reset.corridorUp = false ∧ State.reset.net.bamcon.keyFactory = true ∧ State.reset.nvm.records = [] ∧ State.reset.nvm.protect = 0
    ∧ State.reset.queued ∧ State.reset.anchored

/-- An invariant of every step: both fuse groups are sound and monotonic time has not begun in the future (00 R3 to R6; 05 R247). -/
def Obligations.AnchoredIsKept : Prop :=
  ∀ s s' : State, s.anchored → Sys2Proof.Machine.step s = .next s' → s'.anchored

/-- No step takes a committed value from a fuse group, nor gives a used slot back (00 R3 to R6). -/
def Obligations.CommittedFusesStay : Prop :=
  ∀ s s' : State, s.anchored → Sys2Proof.Machine.step s = .next s' →
    let kept (f f' : Fuse) : Prop := f.used ≤ f'.used ∧ (f.committed ≠ [] → f'.committed = f.committed)
    kept s.fuses.win s'.fuses.win ∧ kept s.fuses.key s'.fuses.key

/-- 02 R45: in quadrature mode a decoder counts every edge of A and B for ×4 decoding, every edge of A for ×2 and every rising edge of A for ×1; the count rises when A leads B, unless INVERT is set, and no other input changes. The levels are those that the filter accepts (02 R47); one that was taken ahead of its turn has acted (log 137). -/
def Obligations.QuadratureCountsItsEdges : Prop :=
  ∀ (t n : Nat) (a b : Bool) (s : State) (e : Enc), n < 8 → s.tracking = true → s.base ≠ .standby → s.encMode n = 1 →
    s.line.encs[n]? = some e → e.takenAt ≠ some t →
    (e.a ≠ a → (s.upTo t).held5 n e.aAt 1 = true) → (e.b ≠ b → (s.upTo t).held5 n e.bAt 1 = true) → (e.a = a ↔ e.b ≠ b) →
    let counted : Bool := match s.encCfg n 2 with | 4 => true | 2 => e.a ≠ a | _ => !e.a && a
    let step : Int := if aLeads e.a e.b a b = decide (s.encCfg n 7 = 0) then 1 else -1
    ∃ s' e', exec (.encoderCount t n a b) s = .next s' ∧ s'.line.encs[n]? = some e' ∧ e'.a = a ∧ e'.b = b
      ∧ e'.raw = (if counted then signed 64 (pattern 64 (e.raw + step)) else e.raw)
      ∧ e'.quadErr = e.quadErr ∧ ∀ j, j ≠ n → s'.line.encs[j]? = s.line.encs[j]?

/-- 02 R50, R51: levels that both change in one sample are a quadrature error: counted and recorded, the count as it was; the seventeenth within 1 ms faults the input. The levels are those that the filter accepts (02 R47). 02 R52 to R54: an accepted Z edge latches the count, is counted, becomes the reference of the next, and under Z_MODE 2 its spacing from the reference is checked; the count is unchanged, and so is every other input. An edge that the filter or the gate refuses does nothing. No other command waits in the clocks of the edge. -/
def Obligations.QuadratureErrorsAndZEdges : Prop :=
  (∀ (t n : Nat) (a b : Bool) (s : State) (e : Enc), n < 8 → s.tracking = true → s.base ≠ .standby → s.encMode n = 1 →
    s.line.encs[n]? = some e → e.takenAt ≠ some t → (s.upTo t).held5 n e.aAt 1 = true → (s.upTo t).held5 n e.bAt 1 = true →
    e.a ≠ a → e.b ≠ b →
    let recent := (e.quadTimes.filter fun q => max s.now t < q + 1000000).length + 1
    ∃ s' e', exec (.encoderCount t n a b) s = .next s' ∧ s'.line.encs[n]? = some e' ∧ e'.raw = e.raw
      ∧ e'.quadErr = holdMax 32 (e.quadErr + 1) ∧ e'.faulted = (e.faulted || 16 < recent)
      ∧ (∀ j, j ≠ n → s'.line.encs[j]? = s.line.encs[j]?)
      ∧ (e.faulted = true ∨ recent ≤ 16 →
          s'.recorder = ((s.upTo t).ev 0x2002 (leBytes 1 n ++ leBytes 4 (holdMax 32 (e.quadErr + 1)))).recorder))
  ∧ ∀ (t n : Nat) (s : State) (e : Enc), n < 8 → s.tracking = true → s.base ≠ .standby → s.encMode n = 1 → s.encCfg n 8 ≠ 0 →
    s.line.encs[n]? = some e → s.clear t →
    let wrong := s.encCfg n 8 = 2 ∧ ∃ r, e.zRef = some r ∧ (e.raw - r).natAbs ≠ s.encCfg n 4 * s.encCfg n 2
    ((s.upTo t).zGate n = true →
      ∃ s' e', exec (.zEdge t n) s = .next s' ∧ s'.line.encs[n]? = some e' ∧ e'.zLatch = e.raw ∧ e'.zCount = holdMax 32 (e.zCount + 1)
        ∧ e'.zRef = some e.raw ∧ e'.raw = e.raw ∧ (wrong → e'.zErr = holdMax 32 (e.zErr + 1)) ∧ (¬ wrong → e'.zErr = e.zErr)
        ∧ ∀ j, j ≠ n → s'.line.encs[j]? = s.line.encs[j]?)
    ∧ ((s.upTo t).zGate n = false → ∃ s', exec (.zEdge t n) s = .next s' ∧ s'.line = s.line ∧ s'.treads = s.treads)

/-- 02 R64, R65: a pair in use below 200 mV sets its bit and faults the input, with event 0x2001; the last bit that clears starts the 100 ms of R65, and at their end the input is readmitted. A pair not in use faults nothing. -/
def Obligations.LineFaultsFaultTheInput : Prop :=
  ∀ (t n pair : Nat) (s : State) (e : Enc), n < 8 → s.line.encs[n]? = some e → s.base ≠ .standby → s.clear t →
    (s.live = true → pair < 3 → bitAt (s.pairsInUse n) pair = true →
      ∃ s' e', exec (.encLineFault t n pair) s = .next s' ∧ s'.line.encs[n]? = some e' ∧ bitAt e'.low pair = true ∧ e'.faulted = true
        ∧ e'.zRef = none ∧ e'.faultAt = max s.now t ∧ e'.raw = e.raw ∧ (∀ j, j ≠ n → s'.line.encs[j]? = s.line.encs[j]?)
        ∧ ((∀ r ∈ s.line.srcs, r.enabled = false) → s'.recorder = ((s.upTo t).ev 0x2001 (leBytes 1 n ++ leBytes 1 (s'.lineFault n))).recorder))
    ∧ (s.live = true → pair < 3 → bitAt (s.pairsInUse n) pair = false →
      ∃ s' e', exec (.encLineFault t n pair) s = .next s' ∧ s'.line.encs[n]? = some e' ∧ bitAt e'.low pair = true ∧ e'.faulted = e.faulted
        ∧ e'.raw = e.raw ∧ s'.recorder = s.recorder ∧ ∀ j, j ≠ n → s'.line.encs[j]? = s.line.encs[j]?)
    ∧ (s.live = true → pair < 3 → s.lineFault n ≠ 0 → Nat.land (setBit e.low pair false) (s.pairsInUse n) = 0 →
      ∃ s' e', exec (.lineFaultClear t n pair) s = .next s' ∧ s'.line.encs[n]? = some e' ∧ e'.low = setBit e.low pair false
        ∧ s'.lineFault n = 0 ∧ e'.faulted = e.faulted ∧ e'.faultAt = max s.now t ∧ ∀ j, j ≠ n → s'.line.encs[j]? = s.line.encs[j]?)
    ∧ (s.live = true → e.faulted = true → s.lineFault n = 0 → e.faultAt + 100000000 ≤ max s.now t →
      ∃ s' e', exec (.faultReadmit t n) s = .next s' ∧ s'.line.encs[n]? = some e' ∧ e'.faulted = false ∧ e'.raw = e.raw
        ∧ ∀ j, j ≠ n → s'.line.encs[j]? = s.line.encs[j]?)

/-- 02 R57 to R63: a read that fails its error bit or parity, or whose signed difference modulo 2^SSI_BITS exceeds 2^(SSI_BITS − 2), is discarded and counted, and the third in a row faults the input; any other read after the first steps the count by the difference. That a jump moves the reference, and an odd parity bit being a failure, are the model's reading (logs 11, 28). -/
def Obligations.SsiReadsStepTheCount : Prop :=
  ∀ (t n t0 raw : Nat) (err par : Bool) (s : State) (e : Enc), n < 8 → s.tracking = true → s.base ≠ .standby → s.encMode n = 2 →
    s.line.encs[n]? = some e →
    let w := s.encCfg n 0x0B
    let v := s.ssiValue n raw
    let diff (prev : Nat) : Int := signed w (pattern w ((v : Int) - (prev : Int)))
    let discarded (e' : Enc) : Prop :=
      e'.raw = e.raw ∧ e'.ssiErr = holdMax 32 (e.ssiErr + 1) ∧ e'.ssiBad = e.ssiBad + 1 ∧ e'.faulted = (e.faulted || 2 ≤ e.ssiBad)
    (s.ssiFails n raw err par ≠ none →
      ∃ s' e', exec (.ssiRead t n t0 raw err par) s = .next s' ∧ s'.line.encs[n]? = some e' ∧ discarded e' ∧ e'.ssiPrev = e.ssiPrev
        ∧ ∀ j, j ≠ n → s'.line.encs[j]? = s.line.encs[j]?)
    ∧ (∀ prev, s.ssiFails n raw err par = none → e.ssiPrev = some prev → e.awaiting = false →
        2 ^ (w - 2) < (diff prev).natAbs →
      ∃ s' e', exec (.ssiRead t n t0 raw err par) s = .next s' ∧ s'.line.encs[n]? = some e' ∧ discarded e'
        ∧ ∀ j, j ≠ n → s'.line.encs[j]? = s.line.encs[j]?)
    ∧ (∀ prev, s.ssiFails n raw err par = none → e.ssiPrev = some prev → e.awaiting = false →
        (diff prev).natAbs ≤ 2 ^ (w - 2) →
      let step := if s.encCfg n 7 = 0 then diff prev else -diff prev
      ∃ s' e', exec (.ssiRead t n t0 raw err par) s = .next s' ∧ s'.line.encs[n]? = some e' ∧ e'.raw = (if step = 0 then e.raw else signed 64 (pattern 64 (e.raw + step)))
        ∧ e'.ssiPrev = some v ∧ e'.ssiErr = e.ssiErr ∧ ∀ j, j ≠ n → s'.line.encs[j]? = s.line.encs[j]?)

/-- 02 R66, R74, R90: a count step reaches each enabled source in which its input is active: the scaled increment, then its weighted share, each with its remainder kept exactly, and the LPC moves by the share. The levels are those that the filter accepts (02 R47). 02 R102: the first valid read of the input that a source awaits loads the scaled value plus ABS_OFFSET, and the source waits no longer. -/
def Obligations.CountsReachTheirSources : Prop :=
  (∀ (t n i : Nat) (a b : Bool) (s : State) (e : Enc) (r : Src), n < 8 → i < 4 → s.tracking = true → s.base ≠ .standby → s.encMode n = 1 →
    s.line.encs[n]? = some e → s.line.srcs[i]? = some r → e.takenAt ≠ some t →
    (e.a ≠ a → (s.upTo t).held5 n e.aAt 1 = true) → (e.b ≠ b → (s.upTo t).held5 n e.bAt 1 = true) → (e.a = a ↔ e.b ≠ b) → (s.encCfg n 2 = 4 ∨ (s.encCfg n 2 = 2 ∧ e.a ≠ a) ∨ (e.a = false ∧ a = true)) →
    r.enabled = true → s.srcCfg i 1 = 0 → r.awaitAbs = none → s.activeMask i = r.active → bitAt r.active n = true →
    let step : Int := if aLeads e.a e.b a b = decide (s.encCfg n 7 = 0) then 1 else -1
    let acc := (e.rem : Int) + step * s.encCfg n 5
    let share := (r.rem : Int) + acc / s.encCfg n 6 * s.weight i n
    ∃ s' e' r', exec (.encoderCount t n a b) s = .next s' ∧ s'.line.encs[n]? = some e' ∧ s'.line.srcs[i]? = some r'
      ∧ e'.rem = (acc % s.encCfg n 6).toNat ∧ r'.rem = (share % 65536).toNat ∧ r'.lpc = r.lpc + BitVec.ofInt 64 (share / 65536)
      ∧ r'.standstill = false ∧ r'.lastCount = max s.now t)
  ∧ ∀ (t n i t0 raw : Nat) (err par : Bool) (s : State) (e : Enc) (r : Src), n < 8 → i < 4 → s.tracking = true → s.base ≠ .standby → s.encMode n = 2 →
    s.line.encs[n]? = some e → s.line.srcs[i]? = some r → r.awaitAbs = some n → s.ssiFails n raw err par = none → e.ssiPrev = none → e.faulted = false →
    ∃ s' r', exec (.absStartLoaded t n t0 raw err par) s = .next s' ∧ s'.line.srcs[i]? = some r' ∧ r'.lpc = s.absolute i n (s.ssiValue n raw)
      ∧ r'.presetStep = s.absolute i n (s.ssiValue n raw) ∧ r'.awaitAbs = none ∧ r'.v = 0 ∧ r'.a = 0

/-- 02 R85, R86, R111: at its tick a local source predicts with T, corrects by the residual where a count arrived, keeps its LPC, and publishes; an instant off its grid is no tick. The rounding of the estimator is the model's own open constant (log 8). -/
def Obligations.EstimatorsPredictAndCorrect : Prop :=
  ∀ (t i : Nat) (s : State) (r : Src), i < 4 → s.tracking = true → s.base ≠ .standby → s.line.srcs[i]? = some r → s.srcCfg i 1 = 0 →
    r.enabled = true → r.lost = false → r.awaitAbs = none →
    ((s.upTo t).onGrid i = false → ∃ s', exec (.estimatorTick t i) s = .next s' ∧ s'.line = s.line) ∧
    ((s.upTo t).onGrid i = true → r.tickAt ≤ max s.now t →
    let T : Rat := (s.srcCfg i 9 : Rat) / 1000
    let x1 := estRound ((r.x : Rat) + r.v * T + r.a * T * T / 2)
    let v1 := velRound ((r.v : Rat) + r.a * T)
    let dt : Rat := (((max s.now t : Nat) : Int) - (r.lastPin : Int) : Int) / 1000
    let e : Int := wrap96 (r.lpc.toInt * 2 ^ 32 - estRound ((x1 : Rat) - (v1 : Rat) * dt))
    ∃ s' r', exec (.estimatorTick t i) s = .next s' ∧ s'.line.srcs[i]? = some r' ∧ r'.lpc = r.lpc ∧ r'.rem = r.rem ∧ r'.counted = false
      ∧ r'.tickAt = max s.now t ∧ r'.pub.lpc = r.lpc ∧ r'.pub.v = r'.v ∧ r'.pub.stamp = (s.upTo t).time
      ∧ (r.counted = false → r'.x = x1 ∧ r'.v = v1 ∧ r'.a = r.a)
      ∧ (r.counted = true →
          r'.x = estRound ((x1 : Rat) + s.cfgF (0x2040 + i) 0x0A * e)
          ∧ r'.v = velRound ((v1 : Rat) + s.cfgF (0x2040 + i) 0x0B / T * e)
          ∧ r'.a = estRound ((r.a : Rat) + 2 * s.cfgF (0x2040 + i) 0x0C / (T * T) * e))
      ∧ ∀ j, j ≠ i → s'.line.srcs[j]? = s.line.srcs[j]?)

/-- 02 R89, R93, R107: no count for STILL_TIME sets v and a to 0 and STANDSTILL; no sample for STALE_TIME sets STALE, frees the sender lock and is recorded; none until HOLDOVER loses the source, whose LPC freezes. No sample waits in the same position clock. -/
def Obligations.SilentSourcesStopAndAreLost : Prop :=
  ∀ (t i : Nat) (s : State) (r : Src), i < 4 → s.tracking = true → s.base ≠ .standby → s.line.srcs[i]? = some r → s.clear t →
    (s.srcCfg i 1 = 0 → r.standstill = false → r.lastCount + 1000000 * s.srcCfg i 6 ≤ max s.now t →
      ∃ s', exec (.standstill t i) s = .next s' ∧ s'.line.srcs[i]? = some { r with v := 0, a := 0, standstill := true }
        ∧ (∀ j, j ≠ i → s'.line.srcs[j]? = s.line.srcs[j]?) ∧ s'.recorder = s.recorder)
    ∧ (s.srcCfg i 1 = 1 → r.stale = false → r.sampleAt + 1000 * s.srcCfg i 0x19 ≤ max s.now t →
      ∃ s', exec (.importStale t i) s = .next s' ∧ s'.line.srcs[i]? = some { r with stale := true, sender := none }
        ∧ (∀ j, j ≠ i → s'.line.srcs[j]? = s.line.srcs[j]?)
        ∧ s'.recorder = ((s.upTo t).ev 0x2017 (leBytes 1 i ++ leBytes 1 (s.srcCfg i 0x18))).recorder)
    ∧ (s.srcCfg i 1 = 1 → r.lost = false → r.sampleAt + 1000 * s.srcCfg i 0x1A ≤ max s.now t →
      ∃ s', exec (.importHoldover t i) s = .next s'
        ∧ s'.line.srcs[i]? = some { r with v := 0, a := 0, valid := false, homed := false, lost := true, x := r.lpc.toInt * 2 ^ 32 }
        ∧ (∀ j, j ≠ i → s'.line.srcs[j]? = s.line.srcs[j]?)
        ∧ s'.recorder = ((s.upTo t).ev 0x2012 (leBytes 1 i ++ leBytes 8 r.lpc.toNat)).recorder)

/-- 02 R82, R83, R95, R96, R98: PRESET_CMD 1 loads PRESET at once, keeps v, a and the remainder, sets HOMED, clears RESTORED and reports the step; 2 and 3 wait, with the value that PRESET holds now; READMIT returns the excluded inputs that it names and clears SLIP once none stays excluded. No other command waits in the clocks of the write. -/
def Obligations.PresetsAndReadmission : Prop :=
  ∀ (t i k : Nat) (o : Origin) (s : State) (r : Src), i < 4 → s.line.srcs[i]? = some r → s.clear t →
    let v : Dword := BitVec.ofNat 64 (s.srcCfg i 0x1D)
    ((s.upTo t).granted o k (0x2040 + i) 0x1E (leBytes 1 1) = true →
      ∃ s', exec (.presetNow t o i) s = .next s'
        ∧ s'.line.srcs[i]? = some { r with lpc := v, x := r.x + (v - r.lpc).toInt * 2 ^ 32, homed := true, restored := false, presetStep := v - r.lpc, preset := none }
        ∧ (∀ j, j ≠ i → s'.line.srcs[j]? = s.line.srcs[j]?) ∧ s'.line.encs = s.line.encs)
    ∧ ((s.upTo t).granted o k (0x2040 + i) 0x1E (leBytes 1 2) = true →
      ∃ s', exec (.presetAtZ t o i) s = .next s' ∧ s'.line.srcs[i]? = some { r with preset := some (.atZ v) }
        ∧ (∀ j, j ≠ i → s'.line.srcs[j]? = s.line.srcs[j]?) ∧ s'.treads = s.treads)
    ∧ ((s.upTo t).granted o k (0x2040 + i) 0x1E (leBytes 1 3) = true →
      ∃ s', exec (.presetAtLanding t o i) s = .next s' ∧ s'.line.srcs[i]? = some { r with preset := some (.atLanding v) }
        ∧ (∀ j, j ≠ i → s'.line.srcs[j]? = s.line.srcs[j]?) ∧ s'.treads = s.treads)
    ∧ ∀ mask, (s.upTo t).granted o k (0x2040 + i) 0x1F (leBytes 1 mask) = true → mask < 256 →
      ∃ s' r', exec (.readmit t o i mask) s = .next s' ∧ s'.line.srcs[i]? = some r' ∧ r'.readmit = true ∧ r'.lpc = r.lpc
        ∧ r'.excluded = ((bitsOf mask 8).filter fun n => bitAt r.excluded n).foldl (fun m n => setBit m n false) r.excluded
        ∧ r'.slip = (r.slip && decide (r'.excluded ≠ 0)) ∧ ∀ j, j ≠ i → s'.line.srcs[j]? = s.line.srcs[j]?

/-- 03 R129, R131, R135, R137: what each Flight command does to the Flight it names, by the state that the Flight holds; no other Flight changes. No Flight command of ARMF is left to act before it. -/
def Obligations.FlightCommandsMoveTheFlight : Prop :=
  ∀ (t f k : Nat) (o : Origin) (s : State) (x : Flight), f < 256 → s.treads.flights[f]? = some x →
    (∀ a ∈ s.tasks.armf, posClock (max s.now t) < posClock a.2.2) →
    let x : Flight := { x with cmdAt := some (posClock (max s.now t)), before := (s.upTo t).flStateAtWrite f }
    let left := ((s.upTo t).fillNow (s.flSource f)).runLeft (s.flSource f) f
    let asks (c : Nat) := (s.upTo t).granted o k (0x218C + f / 128) (f % 128 + 1) (leBytes 1 c) = true
    let others (s' : State) := ∀ j, j ≠ f → s'.treads.flights[j]? = s.treads.flights[j]?
    (asks 1 → (x.state = .idle ∨ x.state = .done) → s.flLength f ≠ 0 → s.flAnchor f ≠ 0 →
      ∃ s', exec (.flArm t o f) s = .next s' ∧ s'.treads.flights[f]? = some { x with state := .armed } ∧ others s' ∧ s'.treads.srcs = s.treads.srcs)
    ∧ (asks 2 → x.state = .armed →
      ∃ s', exec (.flDisarm t o f) s = .next s' ∧ s'.treads.flights[f]? = some { x with state := .idle } ∧ others s' ∧ s'.treads.srcs = s.treads.srcs)
    ∧ (asks 2 → x.state = .running →
      ∃ s', exec (.flDisarm t o f) s = .next s' ∧ s'.treads.flights[f]? = some { x with lastRun := true } ∧ others s' ∧ s'.treads.srcs = s.treads.srcs)
    ∧ (asks 3 → x.state = .running → (s.tsrc (s.flSource f)).queued = [] →
      ∃ s', exec (.flAbort t o f) s = .next s'
        ∧ s'.treads.flights[f]? = some { x with state := .idle, lastRun := false, skips := [], missed := holdMax 32 (x.missed + left) }
        ∧ others s' ∧ s'.treads.missedTotal = holdMax 32 (s.treads.missedTotal + left)
        ∧ (s.flSource f < s.treads.srcs.length → (s'.tsrc (s.flSource f)).running = none ∧ (s'.tsrc (s.flSource f)).window = [])
        ∧ s'.treads.trgs = s.treads.trgs)
    ∧ (asks 4 → x.state = .armed → (s.tsrc (s.flSource f)).running = none →
      ∃ s', exec (.flAnchorNow t o f) s = .next s'
        ∧ s'.treads.flights[f]? = some { x with anchor := (s.src (s.flSource f)).lpc, state := .running, lastRun := false, skips := [] } ∧ others s')

/-- 03 R151, R152, R154: the first committed edge of a channel sets its level by its KIND, the end of a KIND 0 pulse returns it to IDLE, a new IDLE level takes it once nothing is pending, and a swap of its delay lines, 10 s after the last with no edge in the next 2 µs or 60 s after it between two pulses, moves no edge; the pins show a change while the channel drives them. -/
def Obligations.TriggerChannelsShapeTheirPulses : Prop :=
  ∀ (t c : Nat) (s : State) (x : Trg), c < 16 → s.live = true → s.treads.trgs[c]? = some x →
    let now := max s.now t
    let shows (s' : State) (level : Bool) := s'.outbox = if s.trgDriven c then .trg c level now :: s.outbox else s.outbox
    let others (s' : State) := (∀ j, j ≠ c → s'.treads.trgs[j]? = s.treads.trgs[j]?) ∧ s'.treads.flights = s.treads.flights ∧ s'.treads.srcs = s.treads.srcs
    (∀ e rest, x.edges = e :: rest → e.time ≤ now →
      let level := match e.kind with | 0 => !(s.trgIdle c) | 1 => !(s.trgIdle c) | 2 => s.trgIdle c | _ => !x.level
      ∃ s', exec (.trgEdge t c) s = .next s'
        ∧ s'.treads.trgs[c]? = some { x with edges := rest, pulseEnd := if e.kind = 0 then some (e.time + e.width) else none, level := level, changedAt := now }
        ∧ shows s' level ∧ others s')
    ∧ (∀ q, x.pulseEnd = some q → q ≤ now →
      ∃ s', exec (.trgPulseEnd t c) s = .next s' ∧ s'.treads.trgs[c]? = some { x with pulseEnd := none, level := s.trgIdle c, changedAt := now } ∧ shows s' (s.trgIdle c) ∧ others s')
    ∧ (x.idleWait = true → x.edges = [] → x.pulseEnd = none →
      ∃ s', exec (.trgIdleChange t c) s = .next s' ∧ s'.treads.trgs[c]? = some { x with idleWait := false, level := s.trgIdle c, changedAt := now }
        ∧ shows s' (s.trgIdle c) ∧ others s')
    ∧ ((x.swapAt + 10000000000 ≤ now ∧ (∀ e ∈ x.edges, now + 2000 < e.time) ∧ (∀ q, x.pulseEnd = some q → now + 2000 < q))
        ∨ (x.swapAt + 60000000000 ≤ now ∧ x.pulseEnd = none ∧ ∀ e ∈ x.edges, now < e.time ∧ x.changedAt + s.cfg (0x2110 + c) 3 + 50 ≤ e.time) →
      ∃ s', exec (.delayLineSwap t c) s = .next s' ∧ s'.treads.trgs[c]? = some { x with swapAt := now, lineB := !x.lineB } ∧ others s' ∧ s'.outbox = s.outbox)

/-- 03 R121, R141, R145, R146: a head of a local source that is due and not late fires once, and a repeat of it becomes the head; a committed TRG head puts one edge at τ + SKEW + DELAY on its channel, as long as no earlier edge trails on it (R153). The window is as it stands at that instant, and nothing keeps the head from firing (R138, R168). -/
def Obligations.DueHeadsFire : Prop :=
  ∀ (t i : Nat) (s : State) (r : TreadSrc) (e : WinEnt) (rest : List WinEnt) (f : Nat), i < 4 → s.base ≠ .standby → s.pausing = false →
    let u := (s.upTo t).fillNow i
    u.treads.srcs[i]? = some r → r.window = e :: rest → r.running = some f → r.headLate = false → s.lead i = none →
    e.k < treadRepeats (s.tread e.tread) → u.comparing i = true → u.headWaits i = false →
    (treadAction (s.tread e.tread) = 0 ∨ treadAction (s.tread e.tread) = 7 → u.headAhead i e ≤ 0 →
      ∃ s' r', exec (.treadDue t i false) s = .next s' ∧ s'.treads.srcs[i]? = some r' ∧ r'.window = { e with k := e.k + 1 } :: rest
        ∧ r'.running = some f ∧ s'.treads.firedTotal = holdMax 64 (s.treads.firedTotal + 1) ∧ s'.treads.flights = s.treads.flights ∧ s'.treads.trgs = s.treads.trgs)
    ∧ (∀ x : Trg, treadAction (s.tread e.tread) = 1 → u.headAhead i e ≤ 0 → u.sameDue i (u.due e) = none →
        s.treads.trgs[treadOperand (s.tread e.tread) % 16]? = some x → x.trailing = none →
      let c := treadOperand (s.tread e.tread) % 16
      let shape := treadOperand (s.tread e.tread) / 16 % 64
      let at_ := (max (max s.now t : Int) ((max s.now t : Int) + s.cfgInt 32 (0x2110 + c) 4 + s.cfg (0x2120 + shape) 3)).toNat
      ∃ s' x', exec (.trgCommit t i) s = .next s' ∧ s'.treads.trgs[c]? = some x' ∧ x'.pulses = holdMax 32 (x.pulses + 1)
        ∧ x'.edges = x.edges ++ [⟨at_, s.cfg (0x2120 + shape) 1, s.cfg (0x2120 + shape) 2, e.tread⟩]
        ∧ s'.treads.firedTotal = holdMax 64 (s.treads.firedTotal + 1) ∧ s'.treads.flights = s.treads.flights)

/-- 02 R105 to R108, 10 R525 to R527: a valid position frame is taken from the station whose frames the source takes, or from any once that one was silent for STALE_TIME; a repeated SEQ and another station's frame change no source. An exported source sends its published sample on each port of its mask (R524). -/
def Obligations.PositionFramesFeedTheirSource : Prop :=
  ∀ (t p mac minor stream seq i : Nat) (x : Dword) (v : Int) (a : Word) (at_ : Nat) (s : State) (r : Src), p < 2 → i < 4 → s.tracking = true → s.line.srcs[i]? = some r →
    let now := max s.now t
    let d := (seq + 65536 - r.lastSeq) % 65536
    (s.canSend p = true → s.roseloOn p = true → s.srcCfg i 1 = 1 → s.srcCfg i 0x18 = stream → r.enabled = true → 1 ≤ minor → minor ≤ 2 →
      (r.sender = none ∨ r.heardAt + 1000 * s.srcCfg i 0x19 ≤ now ∨ (r.sender = some mac ∧ d ≠ 0 ∧ d < 32768) →
      ∃ s' r', exec (.roseloPositionRx t p mac 1 minor stream seq true x v a at_) s = .next s' ∧ s'.line.srcs[i]? = some r'
        ∧ r'.sender = some mac ∧ r'.lastSeq = seq ∧ r'.sampleAt = now ∧ r'.stale = false ∧ r'.lost = (r.lost && !s.clock.ptpValid)
        ∧ r'.sample = some ⟨x, v, estRound (f32Val a * 2 ^ 32), at_⟩ ∧ r'.valid = s.clock.ptpValid ∧ s'.line.encs = s.line.encs)
      ∧ (∀ m, now < r.heardAt + 1000 * s.srcCfg i 0x19 → r.sender = some m → (m ≠ mac ∨ d = 0 ∨ 32768 ≤ d) →
      ∃ s', exec (.roseloPositionRx t p mac 1 minor stream seq true x v a at_) s = .next s'
        ∧ s'.line.srcs[i]? = some (if m = mac then { r with heardAt := now } else r) ∧ s'.line.encs = s.line.encs))
    ∧ (s.cfgOn (0x2040 + i) 0x1B = true → s.base ≠ .standby → ∀ n y, s.net.roselo.exports[i]? = some n → r.export_ = some y →
      let id := s.srcCfg i 0x1C
      let ports := [1, 0].filter fun q => bitAt (s.cfg (0x2504 + i) 1) q && s.roseloOn q
      ports ≠ [] →
      ∃ s', exec (.roseloExport t i) s = .next s' ∧ s'.net.roselo.exports[i]? = some (n + 1) ∧ s'.line.srcs[i]? = some { r with export_ := none }
        ∧ s'.line.encs = s.line.encs
        ∧ s'.outbox = ((ports.filter fun q => s.canSend q).map fun q =>
            s.onWire q (.roselo q (roseloDest 0 id) (positionFrame (s.net.roselo.minor.getD q 2) (n % 65536) id y))) ++ s.outbox)
    ∧ (r.export_ = none → ∃ s', exec (.roseloExport t i) s = .next s' ∧ s'.line = s.line ∧ s'.net = s.net ∧ s'.outbox = s.outbox)

/-- 03 R156, R157: in its slot the first queued trigger frame of a source leaves and its firing counts; one whose lead has shrunk below the least lead is withheld and counted missed where its Flight's policy says so; one due at its Flight's anchor is not late (R160). 10 R523: an announce of a station is kept for 1 s, and its port uses the lowest MINOR heard, its own included; one of another MAJOR counts as low. Every 100 ms a port announces. -/
def Obligations.TriggerFramesAndAnnounces : Prop :=
  (∀ (t i : Nat) (s : State) (r : TreadSrc) (f : TrigFrame) (rest : List TrigFrame), i < 4 → s.tracking = true → s.clock.ptpValid = true →
    s.treads.srcs[i]? = some r → r.frames = f :: rest → (∀ q, r.lastSlot = some q → q + 10000 ≤ max s.now t) →
    s.base ≠ .standby →
    let lead := f.fire - (s.upTo t).time
    let due := f.pos = (s.flight f.flight).anchor
    (1000 * s.cfg (0x2104 + i) 3 ≤ lead ∨ due →
      let n := sget 0 s.net.roselo.sent f.id
      let ports := [1, 0].filter fun q => bitAt (s.cfg (0x2520 + f.id / 128) (f.id % 128 + 1)) q && s.roseloOn q
      ∃ s', exec (.remoteFrameSend t i) s = .next s' ∧ s'.treads.srcs[i]? = some { r with frames := rest, lastSlot := some (max s.now t) }
        ∧ s'.treads.firedTotal = holdMax 64 (s.treads.firedTotal + 1) ∧ s'.net.roselo.trgTx = (if ports = [] then s.net.roselo.trgTx else holdMax 32 (s.net.roselo.trgTx + 1))
        ∧ s'.outbox = ((ports.filter fun q => s.canSend q).map fun q =>
            s.onWire q (.roselo q (roseloDest 1 f.id) (triggerFrame (s.net.roselo.minor.getD q 2) (n % 65536) f))) ++ s.outbox)
    ∧ (∀ x, lead < 1000 * s.cfg (0x2104 + i) 3 → ¬ due → bitAt (s.flPolicy f.flight) 2 = true → s.treads.flights[f.flight]? = some x →
      ∃ s', exec (.remoteFrameSend t i) s = .next s' ∧ s'.treads.srcs[i]? = some { r with frames := rest } ∧ s'.outbox = s.outbox
        ∧ s'.treads.flights[f.flight]? = some { x with missed := holdMax 32 (x.missed + 1) } ∧ s'.treads.firedTotal = s.treads.firedTotal))
  ∧ ∀ (t p mac minorMax : Nat) (s : State), p < 2 → s.canSend p = true → s.roseloOn p = true → p < s.net.roselo.minor.length →
    let now := max s.now t
    (1 ≤ minorMax →
      let others := s.net.roselo.stations.filter fun x => (x.1 ≠ p || x.2.1 ≠ mac) && now < x.2.2.2 + 1000000000
      ∃ s', exec (.roseloAnnounceRx t p mac 1 minorMax) s = .next s' ∧ s'.net.roselo.stations = (p, mac, minorMax, now) :: others
        ∧ s'.net.roselo.minor[p]? = some (((others.filter fun x => x.1 = p).map (·.2.2.1)).foldl min (min 2 minorMax)) ∧ s'.net.roselo.low = s.net.roselo.low)
    ∧ (∀ major, major ≠ 1 → ∃ s', exec (.roseloAnnounceRx t p mac major minorMax) s = .next s' ∧ s'.net.roselo.low = holdMax 32 (s.net.roselo.low + 1)
        ∧ s'.net.roselo.stations = s.net.roselo.stations ∧ s'.recorder = ((s.upTo t).ev 0x6032 (leBytes 1 p ++ beBytes 6 mac)).recorder)
    ∧ ∃ s', exec (.roseloAnnounceTx t p) s = .next s'
        ∧ s'.outbox = s.onWire p (.roselo p (roseloDest 2 0) (announceFrame ((s.upTo t).minorUse p) s.net.roselo.annSeq)) :: s.outbox ∧ s'.net.roselo.annSeq = s.net.roselo.annSeq + 1
        ∧ s'.net.roselo.minor[p]? = some ((s.upTo t).minorUse p)

/-- 10 R481 to R485, R495, R505: the link and the address of a port follow the wire, a port that loses its address closes its sessions, ARP entries are learned and refreshed, and requests for an own address and echo requests are answered, at most 100 echoes per second. -/
def Obligations.PortsFollowTheWire : Prop :=
  ∀ (t p ip : Nat) (s : State) (x : Port), p < 2 → s.net.ports[p]? = some x →
    let closed (s' : State) := ∀ k < 16, ∀ y, s'.net.bamcon.sessions[k]? = some y → y.state ≠ 0 → y.link ≠ p
    (∀ l, s.live = true → l < 3 → x.link ≠ l → ∃ s' x', exec (.linkChange t p l) s = .next s' ∧ s'.net.ports[p]? = some x' ∧ x'.link = l
        ∧ (l = 0 → x'.ip = 0 ∧ closed s') ∧ (l ≠ 0 → x'.ip = x.ip ∧ s'.net.bamcon = s.net.bamcon
          ∧ s'.recorder = ((((s.upTo t).ev 0x6001 (leBytes 1 p ++ leBytes 1 l)).resync (6 + 2 * p) 0).resync (7 + 2 * p) 0).recorder))
    ∧ (∀ dhcp, s.canSend p = true → ip ≠ 0 → (if dhcp then s.portCfg p 3 = 1 else ip = s.portCfg p 4 ∧ x.lease = false) →
      (∀ c, x.conflictAt = some c → c + 10000000000 ≤ max s.now t) →
      (∃ s' x', exec (.ipAssigned t p ip dhcp none) s = .next s' ∧ s'.net.ports[p]? = some x' ∧ x'.ip = ip ∧ x'.lease = dhcp ∧ x'.conflictAt = none
        ∧ (x.ip ≠ 0 → x.ip ≠ ip → closed s')
        ∧ (x.ip = 0 ∨ x.ip = ip → s'.net.bamcon = s.net.bamcon
            ∧ s'.recorder = ((s.upTo t).ev 0x6002 (leBytes 1 p ++ leBytes 4 ip ++ leBytes 1 (ofBool dhcp))).recorder))
      ∧ ∀ mac, ∃ s' x', exec (.ipAssigned t p ip dhcp (some mac)) s = .next s' ∧ s'.net.ports[p]? = some x' ∧ x'.ip = 0
          ∧ x'.conflictAt = some (max s.now t) ∧ closed s')
    ∧ (s.live = true → x.lease = true → ∃ s' x', exec (.dhcpLeaseExpired t p) s = .next s' ∧ s'.net.ports[p]? = some x' ∧ x'.ip = 0 ∧ x'.lease = false ∧ closed s'
        ∧ (s.canSend p = true → s.onWire p (.dhcp p) ∈ s'.outbox))
    ∧ (s.canSend p = true → (x.arp.any fun e => e.1 = ip && e.2.2 + 60000000000 ≤ max s.now t) = true →
      ∃ s', exec (.arpRefresh t p ip) s = .next s' ∧ s'.outbox = s.onWire p (.arp p ip false) :: s.outbox ∧ s'.net.ports[p]? = some { x with txFrames := holdMax 32 (x.txFrames + 1) })
    ∧ (∀ mac target, s.canSend p = true →
      (∃ s' x', exec (.arpRx t p ip mac target false) s = .next s' ∧ s'.net.ports[p]? = some x' ∧ (ip, mac, max s.now t) ∈ x'.arp ∧ s'.outbox = s.outbox)
      ∧ (s.ownIp p target = true → ∃ s', exec (.arpRx t p ip mac target true) s = .next s' ∧ s'.outbox = s.onWire p (.arp p ip true) :: s.outbox))
    ∧ ∀ d : Bytes, s.canSend p = true → x.ip ≠ 0 →
      let n := if x.echoSlot = (s.upTo t).mono / 1000000000 then x.echoes else 0
      (d.length ≤ 1472 → n < 100 → ∃ s' x', exec (.icmpEcho t p ip d) s = .next s' ∧ s'.outbox = s.onWire p (.icmp p ip d) :: s.outbox
        ∧ s'.net.ports[p]? = some x' ∧ x'.echoes = n + 1 ∧ x'.echoSlot = (s.upTo t).mono / 1000000000)
      ∧ (100 ≤ n → ∃ s' x', exec (.icmpEcho t p ip d) s = .next s' ∧ s'.outbox = s.outbox ∧ s'.net.ports[p]? = some x' ∧ x'.rxDiscarded = holdMax 32 (x.rxDiscarded + 1))

/-- 10 R492, R496: a datagram of an input block's length from its station writes every block that it matches, and with a header only one whose COUNTER is newer than the last, if any; another is rejected, and one for no input block is discarded. -/
def Obligations.ProcessFramesWriteTheirBlocks : Prop :=
  ∀ (t p ip udpPort : Nat) (d : Bytes) (s : State) (x : Port), p < 2 → s.canSend p = true → s.base ≠ .standby → s.net.ports[p]? = some x → x.ip ≠ 0 →
    let fs := s.framesAt p udpPort
    let fits := fs.filter (frameFits ip d)
    (fs = [] → ∃ s' x', exec (.processFrameRx t p ip udpPort d) s = .next s' ∧ s'.hall = s.hall ∧ s'.net.ports[p]? = some x'
        ∧ x'.rxFrames = holdMax 32 (x.rxFrames + 1) ∧ x'.rxDiscarded = holdMax 32 (x.rxDiscarded + 1))
    ∧ (fs ≠ [] → fits = [] → ∃ s', exec (.processFrameRx t p ip udpPort d) s = .next s' ∧ s'.hall = s.hall ∧ s'.net.rejected = holdMax 32 (s.net.rejected + 1))
    ∧ (fits ≠ [] → (∀ f ∈ fits, f.header = false) →
      ∃ s', exec (.processFrameRx t p ip udpPort d) s = .next s' ∧ s'.hall = (fits.foldl (fun s f => s.blockFrame f.block d) (s.upTo t)).hall
        ∧ s'.net.rejected = s.net.rejected ∧ s'.net.inCount = s.net.inCount)
    ∧ (∀ f, fits = [f] → f.header = true →
      (s.frameOld d f = false → ∃ s', exec (.processFrameRx t p ip udpPort d) s = .next s'
        ∧ s'.hall = ((s.upTo t).blockFrame f.block (d.drop 8)).hall ∧ s'.net.inCount.find? (·.1 = f.block) = some (f.block, leNat (d.take 4)))
      ∧ (s.frameOld d f = true → ∃ s', exec (.processFrameRx t p ip udpPort d) s = .next s' ∧ s'.hall = s.hall
        ∧ s'.net.rejected = holdMax 32 (s.net.rejected + 1) ∧ s'.net.inCount = s.net.inCount))

/-- 10 R486 to R491: an offset beyond the step threshold steps TIME and moves no frequency, a smaller one does not step it; eight good exchanges in a row make PTP valid and four bad ones invalid; the grandmaster, the port state, PPS and the frames of a master follow the commands. The frequency itself is free (log 16). -/
def Obligations.PtpDisciplinesTime : Prop :=
  ∀ (t p : Nat) (s : State) (x : Port), p < 2 → s.net.ports[p]? = some x → p ∈ s.ptpPorts →
    let T := (s.upTo t).time
    (∀ (offset : Int) (delay : Nat), s.canSend p = true → x.ptp = 9 → s.base ≠ .standby →
      let ok := offset.natAbs ≤ s.cfg 0x1210 8
      ∃ s', exec (.ptpSync t p offset delay) s = .next s' ∧ s'.net.ptp.offset = offset ∧ s'.net.ptp.delay = delay
        ∧ s'.net.ptp.good = (if ok then s.net.ptp.good + 1 else 0) ∧ s'.net.ptp.bad = (if ok then 0 else s.net.ptp.bad + 1)
        ∧ ((s.cfg 0x1210 9 : Int) < offset.natAbs → s'.net.ptp.steps = holdMax 32 (s.net.ptp.steps + 1) ∧ s'.clock.refTime = ((T : Int) - offset).toNat ∧ s'.clock.ppb = s.clock.ppb)
        ∧ (offset.natAbs ≤ (s.cfg 0x1210 9 : Int) → s'.net.ptp.steps = s.net.ptp.steps ∧ s'.clock.refTime = T)
        ∧ (8 ≤ s'.net.ptp.good → s'.clock.ptpValid = true) ∧ (4 ≤ s'.net.ptp.bad → s'.clock.ptpValid = false)
        ∧ (s'.net.ptp.good < 8 → s'.net.ptp.bad < 4 → s'.clock.ptpValid = s.clock.ptpValid))
    ∧ (∀ state gm, s.canSend p = true → ¬ (s.cfg 0x1210 1 = 2 ∧ state = 6) →
      ∃ s' x', exec (.ptpAnnounceRx t p state gm) s = .next s' ∧ s'.net.ports[p]? = some x' ∧ x'.ptp = state ∧ s'.net.ptp.gm = gm ∧ s'.net.ptp.announceAt = max s.now t)
    ∧ (∀ master, s.live = true → ∃ s' x', exec (.ptpAnnounceTimeout t p master) s = .next s' ∧ s'.net.ports[p]? = some x'
        ∧ x'.ptp = (if master ∧ s.cfg 0x1210 1 ≠ 2 then 6 else 4))
    ∧ (s.canSend p = true → x.ptp = 6 → s.base ≠ .standby → ∃ s', exec (.ptpSyncTx t p) s = .next s' ∧ s'.outbox = s.onWire p (.ptp p true) :: s.onWire p (.ptp p false) :: s.outbox ∧ s'.clock = s.clock)
    ∧ (s.live = true → ∃ s', exec (.ppsIn t) s = .next s' ∧ s'.net.ptp.ppsAt = T ∧ (s.cfg 0x1210 0x0B ≠ 1 → s'.clock = s.clock))
    ∧ (s.live = true → s.mode ≠ .boot → s.net.ptp.pps ≠ decide (T % 1000000000 < 100000000) →
      ∃ s', exec (.ppsOut t) s = .next s' ∧ s'.net.ptp.pps = decide (T % 1000000000 < 100000000)
        ∧ s'.outbox = .pps (decide (T % 1000000000 < 100000000)) (max s.now t) :: s.outbox)

/-- 04 R188, R192, R194, R195, R201; 05 R246, R247; 06 R329; 12 R614: a task that is due is released on the Gallery that carries it, with its image at Plan initial values where a fallback moved it; an alcove runs its event task once however often the event occurred, and not at all without an occurrence; G3 starts launches in order; a copy-in in its turn fills the image and clears FLAGS and the registers allocated to the task. -/
def Obligations.TasksStartAsDeclared : Prop :=
  ∀ (t k : Nat) (s : State) (x : TaskSt), k < 64 → s.tasks.tasks[k]? = some x →
    let u := s.upTo t
    let d := u.slotPlan.tasks.getD k default
    let g := u.homeOf k
    let clock := coreClock (max s.now t)
    let home (x : TaskSt) : TaskSt := if x.on = g then x else { x with bits := imageBits s.plan k, words := imageWords s.plan k }
    let released (x : TaskSt) (info : Nat) : TaskSt :=
      { home x with phase := .pending, release := max s.now t, first := 0, old := 0, on := g, segs := segmentsOf u.codeTable g k, segment := 0
                    pc := (segmentsOf u.codeTable g k).headD 0, info := info }
    let others (s' : State) := (∀ j, j ≠ k → s'.tasks.tasks[j]? = s.tasks.tasks[j]?) ∧ s'.tasks.galleries = s.tasks.galleries
    (u.releases k = true → d.kind = 1 → d.period ≠ 0 → s.tasks.runAt + d.offset ≤ max s.now t → (max s.now t - (s.tasks.runAt + d.offset)) % d.period = 0 → x.phase = .idle →
      (u.deltaMissing k = false → ∃ s', exec (.taskRelease t k) s = .next s' ∧ s'.tasks.tasks[k]? = some (released x 0) ∧ others s')
      ∧ (u.deltaMissing k = true → ∃ s', exec (.taskRelease t k) s = .next s' ∧ s'.tasks = s.tasks ∧ s'.pair.skipped = holdMax 32 (s.pair.skipped + 1)))
    ∧ (u.releases k = true → (s.plan.tasks.getD k default).kind = 3 → x.phase = .idle → x.occurred ≠ 0 →
      ∃ s', exec (.alcoveStart t k) s = .next s' ∧ others s'
        ∧ s'.tasks.tasks[k]? = some (released { x with occurred := 0, alcoveAt := some clock, missed := holdMax 32 (x.missed + (x.occurred - 1)) } (holdMax 16 x.occurred)))
    ∧ (u.releases k = true → (s.plan.tasks.getD k default).kind = 3 → x.phase = .idle → x.occurred = 0 → u.occurrenceComing k = false →
      ∃ s' x', exec (.alcoveStart t k) s = .next s' ∧ others s' ∧ s'.tasks.tasks[k]? = some x' ∧ x'.phase = .idle ∧ x'.alcoveAt = some clock)
    ∧ (∀ tread rest, s.live = true → s.base ≠ .standby → s.tasks.launches = (k, tread) :: rest → u.positionRuns k = true →
      (∀ j < 64, (s.plan.tasks.getD j default).kind = 2 → (s.task j).phase = .idle) →
      ∃ s', exec (.g3TaskStart t) s = .next s' ∧ s'.tasks.launches = rest ∧ s'.tasks.tasks[k]? = some (released x tread) ∧ others s')
    ∧ (s.live = true → s.base ≠ .standby → x.phase = .pending → u.copyInTurn k = true → u.occurrenceComing k = false →
      let w := u.staleCheck k
      let e := (s.planFor x).tasks.getD k default
      ∃ s', exec (.copyIn t k) s = .next s' ∧ s'.hall.bits = s.hall.bits ∧ s'.hall.words = s.hall.words ∧ (∀ j, j ≠ k → s'.tasks.tasks[j]? = s.tasks.tasks[j]?)
        ∧ s'.tasks.tasks[k]? = some { w.copySections w.hs e.inputs x with
            phase := .running, ready := max s.now t + copyNs e.inputs, flags := 0, late := [], bnd := false, capTime := u.time, capMono := u.mono, capLpc := s.line.srcs.map fun r => r.pub.lpc
            bound := none, evtDrops := 0, msgDrops := [], armf := [] }
        ∧ (∀ y, s.tasks.galleries[x.on]? = some y → s'.tasks.galleries[x.on]? = some (clearAlloc e y)) ∧ s'.hall.copyEnd = max s.now t + copyNs e.inputs)

/-- 05 R249 to R255, R282, R299, R300: a Gallery issues its task's bundles in order, holds one whose operands are unfinished, ends a segment at SEG and the execution at LAND; an uncorrectable code error or a parity error fails it. A bundle touches no point of the Hall and no other task. The task has the Gallery, which issues its first bundle of the core clock. -/
def Obligations.BundlesIssueInOrder : Prop :=
  ∀ (t g k : Nat) (s : State) (x : TaskSt) (y : Gallery), g < 4 → k < 64 → s.live = true → s.tasks.tasks[k]? = some x → s.tasks.galleries[g]? = some y →
    x.phase = .running → x.ready ≤ max s.now t → x.on = g → y.failed = false → y.halted = false →
    let b := ((s.planFor x).code.getD g []).getD x.pc 0
    let clock := max s.now t / 2
    let frame (s' : State) := s'.hall = s.hall ∧ s'.line = s.line ∧ (∀ j, j ≠ k → s'.tasks.tasks[j]? = s.tasks.tasks[j]?) ∧ ∀ j, j ≠ g → s'.tasks.galleries[j]? = s.tasks.galleries[j]?
    let turn := s.base ≠ .standby ∧ (s.upTo t).segmentWait g clock = false ∧ y.issuedAt ≠ some clock ∧ (s.upTo t).slotTurn g k = true
    (turn → bundleHeld y.busy k clock b = true →
      ∃ s', exec (.bundleIssue t g k 0) s = .next s' ∧ s'.tasks.galleries[g]? = some { y with held := holdMax 64 (y.held + 1), issuedAt := some clock } ∧ s'.tasks.tasks = s.tasks.tasks ∧ frame s')
    ∧ (turn → bundleHeld y.busy k clock b = false → wordOp (slotOf b 3) ≠ 0x13 →
      ∃ s' x' y', exec (.bundleIssue t g k 0) s = .next s' ∧ s'.tasks.tasks[k]? = some x' ∧ s'.tasks.galleries[g]? = some y' ∧ frame s'
        ∧ y'.bundles = holdMax 64 (y.bundles + 1) ∧ y'.last = x.pc ∧ y'.issuedAt = some clock ∧ x'.first = (if x.first = 0 then max s.now t else x.first) ∧ x'.landings = x.landings
        ∧ (endsTask b = true → x'.phase = .landing)
        ∧ (endsSegment b = true → x'.phase = .running ∧ x'.segment = x.segment + 1 ∧ x'.pc = x.segs.getD (x.segment + 1) 0)
        ∧ (endsTask b = false → endsSegment b = false → x'.phase = .running ∧ x'.segment = x.segment ∧ (x'.pc, y'.rept) = advance b x.pc y.rept))
    ∧ (∃ s' y', exec (.bundleIssue t g k 2) s = .next s' ∧ s'.tasks.galleries[g]? = some y' ∧ y'.failed = true ∧ y'.selfFails = holdMax 32 (y.selfFails + 1) ∧ s'.pair.uncorrectable = true)
    ∧ (∃ s' y', exec (.bundleIssue t g k 3) s = .next s' ∧ s'.tasks.galleries[g]? = some y' ∧ y'.failed = true ∧ y'.selfFails = holdMax 32 (y.selfFails + 1) ∧ s'.pair.selfcheck = true)

/-- 05 R252, R256 to R265, R275, R277: the four slots read the state before their bundle. Alone in its bundle, a bit-unit slot computes its accumulator or stores it, the word unit adds modulo 2^32 or saturates with OF, multiplies to a pair, does nothing under a false predicate, and an indexed load outside the image reads 0 and sets BND. A flag comes in the clock in which its operation completes (R274). -/
def Obligations.SlotsComputeFromTheStateBefore : Prop :=
  ∀ (e : ExecEnv) (b : BitVec 128) (x : Exec),
    let w := slotOf b
    let y := issue e b x
    let t := settleLate e.clock x.t
    (bitOp (w 1) = 0 → wordOp (w 2) = 0 → wordOp (w 3) = 0 →
      let a := bitA (w 0)
      let v := imgBit x (bitOpnd (w 0))
      (bitOp (w 0) = 0x01 → accOf y a = v) ∧ (bitOp (w 0) = 0x03 → accOf y a = (accOf x a && v)) ∧ (bitOp (w 0) = 0x06 → accOf y a = (accOf x a || !v))
      ∧ (bitOp (w 0) = 0x08 → y.t.bits = sput false x.t.bits (bitOpnd (w 0)) (accOf x a) ∧ y.g.accs = x.g.accs)
      ∧ (bitOp (w 0) = 0x0A → imgBit y (bitOpnd (w 0)) = (accOf x a || v))
      ∧ (bitOp (w 0) = 0x0C → accOf y a = (accOf x a && !v) ∧ y.t.bits = sput false x.t.bits (bitOpnd (w 0)) (accOf x a))
      ∧ y.g.words = x.g.words ∧ y.t.words = t.words ∧ y.t.flags = t.flags ∧ y.t.late = t.late)
    ∧ (bitOp (w 0) = 0x10 → bitOp (w 1) = 0x10 → bitA (w 0) = bitOpnd (w 1) % 64 → bitA (w 1) = bitOpnd (w 0) % 64 → bitA (w 0) ≠ bitA (w 1) → wordOp (w 2) = 0 → wordOp (w 3) = 0 →
      accOf y (bitA (w 0)) = accOf x (bitA (w 1)) ∧ accOf y (bitA (w 1)) = accOf x (bitA (w 0)))
    ∧ (bitOp (w 0) = 0 → bitOp (w 1) = 0 → wordOp (w 3) = 0 → x.g.words.length = 64 →
      let a := wordOf x (wordA (w 2))
      let c := wordOf x (wordB (w 2))
      (predTrue x (w 2) = false → y.g.words = x.g.words ∧ y.g.accs = x.g.accs ∧ y.g.preds = x.g.preds ∧ y.t.flags = t.flags ∧ y.t.late = t.late)
      ∧ (predTrue x (w 2) = true → wordOp (w 2) = 0x01 → modD (w 2) = false →
        (modSat (w 2) = false → wordOf y (wordD (w 2)) = a + c ∧ y.t.flags = t.flags ∧ y.t.late = t.late)
        ∧ (modSat (w 2) = true → (2 : Int) ^ 31 ≤ a.toInt + c.toInt → wordOf y (wordD (w 2)) = 0x7FFFFFFF#32 ∧ y.t.flags = t.flags
          ∧ y.t.late = t.late ++ [⟨e.clock + wordLatency 0x01 false, flagOF, []⟩]))
      ∧ (predTrue x (w 2) = true → wordOp (w 2) = 0x03 → modD (w 2) = true → modU (w 2) = false → wordD (w 2) < 63 →
        (pairOf y (wordD (w 2))).toInt = a.toInt * c.toInt))
    ∧ (bitOp (w 0) = 0 → bitOp (w 1) = 0 → wordOp (w 2) = 0 → wordOp (w 3) = 0x06 → predTrue x (w 3) = true → x.g.words.length = 64 →
      (indexed x (w 3) < e.wordSize → wordOf y (memR (w 3)) = sget 0 t.words (indexed x (w 3)))
      ∧ (e.wordSize ≤ indexed x (w 3) → wordOf y (memR (w 3)) = 0 ∧ y.t.late = t.late ++ [⟨e.clock + memLatency 0x06, flagBND, []⟩]
        ∧ y.t.bound = x.t.bound.or (some (BitVec.ofNat 32 (indexed x (w 3)))) ∧ y.t.bits = x.t.bits ∧ y.t.words = t.words))

/-- 05 R300, 04 R179, R180, R191; 14 R677; 15 R706: a self-check that fails takes its Gallery down, a corrected error is counted and recorded, an uncorrectable error of the Hall puts the module into Fault, a task that has not landed in time fails its Gallery, and a debug halt stops a Gallery's issue alone. -/
def Obligations.FailuresAreCaught : Prop :=
  ∀ (t g : Nat) (s : State) (y : Gallery), g < 4 → s.live = true → s.mode ≠ .boot → s.tasks.galleries[g]? = some y →
    let down (s' : State) := ∃ y', s'.tasks.galleries[g]? = some y' ∧ y'.failed = true ∧ y'.selfFails = holdMax 32 (y.selfFails + 1)
    (y.failed = false →
      (∃ s', exec (.selftestSequence t g true) s = .next s' ∧ s'.tasks.galleries[g]? = some { y with selftests := holdMax 32 (y.selftests + 1) } ∧ s'.mode = s.mode)
      ∧ (∃ s', exec (.selftestSequence t g false) s = .next s' ∧ down s')
      ∧ (∀ addr, ∃ s', exec (.codeScrub t g addr 1) s = .next s' ∧ s'.tasks.galleries[g]? = some { y with codeCorrected := holdMax 32 (y.codeCorrected + 1) }
        ∧ s'.recorder = ((s.upTo t).ev 0x3020 (leBytes 1 g ++ leBytes 3 addr)).recorder)
      ∧ (∀ addr, ∃ s', exec (.codeScrub t g addr 2) s = .next s' ∧ down s' ∧ s'.pair.uncorrectable = true)
      ∧ ∀ k x, k < 64 → s.tasks.tasks[k]? = some x → x.phase ≠ .idle → x.on = g → x.release + ((s.planFor x).tasks.getD k default).finish ≤ max s.now t →
        ∃ s', exec (.taskNotLanded t k) s = .next s' ∧ down s')
    ∧ (∀ kind addr, ∃ s', exec (.hallScrub t 1 kind addr) s = .next s' ∧ s'.hall = { s.hall with corrected := holdMax 32 (s.hall.corrected + 1) } ∧ s'.mode = s.mode
      ∧ s'.recorder = ((s.upTo t).ev 0x3011 (leBytes 1 kind ++ leBytes 4 addr)).recorder)
    ∧ (∀ kind addr, s.pair.role = 0 → s.mode ≠ .fault → ∃ s', exec (.hallScrub t 2 kind addr) s = .next s' ∧ s'.mode = .fault ∧ s'.sup.cause = 1 ∧ s'.pair.uncorrectable = true)
    ∧ (∀ halt, ∃ s', exec (.debugHalt t g halt) s = .next s' ∧ s'.tasks.galleries[g]? = some { y with halted := halt } ∧ (∀ j, j ≠ g → s'.tasks.galleries[j]? = s.tasks.galleries[j]?)
      ∧ s'.tasks.tasks = s.tasks.tasks)

/-- 01 R25, R30; 02 R95, R96; 04 R204, R205; 05 R284, R287, R789; 06 R328: a Landing writes the task's outputs to the Hall, ends the execution and counts; the major Landing and its substitute take every staged change off the list, and the major Landing puts the Dispatcher's waiting result in force; at an apply point in Stop a staged value that passes its checks is in force, and a preset that waits is loaded; released Flight commands act in issue order when due; each Gallery queue gives up one user event a turn, which is recorded. -/
def Obligations.LandingsTakeEffectWhole : Prop :=
  ∀ (t : Nat) (s : State), s.live = true →
    let u := s.upTo t
    let now := max s.now t
    (∀ k x, 0 < k → k < 64 → s.tasks.tasks[k]? = some x → u.landReady k = true → (s.gallery x.on).failed = false → s.base ≠ .standby → s.pair.role ≠ 2 →
      let d := (s.planFor x).tasks.getD k default
      let image := settleLate (coreClock now) x
      ∃ s' x', exec (.land t k) s = .next s' ∧ s'.tasks.tasks[k]? = some x' ∧ x'.phase = .idle ∧ x'.landings = holdMax 64 (x.landings + 1) ∧ x'.execLast = holdMax 32 (now - x.first)
        ∧ x'.execMax = max x.execMax x'.execLast ∧ s'.hall.bits = (u.copyBack d.outputs image).hall.bits ∧ s'.hall.words = (u.copyBack d.outputs image).hall.words)
    ∧ (∀ x, s.tasks.tasks[0]? = some x → u.landReady 0 = true → (s.gallery x.on).failed = false → s.sup.fw.pauseNext = false →
      ∃ s' x', exec (.majorLanding t) s = .next s' ∧ s'.tasks.tasks[0]? = some x' ∧ x'.phase = .idle ∧ x'.landings = holdMax 64 (x.landings + 1)
        ∧ x'.execLast = holdMax 32 (now - x.first) ∧ s'.staged = []
        ∧ ∀ r, s.dsp.offNext = false → s.dsp.running = none → s.dsp.waiting = some r → s.dsp.doneAt < now →
            s'.dsp.inForce = some r ∧ s'.dsp.waiting = none ∧ s'.dsp.landing = holdMax 64 (x.landings + 1))
    ∧ (∀ x, s.tasks.tasks[0]? = some x → u.running = true → (s.gallery (u.homeOf 0)).failed = true → s.majorFrame ≠ 0 →
      s.tasks.runAt + (s.plan.tasks.getD 0 default).finish ≤ now → (now - (s.tasks.runAt + (s.plan.tasks.getD 0 default).finish)) % s.majorFrame = 0 →
      ∃ s' x', exec (.substituteMajorLanding t) s = .next s' ∧ s'.tasks.tasks[0]? = some x' ∧ x'.landings = holdMax 64 (x.landings + 1) ∧ x'.execLast = x.execLast ∧ s'.staged = [])
    ∧ (s.base = .stop → u.mono % 10000000 = 0 → s.clear t → ∃ s', exec (.applyPoint t) s = .next s' ∧ s'.staged = []
      ∧ (∀ y idx sub v, s.staged = [y] → y.op = .value idx sub v → u.atApply.passes y → s'.params = (s.setVal idx sub v).params)
      ∧ ∀ i r v, i < 4 → s.staged = [] → s.line.srcs[i]? = some r → r.preset = some (.atLanding v) →
          ∃ r', s'.line.srcs[i]? = some r' ∧ r'.lpc = v ∧ r'.homed = true ∧ r'.preset = none)
    ∧ (s.base ≠ .standby →
      let due := s.tasks.armf.filter fun c => posClock c.2.2 ≤ posClock now
      let kept := s.tasks.armf.filter fun c => !(posClock c.2.2 ≤ posClock now)
      ∃ s', exec (.armfAct t) s = .next s' ∧ s'.tasks.armf = kept
        ∧ s'.treads = (due.foldl (fun (v : State) c => v.flCommand c.1 c.2.1) { u with tasks := { u.tasks with armf := kept } }).treads)
    ∧ (∃ s', exec (.evtDrain t) s = .next s' ∧ s'.tasks.tasks = s.tasks.tasks
      ∧ (∀ g y, g < 4 → s.tasks.galleries[g]? = some y → s'.tasks.galleries[g]? = some { y with events := y.events.drop 1 })
      ∧ s'.recorder = ((List.range 4).foldl (fun v g => match (s.gallery g).events with | [] => v | e :: _ => v.userEvent e) u).recorder)

/-- 14 R673 rows 6, 7, 9 and 18, R675, R677; 04 R229, R231; 03 R136; 15 R713: MODE_STOP going low stops Run, Edit and Standby, MODE_RUN going low restarts a single module or the active one of a pair, MODE_MRES held low for 3 s resets the memory once in Stop, and a lockstep mismatch of the Supervisor is Fault 3. A module that stops runs no task and no Flight, forces nothing, and its Gallery watchdogs are not armed. -/
def Obligations.ModesFollowTheirPins : Prop :=
  ∀ (t : Nat) (s : State), s.live = true → s.mode ≠ .boot →
    let quiet (s' : State) :=
      (∀ x ∈ s'.tasks.tasks, x.phase = .idle) ∧ s'.tasks.launches = [] ∧ s'.tasks.armf = [] ∧ s'.hall.maskBits = [] ∧ s'.hall.maskWords = []
      ∧ (∀ x ∈ s'.treads.flights, x.state ≠ .armed ∧ x.state ≠ .queued) ∧ (∀ i r, i < 4 → s'.treads.srcs[i]? = some r → r.running = none ∧ r.queued = [])
      ∧ (∀ w, 1 ≤ w → w ≤ 4 → (s'.wdt w).state ≠ 1) ∧ s'.dsp.running = none
    (s.mode = .run ∨ s.mode = .edit ∨ s.mode = .standby → s.sup.pinStop = false →
      ∃ s', exec (.modeStopLow t true) s = .next s' ∧ s'.mode = .stop ∧ s'.sup.pinStop = true ∧ s'.sup.prevMode = modeNo s.mode ∧ quiet s')
    ∧ (∀ low, low = false ∨ s.sup.pinStop = true ∨ s.mode = .stop → ∃ s', exec (.modeStopLow t low) s = .next s' ∧ s'.mode = s.mode ∧ s'.sup = { s.sup with pinStop := low } ∧ s'.tasks = s.tasks)
    ∧ (∀ low, low = false ∨ s.sup.pinMres = false → ∃ s', exec (.modeMres t low) s = .next s' ∧ s'.mode = s.mode
        ∧ s'.sup = { s.sup with pinMres := low, mresAt := max s.now t, mresDone := false } ∧ s'.tasks = s.tasks ∧ s'.hall = s.hall ∧ s'.nvm = s.nvm)
    ∧ (s.mode = .stop → s.sup.pinMres = true → s.sup.mresDone = false → s.sup.mresAt + 3000000000 ≤ max s.now t →
      ∃ s', exec (.modeMres t true) s = .next s' ∧ s'.mode = .stop ∧ s'.sup.pinMres = true ∧ s'.sup.mresDone = true ∧ s'.tasks.tasks = (List.range 64).map (freshTask s.plan) ∧ s'.tasks.lastKind = 4
        ∧ s'.hall.bits = initBits s.plan ∧ s'.hall.maskBits = [] ∧ s'.nvm.committed = [] ∧ ∀ r ∈ s'.nvm.priv, ¬ (1 ≤ r.type_ ∧ r.type_ ≤ 3))
    ∧ (s.sup.pinRun = false → (s.mode = .stop ∨ s.mode = .fault) → s.sup.pinStop = false → s.clear t → s.paired = false ∨ s.pair.role = 1 →
      ∃ s', exec (.modeRunEdge t true 0) s = .next s' ∧ s'.mode = .run ∧ s'.sup.pinRun = true ∧ s'.sup.cause = 0 ∧ s'.tasks.runAt = max s.now t
        ∧ (∀ x ∈ s'.tasks.tasks, x.phase = .idle ∧ x.landings = 0)
        ∧ (s.cfg 0x1100 6 ≠ 2 → s'.tasks.lastKind = 1 ∧ s'.hall.bits = initBits s.plan) ∧ (s.cfg 0x1100 6 = 2 → s'.tasks.lastKind = if s'.tasks.warm then 2 else 3))
    ∧ (s.mode ≠ .fault → ∃ s', exec (.supervisorLockstepMismatch t) s = .next s' ∧ s'.mode = .fault ∧ s'.sup.cause = 3 ∧ s'.sup.prevMode = modeNo s.mode ∧ quiet s')

/-- 14 R673 rows 6, 7, 9 and 19, R676; 04 R229, R230: the mode commands and the restart requests bring about what their pins do; CMD 2 leaves Fault for Stop when the self-test and the Plan's verification pass, and stays in it otherwise. -/
def Obligations.ModeCommandsChangeTheMode : Prop :=
  ∀ (t k : Nat) (o : Origin) (s : State),
    let u := s.upTo t
    let cold (s' : State) := s'.mode = .run ∧ s'.tasks.lastKind = 1 ∧ s'.tasks.warm = false ∧ s'.tasks.runAt = max s.now t ∧ s'.hall.bits = initBits s.plan
      ∧ ∀ x ∈ s'.tasks.tasks, x.phase = .idle ∧ x.landings = 0
    (u.granted o k 0x1100 4 (leBytes 1 1) = true → ∃ s', exec (.modeCmdStop t o) s = .next s' ∧ s'.mode = .stop ∧ (∀ x ∈ s'.tasks.tasks, x.phase = .idle)
      ∧ s'.hall.maskBits = [] ∧ s'.hall.maskWords = [] ∧ s'.line = s.line)
    ∧ (u.granted o k 0x1100 4 (leBytes 1 2) = true →
      (u.planHolds = true → ∃ s', exec (.modeCmdClearFault t o 0) s = .next s' ∧ s'.mode = .stop ∧ s'.sup.cause = 0)
      ∧ ∀ bad, bad ≠ 0 ∨ u.planHolds = false → ∃ s', exec (.modeCmdClearFault t o bad) s = .next s' ∧ s'.mode = s.mode ∧ s'.sup = s.sup)
    ∧ (u.granted o k 0x1100 4 (leBytes 1 3) = true → ∃ s', exec (.modeCmdMres t o) s = .next s' ∧ s'.mode = .stop ∧ s'.tasks.lastKind = 4 ∧ s'.hall.bits = initBits s.plan
      ∧ s'.tasks.tasks = (List.range 64).map (freshTask s.plan))
    ∧ (u.granted o k 0x1110 1 (leBytes 1 1) = true → ∃ s', exec (.restartCold t o 0) s = .next s' ∧ cold s')
    ∧ (u.granted o k 0x1110 1 (leBytes 1 2) = true → ∃ s', exec (.restartWarm t o 0) s = .next s' ∧ s'.mode = .run ∧ s'.tasks.runAt = max s.now t
      ∧ (s'.tasks.warm = true ↔ s'.tasks.lastKind = 2) ∧ (s'.tasks.retainLost = true ↔ s'.tasks.lastKind = 3) ∧ (∀ x ∈ s'.tasks.tasks, x.phase = .idle ∧ x.landings = 0))

/-- 14 R673 row 1, R680, R683, R684, R701, R702; 00 R4, R5; 15 R719: a start by VL or by nRESET is a power-on reset and takes the committed fuse values; a watchdog reset is none and keeps the values in force. Each reports its cause and closes every session; a power-on reset begins monotonic time anew, a watchdog reset does not (05 R247); firmware never finds staged changes, an armed Flight or a forced point. -/
def Obligations.StartsBeginAnew : Prop :=
  ∀ (t : Nat) (b : BootIn) (s : State),
    let fresh (s' : State) (cause : Nat) := s'.inReset = false ∧ s'.sup.power.cause = cause ∧ s'.bootAt = (if cause = 3 then s.bootAt else max s.now t - 1000000 * b.bootMs) ∧ s'.staged = []
      ∧ (∀ y ∈ s'.net.bamcon.sessions, y.state = 0) ∧ (∀ x ∈ s'.treads.flights, x.state ≠ .armed) ∧ s'.hall.maskBits = [] ∧ s'.hall.maskWords = []
      ∧ s'.fuses.win.used = s.fuses.win.used ∧ s'.fuses.key.used = s.fuses.key.used ∧ (b.failed = true → s'.mode = .boot ∨ s'.mode = .fault)
    (∀ mv, s.inReset = true → s.sup.power.nextCause ≠ 3 → 18600 ≤ mv →
      ∃ s', exec (.powerOn t mv b) s = .next s' ∧ fresh s' (if s.sup.power.nextCause = 0 then 1 else s.sup.power.nextCause) ∧ s'.sup.power.vl = mv
        ∧ s'.fuses.win.value = s.fuses.win.committed ∧ s'.fuses.key.value = s.fuses.key.committed)
    ∧ (s.live = true ∨ s.inReset = true ∧ 18600 ≤ s.sup.power.vl → ∃ s', exec (.nreset t b) s = .next s' ∧ fresh s' 2 ∧ s'.sup.power.pinResets = holdMax 32 (s.sup.power.pinResets + 1)
        ∧ s'.fuses.win.value = s.fuses.win.committed ∧ s'.fuses.key.value = s.fuses.key.committed)
    ∧ (s.inReset = true → s.sup.power.nextCause = 3 → ∃ s', exec (.wdtReset t b) s = .next s' ∧ fresh s' 3
        ∧ s'.fuses.win.value = s.fuses.win.value ∧ s'.fuses.key.value = s.fuses.key.value)

/-- 14 R684 to R686, R702; 12 R616; 15 R723: a power failure is counted and stamped, releases every field output and ends in reset; an active module of a hot pair hands over first. With the store empty and VBAT present the module is in Backup; the store's charge is reported once; VBAT carries the backup domain by the thresholds of R723. -/
def Obligations.PowerFailuresEndInReset : Prop :=
  ∀ (t : Nat) (s : State),
    let u := s.upTo t
    (∀ mv cut us arch, mv < 18000 →
      (s.live = true → ∃ s', exec (.powerFail t mv cut us arch) s = .next s' ∧ s'.inReset = true ∧ s'.sup.power.vl = mv ∧ s'.sup.power.fails = holdMax 32 (s.sup.power.fails + 1)
        ∧ s'.sup.power.lastFail = u.time ∧ s'.sup.power.saveEnd = max s.now t + 1000 * us ∧ s'.sup.power.nextCause = 4 ∧ (∀ x ∈ s'.field.dio, x.pin = false) ∧ (∀ x ∈ s'.field.aio, x.current = 0) ∧ (∀ x ∈ s'.treads.trgs, x.edges = [] ∧ x.pulseEnd = none)
        ∧ (∀ n, n < 48 → (s.dio n).pin = true → Emission.dio n false (max s.now t + 1000 * us) ∈ s'.outbox)
        ∧ (∀ n, n < 8 → s.aioCfg n 1 = 2 → Emission.aio n 0 (max s.now t + 1000 * us) ∈ s'.outbox)
        ∧ (s.pair.role = 1 → s.pair.state = 4 → s.corridorUp = true → Emission.corridor u.time .handover ∈ s'.outbox))
      ∧ (s.live = false → ∃ s', exec (.powerFail t mv cut us arch) s = .next s' ∧ s'.sup.power = { s.sup.power with vl := mv, nextCause := 1 } ∧ s'.nvm = s.nvm ∧ s'.mode = s.mode))
    ∧ (s.inReset = true → s.sup.power.vl < 18000 →
      (∃ s', exec (.holdupExhausted t true) s = .next s' ∧ s'.mode = .backup ∧ s'.sup.power.nextCause = 1)
      ∧ (∃ s', exec (.holdupExhausted t false) s = .next s' ∧ s'.mode = s.mode ∧ s'.sup.power.nextCause = 1))
    ∧ (∀ us, s.live = true → s.sup.power.holdReady = false →
      ∃ s', exec (.holdupReady t us) s = .next s' ∧ s'.sup.power.holdReady = true ∧ s'.sup.power.holdMs = (us : Rat) / 1000)
    ∧ (∀ vr vbat, ∃ s', exec (.backupSupplyChange t vr vbat) s = .next s'
        ∧ s'.sup.backup = { s.sup.backup with onBattery := (vr < vbat || vr < 2600) || (s.sup.backup.onBattery && !(vbat + 80 < vr && 2680 < vr)) })

/-- 07 R350 to R355, R360, R361, R369, R375: at a class tick every enabled loop of the class latches PV and offset at one instant; the engine, once free, takes the sample at the front with the constants as they stand, and 100 ns later five stages have led to the loop's state and its OUT_POINT, those of a soft start from the values it sets; one that is not a number is PV_BAD and writes nothing. 08 R399: an evaluation of the Dispatcher ends EVAL_TIME after its start. -/
def Obligations.LoopsEvaluateTheirSamples : Prop :=
  ∀ (t : Nat) (s : State), s.live = true → s.base ≠ .standby →
    let u := s.upTo t
    (∀ k, k < 8 → s.loopsRun = true → s.classPeriod k ≠ 0 → (max s.now t - s.tasks.runAt) % s.classPeriod k = 0 →
      ∃ s', exec (.classTick t k) s = .next s' ∧ s'.hall = s.hall
        ∧ (∀ n < 2048, s.loopClass n = k → u.loopSeenOn n = true → ∃ y ∈ s'.loops.waiting, y.loop = n ∧ y.tread = false ∧ y.cls = k ∧ y.stamp = u.time
            ∧ y.pv = s.viewWord (pointAddr (s.loopCfg n 0x10)) ∧ y.offset = u.offsetSeen n)
        ∧ ∀ n < 2048, s.loopClass n ≠ k → s'.loop n = s.loop n)
    ∧ (∀ x rest, s.loops.current = none → s.loops.waiting = x :: rest → coreClock x.at_ < coreClock (max s.now t) → max s.now t < max s.loops.freeAt x.at_ + 100 →
      ∃ s', exec (.loopEvaluation t) s = .next s' ∧ s'.loops.loops = s.loops.loops ∧ s'.hall = s.hall ∧ s'.loops.waiting = rest
        ∧ s'.loops.current = some ⟨x, (List.range 0x13).map (s.loopCfg x.loop), s.gainTable (s.loopCfg x.loop 4), max s.loops.freeAt x.at_ + 100⟩)
    ∧ (∀ e, u.engineBegin.loops.current = some e → e.endAt ≤ max s.now t →
      let x := e.sample
      let n := x.loop
      let l := s.loop n
      let fmt := pointFormat (e.cfg.getD 0x10 0)
      let others (s' : State) := s'.loops.waiting = u.engineBegin.loops.waiting ∧ s'.loops.current = none ∧ s'.loops.freeAt = e.endAt ∧ ∀ m, m ≠ n → s'.loop m = s.loop m
      (pointBad fmt x.pv = true →
        ∃ s', exec (.loopEvaluation t) s = .next s' ∧ others s' ∧ s'.loop n = { l with status := stPvBad, evals := holdMax 32 (l.evals + 1), stamp := x.stamp } ∧ s'.hall = s.hall)
      ∧ (pointBad fmt x.pv = false →
        let pv := (pointIn fmt x.pv).val
        let r := evaluate (loopPar e) (bfpOfWord x.sp) (bfpOfWord x.offset) pv (if l.soft then u.softVal n (loopPar e) pv
          else ⟨bfpOfWord l.spRamped, bfpOfWord l.pvFilt, bfpOfWord l.error, bfpOfWord l.gain, bfpOfWord l.iTerm, bfpOfWord l.output, 0⟩)
        let op := s.loopCfg n 0x12
        ∃ s', exec (.loopEvaluation t) s = .next s' ∧ others s' ∧ (s'.loop n).spRamped = bfpWord r.spRamped ∧ (s'.loop n).pvFilt = bfpWord r.pvFilt ∧ (s'.loop n).pv = bfpWord pv ∧ (s'.loop n).gain = bfpWord r.gain
          ∧ (s'.loop n).error = bfpWord r.error ∧ (s'.loop n).iTerm = bfpWord r.iTerm ∧ (s'.loop n).output = bfpWord r.output ∧ (s'.loop n).stamp = x.stamp
          ∧ (s'.loop n).evals = holdMax 32 (l.evals + 1) ∧ (s'.loop n).soft = false ∧ s'.hall = (u.putWord (pointAddr op) (pointOut (pointFormat op) r.output)).hall))
    ∧ (∀ sn, s.dsp.running = some sn →
      (sn.startAt + 3600000 ≤ max s.now t → ∃ s', exec (.dispatchEvalDone t) s = .next s' ∧ s'.dsp.running = none ∧ s'.dsp.waiting = some (dspEvaluate sn) ∧ s'.dsp.doneAt = sn.startAt + 3600000
        ∧ s'.dsp.evals = holdMax 32 (s.dsp.evals + 1) ∧ s'.dsp.inForce = s.dsp.inForce ∧ s'.loops = s.loops)
      ∧ (max s.now t < sn.startAt + 3600000 → ∃ s', exec (.dispatchEvalDone t) s = .next s' ∧ s'.dsp = s.dsp))

/-- 07 R353, R376, R377, R382, R383, R388, R392; 08 R412, R414; 01 R25: writes to a loop act at once: an enabled loop starts softly, a disabled one loses its waiting sample unless it was latched in this core clock, SP takes the word; a group write reaches every member; a gain table waits for the Landing. A MODE write of the Dispatcher counts from the next core clock, and MODE 0 also acts at the next Landing. -/
def Obligations.LoopWritesTakeEffect : Prop :=
  ∀ (t k n : Nat) (o : Origin) (s : State), n < 2048 →
    let u := s.upTo t
    let clock := coreClock (max s.now t)
    let asked (x : LoopSt) : LoopSt := { x with onWas := u.loopSeenWas n (s.loopOn n), onAt := some clock }
    let mode (v : Nat) (s' : State) := s'.params = (s.setVal 0x2800 1 (.num v)).params ∧ s'.dsp = { s.dsp with offNext := decide (v = 0), modeWas := u.dspModeNow, modeAt := some clock }
    (u.granted o k (0x4000 + n) 1 (leBytes 1 1) = true → s.loopOn n = false → s.loopsRun = true →
      ∃ s', exec (.loopEnable t o n true) s = .next s' ∧ s'.params = (s.setVal (0x4000 + n) 1 (.num 1)).params ∧ s'.loop n = { asked (s.loop n) with soft := true }
        ∧ (∀ m, m ≠ n → s'.loop m = s.loop m) ∧ s'.loops.waiting = u.engineBegin.loops.waiting)
    ∧ (u.granted o k (0x4000 + n) 1 (leBytes 1 0) = true →
      ∃ s', exec (.loopEnable t o n false) s = .next s' ∧ s'.params = (s.setVal (0x4000 + n) 1 (.num 0)).params ∧ s'.loop n = asked (s.loop n)
        ∧ (∀ m, m ≠ n → s'.loop m = s.loop m) ∧ s'.loops.waiting = u.engineBegin.loops.waiting.filter (fun y => y.loop ≠ n || coreClock y.at_ = clock))
    ∧ (∀ sp : Word, u.granted o k (0x4000 + n) 2 (leBytes 4 sp.toNat) = true →
      ∃ s', exec (.loopSpWrite t o n sp) s = .next s' ∧ s'.params = (s.setVal (0x4000 + n) 2 (.num sp.toNat)).params ∧ s'.loops = s.loops ∧ s'.hall = s.hall)
    ∧ (∀ g sub data, g < 65 → sub ≤ 0x0D →
      let idx := if g = 64 then 0x3EFF else 0x3E00 + g
      let x : WItem := ⟨idx, sub, tyCode (lookup idx sub).2.ty, data⟩
      u.accepts o = some k → (lookup idx sub).1 = .ok → (u.asked o k).groupStatus (u.asker o k idx sub 0) (lookup idx sub).2 x = .ok →
      let w := ((u.asked o k).writeMembers (u.asker o k idx sub 0) x (if g = 64 then s.allLoops else s.groupLoops g)).1
      ∃ s', exec (.loopGroupWrite t o g sub data) s = .next s' ∧ s'.params = w.params ∧ s'.staged = w.staged ∧ s'.loops = w.loops)
    ∧ (∀ data, u.granted o k 0x3EFF 0x26 data = true →
      ∃ s', exec (.gainDataWrite t o data) s = .next s' ∧ s'.staged = s.staged ++ [⟨0x3EFF, 0x26, .gain (s.selOf k 0x3EFF 0x25) (gainPoints data), none, some (max s.now t)⟩] ∧ s'.loops = s.loops)
    ∧ (u.granted o k 0x2800 1 (leBytes 1 0) = true → ∃ s', exec (.dispatchOff t o) s = .next s' ∧ mode 0 s')
    ∧ (u.granted o k 0x2800 1 (leBytes 1 1) = true → ∃ s', exec (.dispatchAuto t o) s = .next s' ∧ mode 1 s')
    ∧ (u.granted o k 0x2800 1 (leBytes 1 2) = true → ∃ s', exec (.dispatchHold t o) s = .next s' ∧ mode 2 s')

/-- 09 R424, R425: a supply takes the state of its voltage with the hysteresis of R424; below 12 V every output of the group is off; its checks resume 100 ms after it left the absent state. That a supply which leaves the absent state below the upper threshold is low is the model's choice (log 149). -/
def Obligations.SuppliesGateTheirGroup : Prop :=
  ∀ (t g mv : Nat) (s : State) (x : Supply),
    let st (lo hi : Nat) (x : Supply) : Nat := if mv < 12000 then 0 else if x.state = 2 then (if mv < lo then 1 else 2)
      else if x.state = 0 then (if mv < hi then 1 else 2) else if hi < mv then 2 else 1
    let taken (st : Nat) (x : Supply) : Supply :=
      { mv := mv, state := st, leftAt := if x.state = 0 ∧ st ≠ 0 then max s.now t else x.leftAt, checks := if st = 0 ∨ x.state = 0 then false else x.checks }
    (g < 6 → s.field.groups[g]? = some x →
      (∃ s', exec (.vgState t g mv) s = .next s' ∧ s'.field.groups[g]? = some (taken (st 18000 18500 x) x) ∧ (∀ j, j ≠ g → s'.field.groups[j]? = s.field.groups[j]?)
        ∧ (mv < 12000 → ∀ n y, n / 8 = g → s'.field.dio[n]? = some y → y.pin = false) ∧ (∀ n, n / 8 ≠ g → s'.field.dio[n]? = s.field.dio[n]?)
        ∧ (st 18000 18500 x ≠ x.state → s'.recorder = ((s.upTo t).ev 0x5008 (leBytes 1 g ++ leBytes 1 (st 18000 18500 x) ++ f32Bytes ((mv : Rat) / 1000))).recorder))
      ∧ (x.state ≠ 0 → x.leftAt + 100000000 ≤ max s.now t → ∃ s', exec (.supplyChecksResume t g) s = .next s' ∧ s'.field.groups[g]? = some { x with checks := true }
        ∧ s'.field.dio = s.field.dio))
    ∧ ∃ s', exec (.vaState t mv) s = .next s' ∧ s'.field.va = taken (st 19000 19500 s.field.va) s.field.va ∧ s'.field.dio = s.field.dio ∧ s'.field.aio = s.field.aio
      ∧ (st 19000 19500 s.field.va ≠ s.field.va.state → s'.recorder = ((s.upTo t).ev 0x5018 (leBytes 1 (st 19000 19500 s.field.va) ++ f32Bytes ((mv : Rat) / 1000))).recorder)

/-- 09 R428 to R437; 04 R229: an accepted edge sets the level and its stamp, counts by EDGES while the supply is present and shows at IN_POINT; a level that stands shows there once after a restart, and the first one since Boot is no edge (the model's choice, log 149). A wire break is set below 100 µA and cleared by the level or 200 µA; a frequency gate with two rising edges reports their rate; OVERRATE clears after 1 s. -/
def Obligations.DigitalInputsAreSampled : Prop :=
  ∀ (t n : Nat) (s : State) (x : Dio), n < 48 → s.field.dio[n]? = some x →
    let p := s.dioCfg n 0x0C
    let others (s' : State) := ∀ j, j ≠ n → s'.field.dio[j]? = s.field.dio[j]?
    (s.live = true → s.dioCfg n 1 = 1 → s.base ≠ .standby →
      (∀ level, x.known = true → x.level ≠ level →
        let counts := s.dioCfg n 6 = 1 ∧ (s.dioCfg n 7 = 3 ∨ s.dioCfg n 7 = if level then 1 else 2) ∧ (s.dioSupply n).state ≠ 0
        ∃ s' x', exec (.dioInputEdge t n level) s = .next s' ∧ s'.field.dio[n]? = some x' ∧ others s' ∧ x'.level = level ∧ x'.acceptAt = max s.now t
          ∧ x'.lastEdge = some ((max s.now t - 1000 * s.dioCfg n 3) / 10 * 10) ∧ x'.sampled = true
          ∧ (counts → x'.counter = (dioSettled (max s.now t) x).counter + 1) ∧ (¬ counts → x'.counter = (dioSettled (max s.now t) x).counter)
          ∧ (pointNone p = false → x.wireBreak = false → s'.hall.bits = (s.putBit (p % 2 ^ 18) level).hall.bits) ∧ (pointNone p = true → s'.hall.bits = s.hall.bits))
      ∧ (∀ level, x.known = false → ∃ s', exec (.dioInputEdge t n level) s = .next s' ∧ others s'
          ∧ s'.field.dio[n]? = some { x with level := level, known := true, acceptAt := max s.now t, sampled := true }
          ∧ (pointNone p = false → x.wireBreak = false → s'.hall.bits = (s.putBit (p % 2 ^ 18) level).hall.bits))
      ∧ (x.known = true → x.sampled = true → ∃ s', exec (.dioInputEdge t n x.level) s = .next s' ∧ s'.field = s.field ∧ s'.hall = s.hall)
      ∧ (x.known = true → x.sampled = false → ∃ s', exec (.dioInputEdge t n x.level) s = .next s' ∧ s'.field.dio[n]? = some { x with sampled := true } ∧ others s'
          ∧ (pointNone p = false → x.wireBreak = false → s'.hall.bits = (s.putBit (p % 2 ^ 18) x.level).hall.bits)))
    ∧ (s.live = true → s.dioCfg n 1 = 1 → s.dioCfg n 4 ≠ 0 → (s.dioSupply n).checks = true → x.acceptAt + 20000000 ≤ max s.now t →
      (∀ ua, x.level = false → ua < 100 → ∃ s', exec (.dioWireBreak t n ua) s = .next s' ∧ s'.field.dio[n]? = some { x with wireBreak := true } ∧ others s'
        ∧ (x.wireBreak = false → s'.recorder = ((s.upTo t).ev 0x5001 (leBytes 1 n ++ leBytes 1 1)).recorder
          ∧ (pointNone p = false → s'.hall.bits = (s.putBit (p % 2 ^ 18) (s.dioCfg n 5 ≠ 0)).hall.bits)))
      ∧ (∀ ua, x.level = true ∨ 200 ≤ ua → ∃ s', exec (.dioWireBreak t n ua) s = .next s' ∧ s'.field.dio[n]? = some { x with wireBreak := false } ∧ others s'))
    ∧ (s.live = true → s.dioCfg n 1 = 1 → s.dioCfg n 6 = 2 → x.gateAt + 1000000 * s.dioCfg n 8 ≤ max s.now t →
      let out (f : Word) (s' : State) := s'.hall.words = (if pointNone (s.dioCfg n 0x0E) then s.hall.words else (s.putWord (pointAddr (s.dioCfg n 0x0E)) f).hall.words)
      (2 ≤ x.rises.length → ∃ s', exec (.frequencyGate t n) s = .next s' ∧ s'.field.dio[n]? = some { x with gateAt := max s.now t, rises := [], fewRises := false, freq := gateFrequency x.rises } ∧ others s'
        ∧ out (gateFrequency x.rises) s')
      ∧ (x.rises.length < 2 → ∃ s', exec (.frequencyGate t n) s = .next s' ∧ others s'
        ∧ s'.field.dio[n]? = some (if x.fewRises then { x with gateAt := max s.now t, rises := [], freq := 0 } else { x with gateAt := max s.now t, rises := [], fewRises := true })
        ∧ (x.fewRises = true → out 0 s') ∧ (x.fewRises = false → s'.hall = s.hall)))
    ∧ (∀ q, x.overrate = some q → q + 1000000000 ≤ max s.now t → ∃ s', exec (.overrateClear t n) s = .next s' ∧ s'.field.dio[n]? = some { x with overrate := none } ∧ others s')

/-- 09 R438 to R444: a protective switch-off turns the pin off, is counted and recorded, and latches unless RETRY is set; a retry or a reset of the latch lets the pin follow its command; open load and a readback mismatch are set once and recorded; a Tread pulse ends with its command off; a zeroed counter is 0 from the next 1 µs input sample (R437). That CMD 1 also clears RB_MISMATCH is the model's choice (log 149). -/
def Obligations.DigitalOutputsProtectThemselves : Prop :=
  ∀ (t n : Nat) (s : State) (x : Dio), n < 48 → s.field.dio[n]? = some x →
    let others (s' : State) := ∀ j, j ≠ n → s'.field.dio[j]? = s.field.dio[j]?
    (s.live = true → x.pin = true →
      (∀ thermal, ∃ s' x', exec (.dioOverload t n thermal) s = .next s' ∧ s'.field.dio[n]? = some x' ∧ others s' ∧ x'.pin = false ∧ x'.tripAt = some (max s.now t)
        ∧ x'.faults = holdMax 32 (x.faults + 1) ∧ x'.latched = decide (s.dioCfg n 0x0B = 0) ∧ x'.overload = (x.overload || !thermal) ∧ x'.thermal = (x.thermal || thermal) ∧ x'.cmd = x.cmd
        ∧ s'.recorder = ((s.upTo t).ev 0x5002 (leBytes 1 n ++ leBytes 1 (if thermal then 2 else 1))).recorder ∧ s'.outbox = .dio n false (max s.now t) :: s.outbox)
      ∧ (x.openLoad = false → x.cmdAt + 50000000 ≤ max s.now t → ∃ s', exec (.dioOpenLoad t n) s = .next s' ∧ s'.field.dio[n]? = some { x with openLoad := true } ∧ others s'
        ∧ s'.recorder = ((s.upTo t).ev 0x5003 (leBytes 1 n)).recorder)
      ∧ (∃ s', exec (.openLoadClear t n) s = .next s' ∧ s'.field.dio[n]? = some { x with openLoad := false } ∧ others s'))
    ∧ (∀ q, s.live = true → x.tripAt = some q → x.latched = false → q + 100000000 ≤ max s.now t →
      ∃ s' x', exec (.dioRetry t n) s = .next s' ∧ s'.field.dio[n]? = some x' ∧ others s' ∧ x'.tripAt = none ∧ x'.overload = false ∧ x'.thermal = false ∧ x'.pin = s'.dioLevel n)
    ∧ (∀ level, s.live = true → s.dioCfg n 1 = 2 → s.base ≠ .standby → x.cmdAt + 1100000 ≤ max s.now t → x.overload = false → x.thermal = false → x.latched = false →
      (s.dioSupply n).checks = true → level ≠ s.dioWanted n → x.rbMismatch = false →
      ∃ s', exec (.dioReadback t n level) s = .next s' ∧ s'.field.dio[n]? = some { x with rbMismatch := true } ∧ others s'
        ∧ s'.recorder = ((s.upTo t).ev 0x5004 (leBytes 1 n ++ leBytes 1 (ofBool (s.dioWanted n)))).recorder)
    ∧ (∀ q, s.live = true → x.pulseEnd = some q → q ≤ max s.now t →
      ∃ s' x', exec (.dioPulseEnd t n) s = .next s' ∧ s'.field.dio[n]? = some x' ∧ others s' ∧ x'.cmd = false ∧ x'.cmdAt = max s.now t ∧ x'.pulseEnd = none ∧ x'.pin = s'.dioLevel n)
    ∧ (∀ k o, (s.upTo t).granted o k (0x2600 + n) 0x13 (leBytes 1 1) = true →
      ∃ s' x', exec (.dioResetLatched t o n) s = .next s' ∧ s'.field.dio[n]? = some x' ∧ others s' ∧ x'.latched = false ∧ x'.rbMismatch = false ∧ x'.pin = s'.dioLevel n
        ∧ (x.latched = true → x'.overload = false ∧ x'.thermal = false ∧ x'.tripAt = none)
        ∧ (x.latched = false → x'.overload = x.overload ∧ x'.thermal = x.thermal ∧ x'.tripAt = x.tripAt))
    ∧ (∀ k o, (s.upTo t).granted o k (0x2600 + n) 0x13 (leBytes 1 2) = true →
      ∃ s', exec (.dioZeroCounter t o n) s = .next s' ∧ s'.field.dio[n]? = some { dioSettled (max s.now t) x with zeroAt := some ((max s.now t / 1000 + 1) * 1000) } ∧ others s')

/-- 09 R451 to R457, R460, R467: an analogue sample joins the mean over AVG and, within range, gives the value of its characteristic; below 3.6 mA and above 21 mA the input is out of range until 3.7 and 20.9 mA; a readback is judged after RB_TIME, and not within 2 ms of a change of command greater than RB_TOL, and trimmed when stable; compliance and surge are kept with their thresholds. -/
def Obligations.AnalogueChannelsMeasure : Prop :=
  ∀ (t n : Nat) (s : State) (x : Aio), n < 8 → s.field.aio[n]? = some x →
    let others (s' : State) := ∀ j, j ≠ n → s'.field.aio[j]? = s.field.aio[j]?
    let now := max s.now t
    (∀ (na : Int) tx, s.live = true → s.aioCfg n 1 = 1 → s.base ≠ .standby →
      let u : State := if s.field.aioAt = some (coreClock now) then { s.upTo t with params := s.field.aioWas } else s.upTo t
      let l := (((na : Rat) / 1000000) :: x.samples).take (max 1 (u.aioCfg n 8 * 1000 / max 1 (u.aioCfg n 7)))
      let mean := rnd64 (l.sum / (l.length : Rat))
      let under : Bool := if x.under then mean < 37 / 10 else mean < 36 / 10
      let above : Bool := if x.above then 209 / 10 < mean else 21 < mean
      let p := u.aioCfg n 0x11
      ∃ s' x', exec (.aioSample t n na tx) s = .next s' ∧ s'.field.aio[n]? = some x' ∧ others s' ∧ x'.samples = l ∧ x'.txSupply = tx ∧ x'.current = mean
        ∧ (x.surgeEnd ≠ none → x'.value = x.value ∧ s'.hall = s.hall)
        ∧ (x.surgeEnd = none → x'.under = under ∧ x'.above = above
          ∧ ((under || above) = false → x'.value = f32Of (u.aioValue n mean).1 ∧ x'.cutoff = (u.aioValue n mean).2
            ∧ (pointNone p = false → s'.hall = (u.putWord (pointAddr p) (pointOfRat (pointFormat p) (u.aioValue n mean).1)).hall))
          ∧ ((under || above) = true → u.aioCfg n 9 = 0 → x'.value = x.value ∧ s'.hall = s.hall)
          ∧ ((under || above) = true → u.aioCfg n 9 = 1 → x'.value = f32NaN ∧ (pointNone p = false → s'.hall = (u.putWord (pointAddr p) f32NaN).hall))))
    ∧ (∀ na : Int, s.live = true → s.aioCfg n 1 = 2 →
      let i : Rat := (na : Rat) / 1000000
      let settles := x.ramping = true ∨ x.surgeEnd ≠ none ∨ settlingIn now (s.aioF n 0x0F) x.history = true
      (settles → ∃ s', exec (.aioReadback t n na) s = .next s' ∧ s'.field.aio[n]? = some { x with readback := i, rbSince := none } ∧ others s')
      ∧ (¬ settles → absRat (i - x.current) ≤ s.aioF n 0x0F → ∃ s', exec (.aioReadback t n na) s = .next s' ∧ s'.field.aio[n]? = some { x with readback := i, rbSince := none } ∧ others s')
      ∧ (¬ settles → s.aioF n 0x0F < absRat (i - x.current) →
        ∃ s', exec (.aioReadback t n na) s = .next s' ∧ others s' ∧ s'.field.aio[n]? = some { x with
          readback := i, rbSince := some (x.rbSince.getD now), rbMismatch := x.rbMismatch || decide (x.rbSince.getD now + 1000000 * s.aioCfg n 0x10 ≤ now) }))
    ∧ (let d := x.current - x.readback
      let trim := if x.trim + d < -(1 / 5) then -(1 / 5) else if 1 / 5 < x.trim + d then 1 / 5 else x.trim + d
      let trimmed (x : Aio) (s' : State) := others s' ∧ s'.field.aio[n]? = some (if (s.upTo t).aioStable n = true ∧ 2 / 1000 < absRat d then { x with trim := trim, trimLimit := decide (1 / 5 ≤ absRat trim) } else x)
      (s.live = true → s.aioCfg n 1 = 2 → x.trimAt + 10000000000 ≤ now → ∃ s', exec (.aioTrim t n) s = .next s' ∧ trimmed { x with trimAt := now } s')
      ∧ ∀ k o, (s.upTo t).granted o k (0x2700 + n) 0x18 (leBytes 1 2) = true → ∃ s', exec (.aioTrimNow t o n) s = .next s' ∧ trimmed x s')
    ∧ (∀ k o, (s.upTo t).granted o k (0x2700 + n) 0x18 (leBytes 1 1) = true → ∃ s', exec (.aioClearLatched t o n) s = .next s' ∧ others s'
        ∧ s'.field.aio[n]? = some { x with rbMismatch := false, rbSince := none })
    ∧ (∀ mv tv : Int, s.live = true → s.aioCfg n 1 ≠ 0 → x.surgeEnd = none →
      let low := if s.aioCfg n 1 = 2 then mv < 500 else mv < 12000
      let high := if s.aioCfg n 1 = 2 then 1000 ≤ mv else 12500 ≤ mv
      ∃ s' x', exec (.aioCompliance t n mv tv) s = .next s' ∧ s'.field.aio[n]? = some x' ∧ others s' ∧ x'.terminal = (tv : Rat) / 1000
        ∧ (low → x'.compliance = true) ∧ (high → x'.compliance = false) ∧ (¬ low → ¬ high → x'.compliance = x.compliance))
    ∧ (s.live = true → ∃ s', exec (.aioSurge t n) s = .next s' ∧ s'.field.aio[n]? = some { x with surgeEnd := some (now + 2000000), clearAt := now } ∧ others s'
        ∧ s'.recorder = ((s.upTo t).ev 0x5020 (leBytes 1 n)).recorder)
    ∧ (∀ q, x.surgeEnd = some q → q ≤ now → ∃ s', exec (.surgeEnd t n) s = .next s' ∧ s'.field.aio[n]? = some { x with surgeEnd := none, clearAt := now } ∧ others s')

/-- 09 R462 to R465, 05 R790: the modem follows the carrier by its thresholds and starts the first released message of its queue after ten bit times without a carrier; a message sent leaves the queue; a frame received without an error writes its block, one with an error only counts. -/
def Obligations.ModemsCarryMessages : Prop :=
  ∀ (t n : Nat) (s : State) (x : Aio), n < 8 → s.field.aio[n]? = some x → s.live = true →
    let others (s' : State) := ∀ j, j ≠ n → s'.field.aio[j]? = s.field.aio[j]?
    (∀ mvpp bits m, s.fskHead n = some m → s.aioCfg n 0x0E ≠ 0 →
      let carrier := if 120 ≤ mvpp then true else if mvpp < 80 then false else x.carrier
      (carrier = false → 10 ≤ bits → x.sending = false → s.base ≠ .standby →
        ∃ s', exec (.fskTxStart t n mvpp bits) s = .next s' ∧ s'.field.aio[n]? = some { x with carrier := false, sending := true } ∧ others s'
          ∧ s'.outbox = .fsk n (msgBytes m) (max s.now t) :: s.outbox)
      ∧ (carrier = true ∨ bits < 10 ∨ x.sending = true ∨ s.base = .standby →
        ∃ s', exec (.fskTxStart t n mvpp bits) s = .next s' ∧ s'.field.aio[n]? = some { x with carrier := carrier } ∧ s'.outbox = s.outbox))
    ∧ (x.sending = true → ∃ s', exec (.fskTxDone t n) s = .next s' ∧ s'.field.aio[n]? = some { x with sending := false, framesTx := holdMax 32 (x.framesTx + 1) } ∧ others s'
        ∧ s'.tasks.queues = upd s.tasks.queues (s.fskQueue n) dropLanded ∧ s'.tasks.tasks = s.tasks.tasks)
    ∧ (∀ data lost, s.aioCfg n 0x0E ≠ 0 →
      (∃ s', exec (.fskRxFrame t n data true lost) s = .next s' ∧ s'.field.aio[n]? = some { x with carrier := !lost, errors := holdMax 32 (x.errors + 1) } ∧ s'.hall = s.hall)
      ∧ (∃ s', exec (.fskRxFrame t n data false lost) s = .next s' ∧ s'.hall = (if s.cfg (0x2720 + n) 2 = 0xFF then s else (s.upTo t).blockFrame (s.cfg (0x2720 + n) 2) data).hall
        ∧ ∃ x', s'.field.aio[n]? = some x' ∧ x'.framesRx = holdMax 32 (x.framesRx + 1) ∧ x'.carrier = !lost))

/-- 10 R499 to R505, R517: phase 1 takes the first free slot with a fresh number and nonce, or answers BUSY; phase 2 with the right proof in time opens it, a wrong one frees it and counts a failure; phase 3 and silence close it, with its subscriptions; a write transfer that stands still is dropped. -/
def Obligations.SessionsOpenAndClose : Prop :=
  ∀ (t p ip port k : Nat) (s : State) (y : Session), p < 2 → k < 16 → s.net.bamcon.sessions[k]? = some y →
    let u := s.upTo t
    let others (s' : State) := ∀ j, j ≠ k → s'.net.bamcon.sessions[j]? = s.net.bamcon.sessions[j]?
    let closed (s' : State) := s'.net.bamcon.sessions[k]? = some default ∧ others s' ∧ (∀ z ∈ s'.net.bamcon.subs, z.session ≠ y.number) ∧ s'.net.bamcon.transfers = s.net.bamcon.transfers
    (∀ msg x, parseMsg msg = some x → x.type_ = 1 → u.canSend p = true → u.served p = true → x.version / 16 = 1 →
      let o : Origin := ⟨p, ip, port, x.session, x.seq⟩
      (x.num 0 1 = 1 → u.lockedOut o = false → x.payload.length = 20 → 2 ≤ x.num 2 1 → 1 ≤ x.num 1 1 → x.num 1 1 ≤ 4 → roleKeyOf s (x.num 1 1) ≠ [] →
        (y.state = 0 → (∀ j < k, (s.sess j).state ≠ 0) →
          ∃ s' z, exec (.helloPhase1 t p ip port msg) s = .next s' ∧ s'.net.bamcon.sessions[k]? = some z ∧ others s' ∧ z.state = 1 ∧ z.role = x.num 1 1 ∧ z.minor = min 3 (x.num 2 1)
            ∧ z.number = Config.sessionNumber s.net.bamcon.issued % 2 ^ 32 ∧ z.client = (x.payload.drop 4).take 16 ∧ z.link = p ∧ z.peerIp = ip ∧ z.peerPort = port ∧ z.replied = max s.now t
            ∧ s'.net.bamcon.issued = s.net.bamcon.issued + 1)
        ∧ ((∀ j < 16, (s.sess j).state ≠ 0) → ∃ s', exec (.helloPhase1 t p ip port msg) s = .next s' ∧ s'.net.bamcon = s.net.bamcon
            ∧ s'.outbox = u.onWire p (.bamcon p ip port (bamHeader 0x13 0x81 (ofBool s.forced) 8 x.session x.seq 0)) :: s.outbox))
      ∧ (x.num 0 1 = 2 → u.lockedOut o = false → x.payload.length = 36 → y.state = 1 → y.number = x.session → y.link = p →
        (∀ j < k, ¬ ((s.sess j).state = 1 ∧ (s.sess j).number = x.session ∧ (s.sess j).link = p)) →
        let right := x.payload.drop 4 = bamProof (roleKeyOf s y.role) [0x42, 0x43, 0x31] y.number y.module y.client
        (right → max s.now t ≤ y.replied + 5000000000 → ∃ s', exec (.helloPhase2 t p ip port msg) s = .next s' ∧ others s'
          ∧ s'.net.bamcon.sessions[k]? = some { y with
              state := 2, highSeq := 0, validAt := max s.now t, key := bamProof (roleKeyOf s y.role) [0x42, 0x43, 0x4B] y.number y.client y.module })
        ∧ (¬ right ∨ y.replied + 5000000000 < max s.now t → ∃ s', exec (.helloPhase2 t p ip port msg) s = .next s' ∧ s'.net.bamcon.sessions[k]? = some default ∧ others s'
          ∧ s'.net.bamcon.authFails = holdMax 32 (s.net.bamcon.authFails + 1)))
      ∧ (x.num 0 1 = 3 → u.slotOf o = some k → x.tag = bamTag y.key x.body → y.highSeq < x.seq → ∃ s', exec (.helloPhase3 t p ip port msg) s = .next s' ∧ closed s'))
    ∧ (s.live = true → y.state ≠ 0 → y.validAt + 1000000000 * s.cfg 0x1220 3 ≤ max s.now t → ∃ s', exec (.idleTimeout t k) s = .next s' ∧ closed s')
    ∧ (∀ x ∈ s.net.bamcon.transfers, s.live = true → x.at_ + 600000000000 ≤ max s.now t → ∃ s', exec (.transferExpired t x.number) s = .next s'
        ∧ s'.net.bamcon.transfers = s.net.bamcon.transfers.filter (fun z => z.number ≠ x.number) ∧ s'.net.bamcon.sessions = s.net.bamcon.sessions)

/-- 10 R507, R510, R512, R513: a READ answers with the entry's type and value, or with the status that refuses it; a WRITE carries its item out and answers its RESULT; READ_MULTI and WRITE_MULTI answer every item in order. -/
def Obligations.ReadsAndWritesAreAnswered : Prop :=
  ∀ (t p ip port k : Nat) (msg : Bytes) (x : BamMsg) (s : State),
    let u := s.upTo t
    u.heard p ip port msg x k →
    let v := u.taken p k x.seq
    let same (s' a : State) := s'.params = a.params ∧ s'.staged = a.staged ∧ s'.mode = a.mode ∧ s'.hall = a.hall ∧ s'.line = a.line
    (x.type_ = 2 → x.payload.length = 4 →
      let idx := x.num 0 2
      let sub := x.num 2 1
      (∀ a ty w, (v.disarm k).readEntry k idx sub = (a, .ok, ty, w) → (valBytes ty w).length ≤ 1396 →
        ∃ s', exec (.read t p ip port msg) s = .next s' ∧ s'.answered k 2 x.seq .ok (leBytes 2 idx ++ leBytes 1 sub ++ leBytes 1 (tyCode ty) ++ valBytes ty w) ∧ same s' a)
      ∧ ((lookup idx sub).1 = .noEntry → ∃ s', exec (.read t p ip port msg) s = .next s' ∧ s'.answered k 2 x.seq .noEntry (leBytes 2 idx ++ leBytes 1 sub ++ leBytes 1 (tyCode .u8)) ∧ same s' s))
    ∧ (∀ bad, x.type_ = 3 → 4 ≤ x.payload.length → x.payload.length ≤ 1400 → v.applyWait k x = false →
      let r := v.writeItem k none bad ⟨x.num 0 2, x.num 2 1, x.num 3 1, x.payload.drop 4⟩
      (∀ c ∈ r.1.staged, c.wait = none) → r.1.served p = true → ∃ s', exec (.write t p ip port bad msg) s = .next s' ∧ s'.answered k 3 x.seq r.2.status (resultBytes r.2) ∧ same s' r.1)
    ∧ (∀ a b, x.type_ = 4 → x.num 0 1 ≤ 64 → x.payload.length = 2 + 4 * x.num 0 1 → (v.disarm k).itemsBytes k (addrsOf (x.num 0 1) (x.payload.drop 2)) = (a, b) → b.length ≤ 1398 →
      ∃ s', exec (.readMulti t p ip port msg) s = .next s' ∧ s'.answered k 4 x.seq .ok (leBytes 1 (x.num 0 1) ++ [0#8] ++ b) ∧ same s' a)
    ∧ ∀ bad items, x.type_ = 5 → x.num 0 1 ≤ 64 → itemsOf (x.num 0 1) (x.payload.drop 2) = some items → 2 ≤ x.payload.length → x.payload.length ≤ 1400 →
      let r := v.writeItems k x bad items
      (∀ c ∈ r.1.staged, c.wait = none) → r.1.served p = true →
      ∃ s', exec (.writeMulti t p ip port bad msg) s = .next s'
        ∧ s'.answered k 5 x.seq (resultsStatus r.2) (leBytes 1 r.2.length ++ [0#8] ++ r.2.flatMap resultBytes) ∧ same s' r.1

/-- 10 R516 to R518, 13 R635, R636; 14 R695: BLOCK_READ answers a part of a STR or BLOB under its VERSION; BLOCK_WRITE opens a transfer and adds the bytes that follow; SUBSCRIBE adds or removes a subscription; COMMIT is answered once nothing staged remains; ACTIVATE is accepted for verified firmware and refused with STATE otherwise. -/
def Obligations.TransfersSubscriptionsAndCommits : Prop :=
  ∀ (t p ip port k : Nat) (msg : Bytes) (x : BamMsg) (s : State),
    let u := s.upTo t
    u.heard p ip port msg x k →
    let v := (u.taken p k x.seq).disarm k
    let idx := x.num 0 2
    let sub := x.num 2 1
    let role := (s.sess k).role
    let block (version number next : Nat) := leBytes 2 idx ++ leBytes 1 sub ++ [0#8] ++ leBytes 4 number ++ leBytes 4 next ++ leBytes 4 version
    (∀ a ty w, x.type_ = 6 → x.payload.length = 16 → v.readEntry k idx sub = (a, .ok, ty, w) → tySize ty = none → x.num 12 2 ≤ 1384 → (x.num 4 4 = 0 ∨ x.num 4 4 = a.versionOf idx sub) →
      ∃ s', exec (.blockRead t p ip port msg) s = .next s' ∧ s'.answered k 6 x.seq .ok (leBytes 2 idx ++ leBytes 1 sub ++ [0#8] ++ leBytes 4 (a.versionOf idx sub) ++ leBytes 4 (x.num 8 4)
        ++ leBytes 4 (valRaw w).length ++ ((valRaw w).drop (x.num 8 4)).take (x.num 12 2)))
    ∧ (x.type_ = 7 → 16 ≤ x.payload.length → x.payload.length ≤ 16 + 1380 → (lookup idx sub).1 = .ok → tySize (lookup idx sub).2.ty = none → imageOf idx sub = none →
      let data := x.payload.drop 16
      let total := x.num 12 4
      (x.num 4 4 = 0 → x.num 8 4 = 0 → data.length < total → ((s.net.bamcon.transfers.filter fun y => y.idx ≠ idx || y.sub ≠ sub).length < 4) →
        let number := Config.transferNumber s.net.bamcon.nextTransfer % 2 ^ 32
        ∃ s', exec (.blockWrite t p ip port msg) s = .next s' ∧ ⟨number, idx, sub, total, data, max s.now t, role⟩ ∈ s'.net.bamcon.transfers
          ∧ s'.answered k 7 x.seq .ok (block (s.versionOf idx sub) number data.length) ∧ s'.params = s.params)
      ∧ (∀ y, s.net.bamcon.transfers.find? (fun y => y.number = x.num 4 4 && y.idx = idx && y.sub = sub) = some y → x.num 4 4 ≠ 0 → y.role ≤ role → total = y.total → x.num 8 4 = y.data.length →
        y.data.length + data.length < total →
        ∃ s', exec (.blockWrite t p ip port msg) s = .next s' ∧ { y with data := y.data ++ data, at_ := max s.now t } ∈ s'.net.bamcon.transfers
          ∧ s'.answered k 7 x.seq .ok (block (s.versionOf idx sub) y.number (y.data.length + data.length)) ∧ s'.params = s.params))
    ∧ (x.type_ = 8 → x.payload.length = 6 + 4 * x.num 4 1 → (∀ a ∈ addrsOf (x.num 4 1) (x.payload.drop 6), (lookup a.idx a.sub).1 = .ok) → x.num 0 1 ≤ 7 →
      let rest := s.net.bamcon.subs.filter fun y => y.session ≠ x.session || y.id ≠ x.num 0 1
      (x.num 2 2 = 0 → ∃ s', exec (.subscribe t p ip port msg) s = .next s' ∧ s'.net.bamcon.subs = rest ∧ s'.answered k 8 x.seq .ok [])
      ∧ (x.num 2 2 ≠ 0 → x.num 4 1 ≤ 32 → x.num 1 1 < 64 → (s.plan.tasks.getD (x.num 1 1) default).kind ≠ 0 → rest.length < 32 →
        (v.itemsBytes k (addrsOf (x.num 4 1) (x.payload.drop 6))).2.length ≤ 1390 →
        ∃ s', exec (.subscribe t p ip port msg) s = .next s' ∧ s'.answered k 8 x.seq .ok []
          ∧ s'.net.bamcon.subs = rest ++ [⟨x.session, x.num 0 1, x.num 1 1, x.num 2 2, addrsOf (x.num 4 1) (x.payload.drop 6), 0, 0⟩]))
    ∧ (x.type_ = 9 → x.payload = [] → 3 ≤ role → s.mode ≠ .fault → s.base ≠ .standby →
      (s.nvm.filling.items = [] → s.nvm.running = none → ∃ s', exec (.commit t p ip port msg) s = .next s' ∧ s'.answered k 9 x.seq .ok [] ∧ s'.nvm = s.nvm)
      ∧ (s.nvm.filling.items ≠ [] → s.nvm.running = none → ∃ s', exec (.commit t p ip port msg) s = .next s' ∧ s'.nvm.running = some s.nvm.filling ∧ s'.outbox = s.outbox
        ∧ (⟨x.session, x.seq, 9, [], [], some s.nvm.filling.upto⟩ : Waiting) ∈ s'.net.bamcon.waits))
    ∧ ∀ b, x.type_ = 10 → x.payload.length = 4 → 4 ≤ role → x.num 0 1 = 1 →
      (u.activates = false → ∃ s', exec (.activate t p ip port b msg) s = .next s' ∧ s'.answered k 10 x.seq .state [] ∧ s'.sup = s.sup ∧ s'.mode = s.mode)
      ∧ (u.activates = true → s.mode = .run → ∃ s', exec (.activate t p ip port b msg) s = .next s' ∧ s'.answered k 10 x.seq .ok [] ∧ s'.mode = s.mode
        ∧ s'.sup = { s.sup with fw := { s.sup.fw with pauseNext := true } })
      ∧ (u.activates = true → s.mode ≠ .run → ∃ s', exec (.activate t p ip port b msg) s = .next s' ∧ s'.sup.power.cause = 5 ∧ s'.staged = [] ∧ ∀ z ∈ s'.net.bamcon.sessions, z.state = 0)

/-- 10 R490, R508, R535, R536: KEY_SEQ arms an entry in its session until the session's next request; a role key replaces the old one, the Maintainer's with KEY_FACTORY; TIME_SET sets TIME. -/
def Obligations.KeysArmingAndTime : Prop :=
  ∀ (t k : Nat) (o : Origin) (s : State),
    let u := s.upTo t
    (∀ idx sub, idx < 65536 → u.granted o k 0x1222 1 (leBytes 4 (idx * 256 + sub % 256)) = true →
      ∃ s', exec (.keySeqArm t o idx sub) s = .next s' ∧ (s'.sess k).armed = some (idx * 256 + sub % 256, max s.now t, o.seq) ∧ s'.params = s.params)
    ∧ (∀ role key, 1 ≤ role → role ≤ 4 → u.granted o k 0x1221 role key = true →
      ∃ s', exec (.roleKeyWrite t o role key) s = .next s' ∧ s'.net.bamcon.keys = upd s.net.bamcon.keys (role - 1) (fun _ => key)
        ∧ s'.net.bamcon.keyFactory = (if role = 4 then decide (key = Config.factoryKey) else s.net.bamcon.keyFactory))
    ∧ (∀ time, time < 2 ^ 64 → u.granted o k 0x1210 0x12 (leBytes 8 time) = true →
      ∃ s', exec (.timeSet t o time) s = .next s' ∧ s'.time = time ∧ s'.net.ptp.timeSet = true ∧ s'.clock.ppb = s.clock.ppb)

/-- 11 R544, R549 to R554, R568, R569, R576: a sent head leaves the queue with its count and its wait and lowers TEC; a failed one stays, is counted by its kind and, in one-shot mode, is dropped; the error counters give the state, and TEC beyond 255 is bus-off, which empties the queue; bus-off ends by RECOVERY_DELAY, by RECOVER, or by 128 sequences of recessive bits. How much the counters move is log 18. -/
def Obligations.CanStatesFollowTheirCounters : Prop :=
  ∀ (t n : Nat) (s : State) (x : Can), n < 4 → s.cans[n]? = some x →
    let u := s.upTo t
    let others (s' : State) := ∀ j, j ≠ n → s'.cans[j]? = s.cans[j]?
    let judged (tec r : Nat) : Nat := if 127 < tec ∨ 127 < r then 3 else 2
    let settled (l : List CanTx) := ∀ g, l.head? = some g → g.tried = true ∨ u.canExpired n g = false
    (∀ f rest, s.canOn n = true → s.canListen n = false → x.queue = f :: rest →
      (∀ t0 ns, x.tec ≤ 256 → settled rest →
        ∃ s' x', exec (.canTxDone t n t0 ns) s = .next s' ∧ s'.cans[n]? = some x' ∧ others s' ∧ x'.queue = rest ∧ x'.txFrames = holdMax 32 (x.txFrames + 1) ∧ x'.tec = x.tec - 1
          ∧ x'.rec_ = x.rec_ ∧ x'.waitMax = max x.waitMax (holdMax 32 ((t0 - f.at_) / 1000)) ∧ x'.state = judged (x.tec - 1) x.rec_ ∧ s'.outbox = .can n f :: s.outbox)
      ∧ (∀ spared, u.canExpired n f = false → s.canCfg n 0x0E = 0 → ∃ s', exec (.canTxFailed t n 0 spared) s = .next s' ∧ others s'
          ∧ s'.cans[n]? = some { x with queue := { f with tried := true } :: rest, arbLost := holdMax 32 (x.arbLost + 1) })
      ∧ (∀ spared, u.canExpired n f = false → s.canCfg n 0x0E ≠ 0 → settled rest → ∃ s', exec (.canTxFailed t n 0 spared) s = .next s' ∧ others s'
          ∧ s'.cans[n]? = some { x with queue := rest, arbLost := holdMax 32 (x.arbLost + 1), txDropped := holdMax 32 (x.txDropped + 1) })
      ∧ (∀ kind spared, 1 ≤ kind → kind < 7 →
        let d := if spared then 0 else 8
        (x.tec + d ≤ 255 → x.rec_ ≤ 255 → u.canExpired n f = false → s.canCfg n 0x0E = 0 → ∃ s', exec (.canTxFailed t n kind spared) s = .next s' ∧ others s'
          ∧ s'.cans[n]? = some { x with
            queue := { f with tried := true } :: rest, lastError := kind, errFrames := holdMax 32 (x.errFrames + 1), tec := x.tec + d, state := judged (x.tec + d) x.rec_ })
        ∧ (255 < x.tec + d → ∃ s' x', exec (.canTxFailed t n kind spared) s = .next s' ∧ s'.cans[n]? = some x' ∧ others s' ∧ x'.queue = []
          ∧ x'.state = (if s.canCfg n 0x10 = 1 ∧ s.canCfg n 0x11 = 0 then 5 else 4) ∧ x'.busOffs = holdMax 32 (x.busOffs + 1) ∧ x'.busOffAt = max s.now t
          ∧ x'.flushed = holdMax 32 (x.flushed + (rest.length + 1)))))
    ∧ (∀ kind heavy, s.canOn n = true → 1 ≤ kind → kind < 7 → x.tec ≤ 255 →
      let r := min 255 (x.rec_ + if heavy then 8 else 1)
      ∃ s', exec (.canBusError t n kind heavy) s = .next s' ∧ others s'
        ∧ s'.cans[n]? = some { x with lastError := kind, errFrames := holdMax 32 (x.errFrames + 1), rec_ := r, state := judged x.tec r })
    ∧ (s.canPowered n = true → x.state = 4 →
      (s.canCfg n 0x10 = 1 → x.busOffAt + 1000000 * s.canCfg n 0x11 ≤ max s.now t →
        ∃ s', exec (.canRecoveryStart t n) s = .next s' ∧ s'.cans[n]? = some { x with state := 5 } ∧ others s'
          ∧ s'.recorder = (u.ev 0x6101 (leBytes 1 n ++ leBytes 1 5 ++ leBytes 2 x.tec ++ leBytes 2 x.rec_)).recorder)
      ∧ ∀ k o, u.granted o k (0x1301 + 0x40 * n) 0x0F (leBytes 1 1) = true → ∃ s' x', exec (.canRecoveryCmd t o n) s = .next s' ∧ s'.cans[n]? = some x' ∧ x'.state = 5 ∧ x'.tec = x.tec ∧ x'.rec_ = x.rec_)
    ∧ (s.canPowered n = true → x.state = 5 → ∃ s', exec (.canRecovered t n) s = .next s' ∧ s'.cans[n]? = some { x with state := 2, tec := 0, rec_ := 0 } ∧ others s')
    ∧ (s.canPowered n = true → x.state = 1 → x.tec ≤ 255 → ∃ s', exec (.canIntegrated t n) s = .next s' ∧ s'.cans[n]? = some { x with state := judged x.tec x.rec_ } ∧ others s')

/-- 11 R558 to R561, R568, R570 to R575: a received frame lowers REC; outside the range of Bamcon, the pairs route it to a receive queue or discard it. The filter list takes the oldest frame of RXQ0, else of RXQ1, and its element in force, or the default, gives the mailbox queue, which takes the frame or counts it as lost; an ACK of a Landing of the same core clock comes before (R578). A request segment starts or continues a message; one out of order, or 100 ms without the last, discards it; a response segment takes a free place of the transmit queue, eight at most. -/
def Obligations.CanFramesFindTheirReaders : Prop :=
  ∀ (t n : Nat) (s : State) (x : Can), n < 4 → s.cans[n]? = some x →
    let u := s.upTo t
    let others (s' : State) := ∀ j, j ≠ n → s'.cans[j]? = s.cans[j]?
    (∀ bad b f, s.canHears n f = true → x.tec ≤ 255 → x.rec_ ≤ 127 →
      (s.canInRange n f = false → s.base ≠ .standby →
        let r := s.canRoute n f.id f.ide
        let kept (q : List CanFrame) (k : Nat) : List CanFrame := if r = k ∧ q.length < 64 then q ++ [{ f with stamp := u.time, rxq := k }] else q
        ∃ s' x', exec (.canFrameRx t n bad b f) s = .next s' ∧ s'.cans[n]? = some x' ∧ others s' ∧ x'.rxFrames = holdMax 32 (x.rxFrames + 1) ∧ x'.rec_ = x.rec_ - 1
          ∧ x'.rxq0 = kept x.rxq0 0 ∧ x'.rxq1 = kept x.rxq1 1 ∧ s'.hall = s.hall
          ∧ ((r = 0 ∧ 64 ≤ x.rxq0.length) ∨ (r = 1 ∧ 64 ≤ x.rxq1.length) → x'.overflow = holdMax 32 (x.overflow + 1)))
      ∧ (∀ c, s.canInRange n f = true → f.rtr = false → s.canClient n f = some c →
        let seg := (f.data.headD 0).toNat
        (bitAt seg 7 = true → seg % 64 = 0 → bitAt seg 6 = false → x.reasm.find? (fun y => y.client = c) = none →
          ∃ s' x', exec (.canBamconSegment t n bad b f) s = .next s' ∧ s'.cans[n]? = some x' ∧ others s' ∧ x'.rxq0 = x.rxq0 ∧ x'.rxq1 = x.rxq1
            ∧ x'.reasm.head? = some ⟨c, f.data.drop 1, 1, max s.now t⟩ ∧ x'.rxFrames = holdMax 32 (x.rxFrames + 1))
        ∧ (∀ y, bitAt seg 7 = false → x.reasm.find? (fun y => y.client = c) = some y → max s.now t < y.at_ + 100000000 →
          (seg % 64 = y.next % 64 → bitAt seg 6 = false → ∃ s' x', exec (.canBamconSegment t n bad b f) s = .next s' ∧ s'.cans[n]? = some x' ∧ others s'
            ∧ x'.reasm.head? = some { y with data := y.data ++ f.data.drop 1, next := y.next + 1 })
          ∧ (seg % 64 ≠ y.next % 64 → ∃ s' x', exec (.canBamconSegment t n bad b f) s = .next s' ∧ s'.cans[n]? = some x' ∧ others s'
            ∧ (∀ z ∈ x'.reasm, z.client ≠ c) ∧ x'.segErrors = holdMax 32 (x.segErrors + 1)))))
    ∧ (∀ f rest, s.canPowered n = true → s.base ≠ .standby → x.rxq0 = f :: rest ∨ (x.rxq0 = [] ∧ x.rxq1 = f :: rest) →
      let q := (u.canSorted n f).1
      let k := (u.canSorted n f).2
      let w := u.acksNow
      let z := w.can n
      let b := z.boxes.getD q default
      let others (s' : State) := ∀ j, j ≠ n → s'.cans[j]? = w.cans[j]?
      let taken (x' : Can) := if x.rxq0 = [] then x'.rxq0 = [] ∧ x'.rxq1 = rest else x'.rxq0 = rest ∧ x'.rxq1 = x.rxq1
      (q = 16 → ∃ s' x', exec (.canListFilter t n) s = .next s' ∧ s'.cans[n]? = some x' ∧ others s' ∧ taken x' ∧ x'.boxes = z.boxes ∧ s'.hall = s.hall)
      ∧ (q < 16 → x.boxes.length = 16 → s.canBox n q 1 ≠ 0 → (b.head - b.ack).toNat < s.canBox n q 1 ∨ s.canBox n q 5 ≠ 0 →
        ∃ s' x', exec (.canListFilter t n) s = .next s' ∧ s'.cans[n]? = some x' ∧ others s' ∧ taken x'
          ∧ x'.boxes = z.boxes.modify q (fun b => { b with head := b.head + 1, received := holdMax 32 (b.received + 1) })
          ∧ s'.hall.bits = s.hall.bits ∧ s'.hall.words = ((s.putWords (s.canBox n q 3 % 2 ^ 18 + 4 + b.head.toNat % s.canBox n q 1 * (4 + s.canBox n q 2 / 4)) (canSlot f (s.canBox n q 2) k)).putWord
              (s.canBox n q 3 % 2 ^ 18) (b.head + 1) |>.putWord (s.canBox n q 3 % 2 ^ 18 + 1) b.lost).hall.words)
      ∧ (q < 16 → x.boxes.length = 16 → s.canBox n q 1 = 0 ∨ (s.canBox n q 1 ≤ (b.head - b.ack).toNat ∧ s.canBox n q 5 = 0) →
        ∃ s' x', exec (.canListFilter t n) s = .next s' ∧ s'.cans[n]? = some x' ∧ others s' ∧ taken x'
          ∧ x'.boxes = z.boxes.modify q (fun b => { b with lost := b.lost + 1, lostCount := holdMax 32 (b.lostCount + 1) })))
    ∧ (∀ c y, s.live = true → x.reasm.find? (fun y => y.client = c) = some y → y.at_ + 100000000 ≤ max s.now t →
      ∃ s' x', exec (.segmentTimeout t n c) s = .next s' ∧ s'.cans[n]? = some x' ∧ others s' ∧ x' = { x with reasm := x.reasm.filter fun z => z.client ≠ c, segErrors := holdMax 32 (x.segErrors + 1) })
    ∧ (∀ c d rest p, s.canPowered n = true → x.segs.find? (fun e => e.client = c) = some ⟨c, d :: rest, p⟩ → x.queue.length < 32 → x.queue.countP (fun f => f.client = some c) < 8 →
      ∃ s' x' f, exec (.canBamconTxSegment t n c) s = .next s' ∧ s'.cans[n]? = some x' ∧ others s' ∧ x'.queue = x.queue ++ [f] ∧ x'.queue.getLast? = some f ∧ f.data = d ∧ f.client = some c
        ∧ f.id = s.canBam n 2 + 4 * c + 2 * s.canRole + 1
        ∧ x'.segs = if rest = [] then x.segs.erase ⟨c, d :: rest, p⟩ else ⟨c, rest, none⟩ :: x.segs.erase ⟨c, d :: rest, p⟩)

/-- 12 R588 to R594, R600, R601, R607: a frame with a wrong CRC is only counted; KEEPALIVE marks its lane and gives a standby pair time; a lane that changes is recorded, the first one up carries HELLO, and one that goes down cancels a switchover; HELLO sets the version and, by the SCHEMA, a joining or a cold pair; COMPARE finds what diverged; NAK repeats deltas and ACK releases them. -/
def Obligations.CorridorKeepsItsPartner : Prop :=
  ∀ (t : Nat) (s : State), s.live = true → s.mode ≠ .boot → s.paired = true → s.pair.sense = true →
    let u := s.upTo t
    let heard (s' : State) := s'.pair.framesRx = holdMax 64 (s.pair.framesRx + 1)
    (∀ lane y, lane < 2 → s.pair.lanes[lane]? = some y →
      let others (s' : State) := ∀ j, j ≠ lane → s'.pair.lanes[j]? = s.pair.lanes[j]?
      (∀ stamp, ∃ s', exec (.keepalive t lane true stamp) s = .next s' ∧ heard s' ∧ others s' ∧ s'.pair.lanes[lane]? = some { y with lastAt := max s.now t } ∧ s'.pair.state = s.pair.state
        ∧ (s.pair.role = 2 → s'.clock = { s.clock with refNow := max s.now t, refTime := stamp } ∧ s'.pair.unaligned = false)
        ∧ (s.pair.role ≠ 2 → s'.clock = s.clock ∧ s'.pair.unaligned = s.pair.unaligned))
      ∧ (∀ stamp, ∃ s', exec (.keepalive t lane false stamp) s = .next s' ∧ s'.pair = { s.pair with crcErrors := holdMax 32 (s.pair.crcErrors + 1) } ∧ s'.clock = s.clock)
      ∧ (y.up = true → ∃ s', exec (.keepaliveTx t lane) s = .next s' ∧ s'.outbox = .corridor u.time (.keepalive lane) :: s.outbox ∧ s'.pair.framesTx = holdMax 64 (s.pair.framesTx + 1)
        ∧ s'.pair.lanes = s.pair.lanes)
      ∧ (y.up = true → ∃ s', exec (.laneChanged t lane false) s = .next s' ∧ s'.pair.lanes[lane]? = some { up := false, lastAt := max s.now t } ∧ others s' ∧ s'.pair.state = s.pair.state
        ∧ s'.pair.switching = if 1 ≤ s.pair.switching ∧ s.pair.switching ≤ 3 then 0 else s.pair.switching)
      ∧ (y.up = false → ∃ s', exec (.laneChanged t lane true) s = .next s' ∧ s'.pair.lanes[lane]? = some { up := true, lastAt := max s.now t } ∧ others s' ∧ s'.pair.switching = s.pair.switching
        ∧ (s.corridorUp = true → s'.outbox = s.outbox ∧ s'.pair.state = s.pair.state)
        ∧ (s.corridorUp = false → ∃ h, s'.outbox = .corridor u.time (.hello h) :: s.outbox ∧ h.major = 1 ∧ h.minor = 1 ∧ h.partner.schema = s.plan.schema ∧ h.partner.role = s.pair.role
          ∧ h.partner.station = s.pair.roleSel ∧ s'.pair.state = if s.pair.state = 0 ∨ s.pair.state = 2 ∧ s.pair.role = 0 then 1 else s.pair.state)))
    ∧ (∀ h : CorHello,
      (h.major ≠ 1 → ∃ s', exec (.corridorHello t true h) s = .next s' ∧ heard s' ∧ s'.pair.partner = some h.partner ∧ s'.pair.state = 0 ∧ s'.pair.minor = 0 ∧ s'.pair.role = s.pair.role
        ∧ s'.recorder = (u.ev 0x7041 (leBytes 1 1 ++ leBytes 1 h.major)).recorder)
      ∧ (h.major = 1 → s.pair.role = 1 → h.partner.schema = s.plan.schema → ∃ s', exec (.corridorHello t true h) s = .next s' ∧ s'.pair.partner = some h.partner ∧ s'.pair.minor = min 1 h.minor
        ∧ s'.pair.state = 3 ∧ s'.pair.joinAt = 0 ∧ s'.pair.resyncing = false ∧ s'.pair.role = 1 ∧ s'.mode = s.mode)
      ∧ (h.major = 1 → s.pair.role = 1 → h.partner.schema ≠ s.plan.schema → ∃ s', exec (.corridorHello t true h) s = .next s' ∧ s'.pair.partner = some h.partner ∧ s'.pair.state = 6 ∧ s'.pair.role = 1
        ∧ s'.mode = s.mode ∧ s'.recorder = (u.ev 0x7040 (leBytes 8 s.plan.schema ++ leBytes 8 h.partner.schema)).recorder)
      ∧ (h.major = 1 → s.pair.role = 0 → s.mode = .stop → u.stopHeld = false → h.partner.role = 0 → h.partner.station ≠ s.pair.roleSel → h.partner.schema = s.plan.schema →
        ∃ s', exec (.corridorHello t true h) s = .next s' ∧ s'.pair.state = 3 ∧ s'.pair.role = (if s.pair.roleSel = 0 then 1 else 0)
          ∧ (s.pair.roleSel ≠ 0 → s.corridorUp = true → s'.outbox = .corridor u.time (.join false) :: s.outbox))
      ∧ (h.major = 1 → s.pair.role = 0 → s.mode = .stop → u.stopHeld = false → h.partner.role = 1 → h.partner.schema ≠ s.plan.schema →
        ∃ s', exec (.corridorHello t true h) s = .next s' ∧ s'.pair.state = 6 ∧ s'.pair.role = 2 ∧ s'.mode = .standby))
    ∧ (s.pair.state = 4 → s.compareOff = false →
      (∀ at_ crcs, s.follows = true → s.pair.hotAt + 100000 ≤ at_ →
        let own := compareCrcs s.pair.compare at_
        let same (c : Nat) : Prop := own.getD c 0 = crcs.getD c 0
        ((∀ c < 5, same c) → ∃ s', exec (.compare t true at_ crcs) s = .next s' ∧ heard s' ∧ s'.pair.intervals = holdMax 64 (s.pair.intervals + 1) ∧ s'.pair.mismatches = s.pair.mismatches ∧ s'.pair.state = 4)
        ∧ ((¬ ∀ c < 5, same c) → ∃ s', exec (.compare t true at_ crcs) s = .next s' ∧ s'.pair.intervals = holdMax 64 (s.pair.intervals + 1) ∧ s'.pair.mismatches = holdMax 32 (s.pair.mismatches + 1)
          ∧ (∀ c < 5, bitAt s'.pair.lastClasses c = true ↔ ¬ same c) ∧ s'.pair.divergedAt = some (max s.now t) ∧ s'.pair.state = 3 ∧ s'.pair.resyncing = true
          ∧ s'.pair.switching = if 1 ≤ s.pair.switching ∧ s.pair.switching ≤ 3 then 0 else s.pair.switching))
      ∧ (∀ at_ crcs, at_ < s.pair.hotAt + 100000 → ∃ s', exec (.compare t true at_ crcs) s = .next s' ∧ heard s' ∧ s'.pair.intervals = s.pair.intervals ∧ s'.pair.state = 4)
      ∧ (s.pair.role = 1 → s.corridorUp = true →
        let at_ := u.time / 100000 * 100000
        ∃ s', exec (.compareTx t) s = .next s' ∧ s'.outbox = .corridor u.time (.compare at_ (compareCrcs s.pair.compare at_)) :: s.outbox ∧ s'.pair.compare = s.pair.compare.filter fun x => at_ ≤ x.stamp))
    ∧ (∀ missing, s.corridorUp = true → ∃ s', exec (.corridorNak t true missing) s = .next s' ∧ s'.pair.buffer = s.pair.buffer
        ∧ s'.outbox = ((s.pair.buffer.filter fun e => missing.contains e.1.seq).map fun e => .corridor u.time (.delta e.1)).reverse ++ s.outbox)
    ∧ (∀ seq verified, s.pair.role = 1 → ∃ s', exec (.corridorAck t true seq verified) s = .next s'
        ∧ s'.pair.buffer = s.pair.buffer.filter (fun e => 2 ^ 31 ≤ (seq + 2 ^ 32 - e.1.seq) % 2 ^ 32) ∧ s.pair.applied ≤ s'.pair.applied
        ∧ s'.plans = { s.plans with partnerReady := verified ≠ 0 && verified = s.verifiedDigest })

/-- 12 R591, R595 to R601, R605; 06 R340: on the standby, forwarded items and COMMAND records wait for their place and act on the lockstep class at their stamps, 3 µs behind, each once; a gap asks for a snapshot of that class; a delta in order is applied to the points that it names and acknowledged, one out of order is answered by NAK; the snapshots are loaded whole and make the pair hot; the active module lets its partner join, and is hot when it has joined. -/
def Obligations.StandbyFollowsTheActive : Prop :=
  ∀ (t : Nat) (s : State), s.live = true → s.mode ≠ .boot → s.paired = true → s.pair.sense = true →
    let u := s.upTo t
    let v (cls : Nat) := s.pair.seqRx.getD cls 0
    let inOrder (cls seq : Nat) : Prop := v cls ≠ 0 ∧ (seq + 2 ^ 32 - v cls % 2 ^ 32) % 2 ^ 32 = 0
    let gap (cls seq : Nat) : Prop := v cls ≠ 0 ∧ 0 < (seq + 2 ^ 32 - v cls % 2 ^ 32) % 2 ^ 32 ∧ (seq + 2 ^ 32 - v cls % 2 ^ 32) % 2 ^ 32 < 2 ^ 31
    let again (cls seq : Nat) : Prop := v cls ≠ 0 ∧ 2 ^ 31 ≤ (seq + 2 ^ 32 - v cls % 2 ^ 32) % 2 ^ 32
    let counted (cls seq : Nat) : Pair := { s.pair with framesRx := holdMax 64 (s.pair.framesRx + 1), seqRx := upd s.pair.seqRx cls fun _ => seq + 1 }
    let due (e : Nat × LagItem) : Prop := e.1 + 3000 ≤ u.time
    let waits (cls seq : Nat) (l : List (Nat × LagItem)) (i : Instr) : Prop :=
      let q := l.foldl (fun q e => lagInsert e q) s.pair.lag
      let w : State := { u with pair := { counted cls seq with lag := q } }
      (inOrder cls seq → s.pair.state = 3 → exec i s = .next w)
      ∧ (inOrder cls seq → s.pair.state = 4 → exec i s = .next w.drain)
      ∧ (inOrder cls seq → s.pair.state = 4 → (∀ e ∈ q, ¬ due e) →
        ∃ s', exec i s = .next s' ∧ s'.pair.lag = q ∧ s'.line = s.line ∧ s'.treads = s.treads ∧ s'.field = s.field ∧ s'.loops = s.loops ∧ s'.params = s.params ∧ s'.hall = s.hall)
      ∧ (∀ e, inOrder cls seq → s.pair.state = 4 → q = [e] → due e →
        let fwd := (match e.2 with | .item x => [(e.1, x)] | .cmd _ => []) ++ s.pair.fwdBuf.filter fun x => u.time < x.1 + 1000000
        let v : State := { u with now := u.instantOf e.1, pair := { counted cls seq with lag := [], fwdBuf := fwd, lastFwd := match e.2 with | .item _ => max s.pair.lastFwd e.1 | .cmd _ => s.pair.lastFwd } }
        exec i s = .next { (match e.2 with | .item x => v.takeItem x | .cmd c => v.takeCommand c) with now := max s.now t })
      ∧ (again cls seq → exec i s = .next u)
      ∧ (gap cls seq → s.pair.state = 4 → ∃ s', exec i s = .next s' ∧ s'.pair.state = 3 ∧ s'.pair.resyncing = true ∧ s'.pair.lag = q ∧ s'.line = s.line ∧ s'.treads = s.treads ∧ s'.params = s.params
        ∧ (s.corridorUp = true → s'.outbox = .corridor u.time (.join true) :: s.outbox))
    (s.follows = true →
      (∀ seq stamp items, waits 2 seq (items.map fun e => (u.itemStamp (stamp + e.1) e.2, LagItem.item e.2)) (.forward t true seq stamp items))
      ∧ (∀ seq c stamp, waits 3 seq [(match c with | .flCmd _ _ a => a | _ => stamp, LagItem.cmd c)] (.commandRecord t true seq c stamp))
      ∧ (∀ x : Lockstep, s.pair.state = 3 → s.pair.resyncing = true → (∀ e ∈ s.pair.lag, x.stamp ≤ e.1 → ¬ due e) → ∃ s', exec (.lockstepResync t true x) s = .next s'
          ∧ s'.line = { x.line with gridAt := (max s.now t : Int) + (x.gridTime - (u.time : Int)) } ∧ s'.treads = { x.treads with words := snorm 0 x.treads.words } ∧ s'.loops = x.loops ∧ s'.field.dio = x.dio
          ∧ s'.field.aio = x.aio ∧ s'.tasks.launches = x.launches ∧ s'.params = (u.loadParams x).params ∧ s'.pair.state = 4 ∧ s'.pair.resyncing = false ∧ s'.pair.hotAt = u.time
          ∧ s'.pair.lag = s.pair.lag.filter (fun e => x.stamp ≤ e.1) ∧ s'.pair.resyncs = holdMax 32 (s.pair.resyncs + 1)
          ∧ (s.corridorUp = true → s'.outbox = .corridor u.time .joinDone :: s.outbox)))
    ∧ (∀ d : Delta, s.pair.role = 2 → s.base = .standby → s.pair.state = 4 →
      (inOrder 5 d.seq → d.major = false → d.switchMark = false → d.swapped = false → (∀ e ∈ s.pair.lag, ¬ due e) →
        let inside (bit : Bool) (a : Nat) : Prop := ∃ x ∈ d.outs, spaceIsBit x.space = bit ∧ spaceBase x.space + x.off ≤ a ∧ a < spaceBase x.space + x.off + x.len
        ∃ s', exec (.delta t true d) s = .next s' ∧ (∀ a, inside true a → s'.liveBit a = sget false d.bits a) ∧ (∀ a, ¬ inside true a → s'.liveBit a = s.liveBit a)
          ∧ (∀ a, (∀ e ∈ d.written, e.1 ≠ a) → inside false a → s'.liveWord a = sget 0 d.words a) ∧ (∀ a, (∀ e ∈ d.written, e.1 ≠ a) → ¬ inside false a → s'.liveWord a = s.liveWord a)
          ∧ (∀ l e, d.written = l ++ [e] → s'.liveWord e.1 = e.2) ∧ s'.pair.held = d.bamcon
          ∧ s'.net.outCount = d.outCount ∧ s'.net.msgCount = d.msgCount
          ∧ (s.corridorUp = true → s'.outbox.head? = some (.corridor u.time (.ack d.seq u.verifiedDigest))))
      ∧ (gap 5 d.seq → ∃ s', exec (.delta t true d) s = .next s' ∧ s'.hall = s.hall ∧ s'.tasks = s.tasks ∧ s'.pair.naks = holdMax 32 (s.pair.naks + 1) ∧ s'.pair.seqRx = s.pair.seqRx
          ∧ (s.corridorUp = true → s'.outbox = .corridor u.time (.nak ((List.range (d.seq - v 5 % 2 ^ 32)).map (v 5 % 2 ^ 32 + ·))) :: s.outbox))
      ∧ (again 5 d.seq → ∃ s', exec (.delta t true d) s = .next s' ∧ s'.hall = s.hall ∧ s'.tasks = s.tasks ∧ s'.pair = { s.pair with framesRx := holdMax 64 (s.pair.framesRx + 1) } ∧ s'.outbox = s.outbox))
    ∧ (∀ l, s.pair.role = 1 → s.pair.state = 2 ∨ s.pair.state = 3 ∨ s.pair.state = 4 → ∃ s', exec (.join t true (some l) none) s = .next s' ∧ s'.pair.state = 3 ∧ s'.pair.joinAt = 0 ∧ s'.pair.resyncing = l
        ∧ s'.mode = s.mode)
    ∧ (∀ x : Snapshot, s.pair.role ≠ 1 → s.pair.state = 3 → s.pair.resyncing = false → u.stopHeld = false → s.mode = .stop ∨ s.mode = .standby →
      s.pair.early = [] → (∀ e ∈ s.pair.lag, x.lock.stamp ≤ e.1 → ¬ due e) →
      ∃ s', exec (.join t true none (some x)) s = .next s' ∧ s'.mode = .standby ∧ s'.pair.role = 2 ∧ s'.pair.state = 4 ∧ s'.pair.applied = x.lock.landing
        ∧ s'.line = { x.lock.line with gridAt := (max s.now t : Int) + (x.lock.gridTime - (u.time : Int)) } ∧ s'.treads = { x.lock.treads with words := snorm 0 x.lock.treads.words }
        ∧ s'.loops = x.lock.loops ∧ s'.hall.bits = snorm false x.hall.bits ∧ s'.hall.words = snorm 0 x.hall.words ∧ s'.dsp = x.dsp ∧ s'.params = (u.loadParams x.lock).params
        ∧ s'.pair.lag = s.pair.lag.filter (fun e => x.lock.stamp ≤ e.1))
    ∧ (s.pair.role = 1 → s.pair.state = 3 → s.pair.joinAt ≠ 0 → ∃ s', exec (.partnerJoined t true) s = .next s' ∧ s'.pair.state = 4 ∧ s'.pair.resyncing = false ∧ s'.pair.compare = s.pair.compare ∧ s'.pair.hotAt = u.time
        ∧ s'.sup.fw.hotSeen = true ∧ s'.mode = s.mode)

/-- 12 R604, R608 to R612, R616: the active module that loses its partner goes on alone, or is in Fault where it was handing over for a cause; a standby that is hot takes over on evidence of the loss, waits without it, notes a driven output as PARTNER_ALIVE, and goes to Stop when it was not hot; a start without a link makes station A active, and station B without a powered partner; a HANDOVER starts the change of roles. That station B judges PAIR_SENSE at its retry is the model's reading (log 60). -/
def Obligations.PairLossIsDecided : Prop :=
  ∀ (t : Nat) (s : State), s.live = true → s.paired = true →
    let u := s.upTo t
    let taken (s' : State) := s'.mode = .run ∧ s'.pair.role = 1 ∧ s'.pair.state = 2 ∧ s'.pair.takeovers = holdMax 32 (s.pair.takeovers + 1) ∧ s'.pair.lastTakeover = u.time ∧ s'.pair.silent = false
    let noted (s' : State) := s'.pair.silent = true ∧ s'.pair.silentAt = max s.now t ∧ s'.pair.silences = holdMax 32 (s.pair.silences + 1) ∧ (∀ y ∈ s'.pair.lanes, y ∈ s.pair.lanes.drop 2 ∨ y.up = false)
    (s.mode ≠ .boot → s.pair.silent = false →
      (∀ pin analog driven, s.pair.role = 1 → s.pair.state ≠ 0 → s.pair.state ≠ 2 → s.pair.after ≠ 0 → s.mode ≠ .fault → s.mode ≠ .backup →
        ∃ s', exec (.corridorSilence t pin analog driven) s = .next s' ∧ noted s' ∧ s'.pair.role = 1 ∧ s'.pair.state = 2 ∧ s'.pair.after = 0 ∧ s'.mode = .fault ∧ s'.sup.cause = s.pair.after)
      ∧ (∀ pin analog driven, s.pair.role = 1 → s.pair.state ≠ 0 → s.pair.state ≠ 2 → s.pair.after = 0 →
        ∃ s', exec (.corridorSilence t pin analog driven) s = .next s' ∧ noted s' ∧ s'.pair.role = 1 ∧ s'.pair.state = 2 ∧ s'.pair.buffer = [] ∧ s'.mode = s.mode ∧ s'.treads = s.treads ∧ s'.field = s.field)
      ∧ (s.pair.role = 2 → s.base = .standby → s.pair.switching ≠ 5 → s.clear t →
        (∀ pin analog driven, s.pair.state = 4 → u.stopHeld = false → s.pair.sense = false ∨ pin = true ∨ analog = true → ∃ s', exec (.corridorSilence t pin analog driven) s = .next s' ∧ taken s')
        ∧ (∀ ch, s.pair.state = 4 ∨ s.pair.state = 6 → s.pair.sense = true → ∃ s', exec (.corridorSilence t false false (some ch)) s = .next s' ∧ noted s' ∧ s'.pair.state = 5 ∧ s'.pair.role = 2 ∧ s'.mode = s.mode)
        ∧ (s.pair.state = 4 ∨ s.pair.state = 6 → s.pair.sense = true → ∃ s', exec (.corridorSilence t false false none) s = .next s' ∧ noted s' ∧ s'.pair.state = s.pair.state ∧ s'.pair.role = 2 ∧ s'.mode = s.mode)
        ∧ ∀ pin analog driven, s.pair.state ≠ 4 → s.pair.state ≠ 6 → ∃ s', exec (.corridorSilence t pin analog driven) s = .next s' ∧ s'.mode = .stop ∧ s'.pair.role = 0 ∧ s'.pair.takeovers = s.pair.takeovers))
    ∧ (s.pair.role = 2 → s.pair.silent = true → s.pair.sense = true → s.pair.state = 4 → u.stopHeld = false → s.pair.silentAt + 1000000 * s.cfg 0x1400 9 ≤ max s.now t →
      ∃ s', exec (.silenceConfirm t true) s = .next s' ∧ taken s')
    ∧ (s.pair.sense = false → ∃ s', exec (.pairSenseChange t true) s = .next s' ∧ s'.pair = { s.pair with sense := true } ∧ s'.mode = s.mode)
    ∧ (s.mode ≠ .boot → s.pair.sense = true → s.pair.silent = false ∨ s.pair.role ≠ 2 →
      ∃ s', exec (.pairSenseChange t false) s = .next s' ∧ s'.pair.sense = false ∧ s'.pair.role = s.pair.role ∧ s'.pair.state = s.pair.state ∧ s'.mode = s.mode ∧ (∀ y ∈ s'.pair.lanes, y ∈ s.pair.lanes.drop 2 ∨ y.up = false))
    ∧ (s.mode ≠ .boot → s.pair.sense = true → s.pair.silent = true → s.pair.role = 2 → s.pair.state = 4 → u.stopHeld = false → ∃ s', exec (.pairSenseChange t false) s = .next s' ∧ taken s')
    ∧ (s.mode = .stop → s.pair.role = 0 → s.corridorUp = false →
      let waited := s.pair.retryAt = none ∧ s.pair.waitAt + 1000000 * s.cfg 0x1400 8 ≤ max s.now t
      (waited → s.pair.roleSel = 0 ∨ s.pair.sense = false → ∃ s', exec (.joinWaitExpired t) s = .next s' ∧ s'.pair = { s.pair with role := 1, state := 2 } ∧ s'.mode = .stop)
      ∧ (waited → s.pair.roleSel ≠ 0 → s.pair.sense = true → ∃ s', exec (.joinWaitExpired t) s = .next s' ∧ s'.pair = { s.pair with retryAt := some (max s.now t) } ∧ s'.recorder = (u.ev 0x7003 (leBytes 1 3)).recorder)
      ∧ ∀ a, s.pair.retryAt = some a → a + 1000000000 ≤ max s.now t → s.pair.roleSel = 1 →
        (s.pair.sense = false → ∃ s', exec (.stationBRetry t) s = .next s' ∧ s'.pair = { s.pair with role := 1, state := 2, retryAt := some (max s.now t) } ∧ s'.mode = .stop)
        ∧ (s.pair.sense = true → ∃ s', exec (.stationBRetry t) s = .next s' ∧ s'.pair = { s.pair with retryAt := some (max s.now t) } ∧ s'.recorder = s.recorder))
    ∧ (s.pair.sense = true → s.pair.role = 2 → s.base = .standby → s.pair.state = 4 → s.mode ≠ .boot →
      ∃ s', exec (.handover t true) s = .next s' ∧ s'.pair = { s.pair with framesRx := holdMax 64 (s.pair.framesRx + 1), switching := 5 } ∧ s'.mode = s.mode
        ∧ s'.recorder = (u.ev 0x7010 (leBytes 1 5 ++ leBytes 1 0)).recorder)

/-- 12 R602, R617 to R619: the standby compares its own inputs with the forwarded ones, counts and dates the differences; a driver's failed self-test is a finding; HEALTH carries SCORE and FINDINGS, takes the partner's, notes a supply below 20 V, and on the active module recommends a takeover by the difference of the scores. -/
def Obligations.PairHealthIsKept : Prop :=
  ∀ (t : Nat) (s : State), s.live = true →
    let u := s.upTo t
    let now := max s.now t
    (s.follows = true → s.pair.state = 4 →
      let hi := u.time - 3000
      let off (n : Nat) : Bool := 1 < (bufCount s.pair.shadowBuf n (hi - 100000) hi - bufCount s.pair.fwdBuf n (hi - 100000) hi).natAbs
      let differs (n : Nat) : Bool := s.dioCfg n 1 = 1 && s.pair.shadowDio.getD n false ≠ (s.dio n).level
      let since (n : Nat) : Nat := (s.pair.dioDiff.getD n none).getD now
      let long (n : Nat) : Bool := differs n && decide (since n + 1000000 ≤ now)
      let found := (List.range 8).countP off + (List.range 48).countP long
      ∃ s', exec (.shadowCheck t) s = .next s' ∧ s'.pair.shadowDiff = holdMax 32 (s.pair.shadowDiff + found) ∧ s'.pair.shadowAt = (if found = 0 then s.pair.shadowAt else some now)
        ∧ (∀ n < 48, s'.pair.dioDiff[n]? = some (if long n then some now else if differs n then some (since n) else none)) ∧ s'.pair.state = 4 ∧ s'.line = s.line ∧ s'.field = s.field)
    ∧ (s.base = .standby → ∃ s', exec (.driverTest t false) s = .next s' ∧ s'.pair = { s.pair with loopback := true, loopbackFail := holdMax 32 (s.pair.loopbackFail + 1) })
    ∧ (∃ s', exec (.driverTest t true) s = .next s' ∧ s'.pair = s.pair)
    ∧ (∀ mv score finds, s.mode ≠ .boot → s.paired = true → s.pair.sense = true → ∃ s', exec (.healthReport t mv (some (score, finds))) s = .next s'
        ∧ s'.pair = { s.pair with framesRx := holdMax 64 (s.pair.framesRx + 1), partner := s.pair.partner.map fun h => { h with score := score, findings := finds } })
    ∧ (∀ mv, s.mode ≠ .boot →
      (s.pair.role ≠ 1 ∨ s.pair.state ≠ 4 → ∃ s', exec (.healthReport t mv none) s = .next s' ∧ s'.sup.power.vl = mv ∧ (mv < 20000 → bitAt s'.pair.lastFindings 10 = true) ∧ s'.pair.healthAt = u.time
        ∧ s'.mode = s.mode ∧ (s.corridorUp = true → s'.outbox = .corridor u.time (.health (scoreOf s'.pair.lastFindings) s'.pair.lastFindings) :: s.outbox))
      ∧ (∀ h, s.pair.role = 1 → s.pair.state = 4 → s.cfg 0x1400 0x0A ≠ 1 → s.pair.partner = some h →
        ∃ s', exec (.healthReport t mv none) s = .next s' ∧ s'.mode = s.mode ∧ s'.pair.switching = s.pair.switching
          ∧ s'.pair.recommend = decide (scoreOf s'.pair.lastFindings + s.cfg 0x1400 0x0B ≤ h.score)))

/-- 12 R605, R607, R613 to R616, R622: an accepted switchover is set for SWITCH_AT three major Landings ahead, or asked of the active module; a resynchronisation starts a snapshot; after SWITCH_READY the roles change at the first quiet position clock from F on, and 1 ms later the switchover is complete. -/
def Obligations.SwitchoversChangeTheRoles : Prop :=
  ∀ (t k : Nat) (o : Origin) (s : State),
    let u := s.upTo t
    let n := (s.task 0).landings + 3
    (u.granted o k 0x1400 0x0D (leBytes 1 1) = true →
      (s.pair.role = 1 → ∀ crc, ∃ s', exec (.switchover t (some o) crc) s = .next s' ∧ s'.pair = { s.pair with switching := 1, switchAt := n } ∧ s'.mode = s.mode
        ∧ s'.recorder = (u.ev 0x7011 (leBytes 1 0 ++ leBytes 8 n)).recorder)
      ∧ (s.pair.role = 2 → s.corridorUp = true → ∀ crc, ∃ s', exec (.switchover t (some o) crc) s = .next s' ∧ s'.pair.switching = 0 ∧ .corridor u.time (.switch_ n) ∈ s'.outbox ∧ s'.mode = s.mode))
    ∧ (s.live = true → s.mode ≠ .boot → s.paired = true → s.pair.sense = true → s.pair.role = 1 →
      (s.switchAccepts = true → ∃ s', exec (.switchover t none true) s = .next s' ∧ s'.pair.switching = 1 ∧ s'.pair.switchAt = n ∧ s'.pair.role = 1 ∧ s'.mode = s.mode)
      ∧ (s.pair.switching = 2 → ∃ s', exec (.switchReady t true) s = .next s' ∧ s'.pair = { s.pair with framesRx := holdMax 64 (s.pair.framesRx + 1), switching := 3 } ∧ s'.mode = s.mode))
    ∧ (u.granted o k 0x1400 0x0D (leBytes 1 2) = true → ∃ s', exec (.pairResyncCmd t o) s = .next s' ∧ s'.pair.state = 3 ∧ s'.pair.resyncing = true
        ∧ (s.pair.role ≠ 1 → s.corridorUp = true → .corridor u.time (.join true) ∈ s'.outbox) ∧ s'.mode = s.mode)
    ∧ (u.granted o k 0x1400 0x0D (leBytes 1 3) = true → ∃ s', exec (.pairRejoinCmd t o) s = .next s' ∧ s'.pair.state = 3 ∧ s'.pair.resyncing = false
        ∧ (s.pair.role ≠ 1 → .corridor u.time (.join false) ∈ s'.outbox) ∧ s'.mode = s.mode)
    ∧ (s.live = true → u.quietClock = true → (s.pair.switching = 3 ∧ s.pair.switchF ≤ max s.now t) ∨ s.pair.switching = 5 →
      (s.pair.role = 2 → ∃ s', exec (.switchTSw t) s = .next s' ∧ s'.mode = .run ∧ s'.pair.role = 1 ∧ s'.pair.switching = 4 ∧ s'.pair.rampAt = max s.now t + 1000000 ∧ s'.pair.state = 4)
      ∧ (s.pair.role = 1 → ∃ s', exec (.switchTSw t) s = .next s' ∧ s'.mode = .standby ∧ s'.pair.role = 2 ∧ s'.pair.switching = 4 ∧ s'.pair.rampAt = max s.now t + 1000000 ∧ s'.pair.state = 4
        ∧ s'.line = s.line ∧ s'.hall = s.hall))
    ∧ (s.live = true → s.pair.switching = 4 → s.pair.rampAt ≤ max s.now t →
      ∃ s', exec (.switchoverDone t) s = .next s' ∧ s'.pair = { s.pair with switching := 0, switchAt := 0, switchovers := holdMax 32 (s.pair.switchovers + 1) }
        ∧ (∀ j y, s.aioCfg j 1 = 2 → s.field.aio[j]? = some y → s'.field.aio[j]? = some { y with ramping := false }) ∧ s'.recorder = (u.ev 0x7011 (leBytes 1 1 ++ leBytes 8 s.pair.switchAt)).recorder)

/-- 13 R631, R633 to R637, R640, R641, R643, R668: a record written is staged, and read so at once; a commit starts 100 ms after the first write staged where no major Landing comes, and when done both copies of every record stand under its number; PROTECT takes its level; CLEAR deletes every record. -/
def Obligations.RecordsAreStagedAndCommitted : Prop :=
  ∀ (t k : Nat) (o : Origin) (s : State),
    let u := s.upTo t
    (∀ data, u.granted o k 0x1510 2 data = true → s.persistedAs 0x1510 2 = none →
      let r := s.selOf k 0x1510 1
      ∃ s', exec (.psRecordWrite t o data) s = .next s' ∧ s'.psStaged r = some data ∧ (∀ j, j ≠ r → s'.psStaged j = s.psStaged j) ∧ s'.nvm.records = s.nvm.records ∧ s'.nvm.commitNo = s.nvm.commitNo)
    ∧ (∀ level, level < 256 → u.granted o k 0x1500 7 (leBytes 1 level) = true →
      ∃ s', exec (.protect t o level) s = .next s' ∧ s'.nvm.protect = level ∧ s'.nvm.rpProtect = s.nvm.rpProtect ∧ s'.nvm.records = s.nvm.records
        ∧ s'.recorder = (if s.nvm.protect = level then s.recorder else (u.ev 0x8004 (leBytes 1 0 ++ leBytes 1 level)).recorder))
    ∧ (∀ v, u.granted o k 0x1500 0x0B (leBytes 4 v) = true → s.persistedAs 0x1500 0x0B = none →
      ∃ s', exec (.psCleared t o v) s = .next s' ∧ s'.nvm.records = [] ∧ (∀ j, s'.psStaged j = none) ∧ s'.nvm.pages = s.nvm.pages ∧ s'.recorder = (u.ev 0x800B []).recorder)
    ∧ (s.live = true → s.base ≠ .run → s.base ≠ .edit → ¬ (s.follows = true ∧ s.pair.state = 4) → s.nvm.filling.items ≠ [] → s.nvm.filling.first + 100000000 ≤ max s.now t →
      (s.nvm.running = none → ∃ s', exec (.psCommitTimer t) s = .next s' ∧ s'.nvm = { s.nvm with running := some s.nvm.filling, filling := default })
      ∧ (s.nvm.running ≠ none → ∃ s', exec (.psCommitTimer t) s = .next s' ∧ s'.nvm = { s.nvm with again := true }))
    ∧ (∀ b, s.live = true → s.nvm.running = some b →
      ∃ s', exec (.psCommit t) s = .next s'
        ∧ (∀ e ∈ b.items, (∀ e' ∈ b.items, e'.1 = e.1 → e' = e) → s'.psRecord e.1 = ⟨some ⟨s.nvm.commitNo + 1, e.2, true⟩, some ⟨s.nvm.commitNo + 1, e.2, true⟩⟩)
        ∧ (∀ j, (∀ e ∈ b.items, e.1 ≠ j) → s'.psRecord j = s.psRecord j) ∧ s'.nvm.commits = holdMax 32 (s.nvm.commits + 1) ∧ s'.nvm.commitNo = s.nvm.commitNo + 1 ∧ s'.nvm.written = b.upto
        ∧ s'.nvm.lastCommit = u.time ∧ s'.nvm.running = (if s.nvm.again = true ∧ s.nvm.filling.items ≠ [] then some s.nvm.filling else none))

/-- 13 R629, R658, R661, R664; 16 R744: a write of a Raw Page puts its bytes from ADDRESS on, wrapping within the page; RP_PROTECT takes its level; a sector erased returns its space to the reserve of its partition, or is retired when the erase took more than 36 ms; a refresh of a cold sector is counted, at most one in 60 s. -/
def Obligations.PagesAndSectorsAreKept : Prop :=
  ∀ (t k : Nat) (o : Origin) (s : State),
    let u := s.upTo t
    (∀ data, u.granted o k 0x1520 3 data = true →
      let a := s.selOf k 0x1520 1
      ∃ s', exec (.rawPageWrite t o data) s = .next s' ∧ s'.nvm.records = s.nvm.records
        ∧ s'.nvm.pages = (if data = [] then s.nvm.pages else sput (List.replicate 256 0xFF#8) s.nvm.pages (a / 256) (pageMerge (s.page (a / 256)) (a % 256) data))
        ∧ s'.nvm.rpReserve = (if data = [] then s.nvm.rpReserve else s.nvm.rpReserve - 1))
    ∧ (∀ level, level < 256 → u.granted o k 0x1520 4 (leBytes 1 level) = true → ∃ s', exec (.rpProtect t o level) s = .next s' ∧ s'.nvm.rpProtect = level ∧ s'.nvm.protect = s.nvm.protect
        ∧ s'.nvm.pages = s.nvm.pages)
    ∧ (∀ addr live us erases p, s.live = true → s.mode ≠ .boot → partitionOf addr = some p →
      (us ≤ 36000 → ∃ s', exec (.reclaim t addr live us erases) s = .next s' ∧ s'.sup = s.sup
        ∧ s'.nvm.reserve = (if p = 4 then s.nvm.reserve + (65536 - live) else s.nvm.reserve) ∧ s'.nvm.privReserve = (if p = 5 then s.nvm.privReserve + (65536 - live) else s.nvm.privReserve)
        ∧ s'.nvm.rpReserve = (if 7 ≤ p then s.nvm.rpReserve + (256 - live / 256) else s.nvm.rpReserve) ∧ s'.nvm.records = s.nvm.records ∧ s'.nvm.priv = s.nvm.priv ∧ s'.nvm.pages = s.nvm.pages)
      ∧ (36000 < us → ∃ s', exec (.reclaim t addr live us erases) s = .next s' ∧ s'.sup.ledger.retired = s.sup.ledger.retired.modify p (· + 1) ∧ s'.nvm.reserve = s.nvm.reserve
        ∧ s'.nvm.privReserve = s.nvm.privReserve ∧ s'.nvm.rpReserve = s.nvm.rpReserve ∧ s'.nvm.records = s.nvm.records)
      ∧ (us ≤ 36000 → (∀ a, s.sup.ledger.refreshAt = some a → a + 60000000000 ≤ max s.now t) → ∃ s', exec (.sectorRefreshed t addr live us erases) s = .next s'
        ∧ s'.sup.ledger.refreshed = holdMax 32 (s.sup.ledger.refreshed + 1) ∧ s'.sup.ledger.refreshAt = some (max s.now t) ∧ s'.nvm.records = s.nvm.records
        ∧ s'.recorder = (u.ev 0xB012 (leBytes 4 addr)).recorder)
      ∧ (∀ a, s.sup.ledger.refreshAt = some a → max s.now t < a + 60000000000 → ∃ s', exec (.sectorRefreshed t addr live us erases) s = .next s' ∧ s'.sup = s.sup ∧ s'.nvm = s.nvm))

/-- 14 R673, R690 to R694, R697: verification starts and ends with the verdict of the staged image, and a discard empties the staging slot; both end Update. Trial firmware that meets R693 is confirmed by a record and CONFIRM is noted; without it the trial is rejected after 300 s; the service pause ends at a major frame start in Run on the slot selected, or in Fault 5. -/
def Obligations.FirmwareIsTriedAndConfirmed : Prop :=
  ∀ (t k : Nat) (o : Origin) (s : State),
    let u := s.upTo t
    let f := s.sup.fw
    let left (s' : State) := s'.mode = if s.mode = .update ∧ s.pausing = false then f.from_ else s.mode
    (u.granted o k 0x1800 5 (leBytes 1 1) = true → ∃ s', exec (.fwVerify t o) s = .next s' ∧ s'.sup = { s.sup with fw := { f with stage := 2, verifyAt := max s.now t } } ∧ s'.mode = s.mode)
    ∧ (u.granted o k 0x1800 5 (leBytes 1 2) = true → ∃ s', exec (.fwDiscard t o) s = .next s' ∧ s'.sup.fw.stage = 0 ∧ s'.sup.fw.reject = 0 ∧ left s'
        ∧ s'.nvm.fwSlots = s.nvm.fwSlots.modify (1 - f.booted) (fun _ => []) ∧ (∀ x ∈ s'.net.bamcon.transfers, x.idx ≠ 0x1800) ∧ s'.sup.fw.booted = f.booted)
    ∧ (s.live = true → f.stage = 2 →
      let v := Config.fwVerdict (s.slotBytes 1 (1 - f.booted))
      ∃ s', exec (.fwVerified t) s = .next s' ∧ s'.sup.fw.stage = (if v = 0 then 3 else 4) ∧ s'.sup.fw.reject = v ∧ left s' ∧ s'.nvm = s.nvm)
    ∧ (u.granted o k 0x1801 5 (leBytes 1 1) = true → ∃ s', exec (.fwConfirm t o) s = .next s' ∧ s'.sup = { s.sup with fw := { f with confirm := true } } ∧ s'.mode = s.mode)
    ∧ (s.live = true → f.state = 1 → f.healthOk = false →
      (max s.now t ≤ f.actAt + 300000000000 → steadyMode s.mode = true → f.steadyAt + 60000000000 ≤ max s.now t → (s.partnerPresent = true → f.hotSeen = true) → (s.cfg 0x1801 4 = 0 ∨ f.confirm = true) →
        ∃ s', exec (.fwConfirmed t) s = .next s' ∧ s'.sup.fw = { f with state := 2, healthOk := true }
          ∧ s'.nvm.priv = ⟨7, 0, privSeq s.nvm.priv 7 0 + 1, 0, u.actFirmware f.booted 2, true⟩ :: s.nvm.priv ∧ s'.mode = s.mode)
      ∧ (f.expired = false → f.actAt + 300000000000 ≤ max s.now t →
        ∃ s', exec (.fwConfirmExpired t) s = .next s' ∧ s'.sup.fw = { f with expired := true }
          ∧ s'.nvm.priv = ⟨7, 0, privSeq s.nvm.priv 7 0 + 1, 0, u.actFirmware f.booted 3, true⟩ :: s.nvm.priv ∧ s'.mode = s.mode))
    ∧ (∀ a, s.live = true → f.pauseAt = some a →
      let starts := (max s.now t - s.tasks.runAt) % max 1 u.majorFrame = 0
      (∀ slot why trial, s.slotSelect = some (slot, why, trial) → starts → ∃ s', exec (.pauseEnded t false) s = .next s' ∧ s'.mode = .run ∧ s'.sup.fw.pauseAt = none ∧ s'.sup.fw.stage = 0 ∧ s'.sup.fw.booted = slot
          ∧ s'.sup.fw.lastPause = holdMax 32 ((max s.now t - a) / 1000) ∧ s'.sup.fw.state = (if trial then 1 else 2) ∧ s'.hall = s.hall)
      ∧ (s.slotSelect ≠ none → ¬ starts → exec (.pauseEnded t false) s = .next u)
      ∧ (∀ fault, s.mode ≠ .fault → fault = true ∨ s.slotSelect = none → ∃ s', exec (.pauseEnded t fault) s = .next s' ∧ s'.mode = .fault ∧ s'.sup.cause = 5))

/-- 06 R309, R318 to R323, R332 to R342: verification starts, and enters Edit for an edit Plan in Run; it ends in a verified Plan or in the first failure, with its reason; a discard empties the staging slot; activation names the slot by a record and restarts with the staged Plan; SWAP_AT arms a verified edit, CANCEL ends it, and a write of the key holds it. -/
def Obligations.PlansAreVerifiedAndActivated : Prop :=
  ∀ (t k : Nat) (o : Origin) (s : State),
    let u := s.upTo t
    let v := s.plans
    (u.granted o k 0x2401 4 (leBytes 1 1) = true →
      ∃ s', exec (.planVerify t o) s = .next s' ∧ s'.plans = { v with stageState := 2, staged := none, editing := s.verifiesEdit, editState := if s.verifiesEdit then 1 else v.editState }
        ∧ s'.mode = if s.verifiesEdit = true ∧ s.mode = .run then .edit else s.mode)
    ∧ (u.granted o k 0x2401 4 (leBytes 1 2) = true →
      ∃ s', exec (.planDiscard t o) s = .next s' ∧ s'.plans.stageState = 0 ∧ s'.plans.staged = none ∧ s'.plans.slots = v.slots.modify (1 - v.slot) (fun _ => []) ∧ s'.plans.active = v.active
        ∧ (1 ≤ v.editState → v.editState ≤ 3 → s'.plans.editState = 0) ∧ (∀ x ∈ s'.net.bamcon.transfers, x.idx ≠ 0x2401) ∧ s'.mode = if s.mode = .edit then .run else s.mode)
    ∧ (∀ p, u.granted o k 0x2401 4 (leBytes 1 3) = true → v.staged = some p →
      ∃ s', exec (.planActivate t o 0) s = .next s' ∧ s'.plans.active = some p ∧ s'.plans.slot = 1 - v.slot ∧ s'.plans.staged = none ∧ s'.plans.stageState = 0 ∧ s'.mode = .run
        ∧ s'.tasks.runAt = max s.now t ∧ ⟨8, 0, privSeq s.nvm.priv 8 0 + 1, 0, actPlan (1 - v.slot) p.digest, true⟩ ∈ s'.nvm.priv)
    ∧ (s.live = true → v.stageState = 2 →
      let b := s.slotBytes 2 (1 - v.slot)
      (s.planReject b v.editing = none → ∃ s', exec (.planVerified t) s = .next s'
        ∧ s'.plans = { v with stageState := 3, staged := some (planOf b), rejectReason := 0, rejectDetail := 0, editState := if v.editing then 2 else v.editState, editing := false } ∧ s'.mode = s.mode)
      ∧ ∀ r, s.planReject b v.editing = some r → ∃ s', exec (.planVerified t) s = .next s' ∧ s'.plans.stageState = 4 ∧ s'.plans.staged = none ∧ s'.plans.rejectReason = r.reason
          ∧ s'.plans.active = v.active ∧ s'.plans.editState = (if v.editing then 5 else v.editState) ∧ s'.mode = if v.editing = true ∧ s.mode = .edit then .run else s.mode)
    ∧ (∀ n, n < 2 ^ 64 → u.granted o k 0x2402 2 (leBytes 8 n) = true → ∃ s', exec (.swapAt t o n) s = .next s' ∧ s'.plans = { v with editState := 3, swapAt := n, partnerReady := false }
        ∧ s'.pair.switching = (if 1 ≤ s.pair.switching ∧ s.pair.switching ≤ 3 then 0 else s.pair.switching) ∧ s'.mode = s.mode)
    ∧ (u.granted o k 0x2402 4 (leBytes 1 1) = true → ∃ s', exec (.cancel t o) s = .next s' ∧ s'.plans = { v with editState := 0, swapAt := 0, partnerReady := false, editing := false }
        ∧ s'.mode = if s.mode = .edit then .run else s.mode)
    ∧ ∀ key, u.granted o k 0x2403 1 key = true → ∃ s', exec (.publicKey t o key) s = .next s' ∧ s'.plans = { v with pubKey := key } ∧ s'.fuses = s.fuses

/-- 00 R3 to R6; 06 R309, R310; 15 R736: a burn uses the next slot of its group and of no other; at its end the value burned is committed. -/
def Obligations.FuseBurnsCommitTheirValue : Prop :=
  ∀ (t k : Nat) (o : Origin) (s : State),
    let u := s.upTo t
    (∀ digest, u.granted o k 0x2403 2 (leBytes 4 digest) = true →
      ∃ s', exec (.planKeyConfirm t o digest) s = .next s' ∧ s'.fuses.key = { s.fuses.key with used := s.fuses.key.used + 1, burn := 1, next := s.plans.pubKey } ∧ s'.fuses.win = s.fuses.win)
    ∧ (∀ w, w < 256 → u.granted o k 0x1722 1 (leBytes 1 w) = true →
      ∃ s', exec (.windowFuseBurn t o w) s = .next s' ∧ s'.fuses.win = { s.fuses.win with used := s.fuses.win.used + 1, burn := 1, next := leBytes 1 w } ∧ s'.fuses.key = s.fuses.key)
    ∧ (s.live = true →
      (s.fuses.win.burn = 1 → ∃ s', exec (.fuseBurnDone t false) s = .next s' ∧ s'.fuses.win = { s.fuses.win with burn := 2, committed := s.fuses.win.next } ∧ s'.fuses.key = s.fuses.key)
      ∧ (s.fuses.key.burn = 1 → ∃ s', exec (.fuseBurnDone t true) s = .next s' ∧ s'.fuses.key = { s.fuses.key with burn := 2, committed := s.fuses.key.next } ∧ s'.fuses.win = s.fuses.win
        ∧ s'.recorder = (u.ev 0xA016 (leBytes 4 (keyId s.fuses.key.next))).recorder))

/-- 15 R706 to R711, R717 to R719, R722, R734: at 7/8 of PERIOD a warning is counted and, but for the Supervisor's, recorded; at PERIOD the evidence is captured and the module falls into reset, or with ACTION 1 on a single or active module the Gallery fails; LOCK is set and stays; SUP_DISABLE stops the Supervisor's watchdog; CLEAR invalidates the evidence. -/
def Obligations.WatchdogsExpire : Prop :=
  ∀ (t k w : Nat) (o : Origin) (s : State) (x : Wdt), w < 5 → s.sup.wdts[w]? = some x →
    let u := s.upTo t
    let others (s' : State) := ∀ j, j ≠ w → s'.sup.wdts[j]? = s.sup.wdts[j]?
    let e := s.sup.backup.evidence
    let captured (s' : State) := s'.sup.backup.evidence.valid = true ∧ s'.sup.backup.evidence.wdt = w ∧ s'.sup.backup.evidence.cause = 1 ∧ s'.sup.backup.evidence.mode = modeNo s.mode
      ∧ s'.sup.backup.evidence.pcs = s.tasks.galleries.map (·.last) ∧ s'.sup.backup.evidence.expiryRtc = calendarWord u.rtcTicks ∧ s'.sup.backup.evidence.count = holdMax 32 (e.count + 1)
      ∧ s'.sup.backup.evidence.action = if w = 0 then 0 else s.wdtCfg w 4
    (s.live = true → x.state = 1 →
      (x.warned = false → s.wdtPeriod w / 8 * 7 ≤ u.wdtC w → ∃ s', exec (.wdtWarning t w) s = .next s' ∧ s'.sup.wdts[w]? = some { x with warned := true, warnings := holdMax 32 (x.warnings + 1) } ∧ others s'
        ∧ s'.recorder = (if w = 0 then s.recorder else (u.ev 0x9002 (leBytes 1 w)).recorder) ∧ s'.mode = s.mode)
      ∧ (u.wdtSpent w = true → w = 0 ∨ s.wdtCfg w 4 ≠ 1 ∨ s.pair.role = 2 →
        ∃ s', exec (.wdtExpired t w) s = .next s' ∧ captured s' ∧ s'.sup.backup.evidence.report = true ∧ s'.inReset = true ∧ s'.sup.power.nextCause = 3 ∧ (∀ y ∈ s'.field.dio, y.pin = false)
          ∧ s'.sup.wdts[w]? = some { x with expired := true } ∧ others s' ∧ s'.recorder = s.recorder)
      ∧ (u.wdtSpent w = true → w ≠ 0 → s.wdtCfg w 4 = 1 → s.pair.role ≠ 2 →
        ∃ s', exec (.wdtExpired t w) s = .next s' ∧ captured s' ∧ (∀ g, s.tasks.galleries[w - 1]? = some g → ∃ g', s'.tasks.galleries[w - 1]? = some g' ∧ g'.failed = true)
          ∧ s'.inReset = false ∧ ∃ y, s'.sup.wdts[w]? = some y ∧ y.state = 0 ∧ y.expired = true))
    ∧ (s.live = false → s.inReset = true → max s.now t ≤ s.sup.power.saveEnd → x.state = 1 → u.wdtSpent w = true →
      ∃ s', exec (.wdtExpired t w) s = .next s' ∧ captured s' ∧ s'.sup.backup.evidence.report = true ∧ s'.sup.wdts = s.sup.wdts ∧ s'.sup.power = s.sup.power)
    ∧ (∀ v, u.granted o k (0x1700 + w) 5 (leBytes 1 v) = true → ∃ s', exec (.wdtLock t o w v) s = .next s' ∧ s'.sup.wdts[w]? = some { x with lock := true } ∧ others s')
    ∧ (w = 0 → u.granted o k 0x1700 0x0D (leBytes 1 1) = true →
      (x.state = 1 → u.wdtSpent 0 = false → ∃ s', exec (.supDisable t o) s = .next s' ∧ s'.sup.wdts[0]? = some { x with state := 2, disArm := false } ∧ others s' ∧ s'.recorder = (u.ev 0x9003 (leBytes 1 0)).recorder)
      ∧ (x.state ≠ 1 ∨ u.wdtSpent 0 = true → ∃ s', exec (.supDisable t o) s = .next s' ∧ s'.sup = s.sup ∧ s'.recorder = s.recorder))
    ∧ (u.granted o k 0x1710 0x0E (leBytes 1 1) = true → ∃ s', exec (.evidenceClear t o) s = .next s' ∧ s'.sup = { s.sup with backup := { s.sup.backup with evidence := { e with valid := false } } })

/-- 15 R723 to R731, R735: SET puts the calendar at its value from the next tick on and clears OSF, synchronisation does so when it is more than 2 ms off; at its last second it stops; a lost oscillator sets OSF; a loss of the backup domain clears it; VBAT, measured every 10 s, gives VBAT_LOW and the STATE of its margin, and the supply follows its thresholds; BYTES holds what was written. That 0x1720 ticks from the next tick is 15 R729; that PTP counts from 1970 is the model's reading (log 61). -/
def Obligations.CalendarAndBackupAreKept : Prop :=
  ∀ (t k : Nat) (o : Origin) (s : State),
    let u := s.upTo t
    let b := s.sup.backup
    let now := max s.now t
    (∀ v ticks, v < 2 ^ 64 → u.granted o k 0x1720 2 (leBytes 8 v) = true → calendarTicks v = some ticks →
      ∃ s', exec (.rtcSet t o v) s = .next s' ∧ s'.clock = { s.clock with rtcBase := ticks, rtcAt := u.nextTick, rtcWas := u.rtcTicks, rtcEnd := false, osf := false, syncAt := some now } ∧ s'.sup.backup = { b with lastSet := u.time }
        ∧ s'.recorder = (({ u with clock := s'.clock } : State).ev 0x9010 (leBytes 1 1 ++ leBytes 8 (calendarWord u.rtcTicks))).recorder)
    ∧ (s.live = true → s.mode ≠ .boot → s.cfg 0x1720 4 = 1 → s.clock.ptpValid = true → 0 ≤ u.ptpTicks → (∀ a, s.clock.syncAt = some a → a + 60000000000 ≤ now) →
      let d := (u.ptpTicks - (u.rtcTicks : Int)).natAbs
      (d * 1000 ≤ 2 * 32768 → ∃ s', exec (.rtcSync t) s = .next s' ∧ s'.clock = { s.clock with syncAt := some now } ∧ s'.sup = s.sup)
      ∧ (2 * 32768 < d * 1000 → ∃ s', exec (.rtcSync t) s = .next s' ∧ s'.clock = { s.clock with rtcBase := min calendarEnd u.ptpTicks.toNat, rtcAt := now, rtcEnd := false, osf := false, syncAt := some now }
        ∧ s'.sup.backup = { b with lastSet := u.time } ∧ (d ≤ 32768 → s'.recorder = s.recorder)))
    ∧ (∀ a, s.clock.syncAt = some a → now < a + 60000000000 → exec (.rtcSync t) s = .next u)
    ∧ (s.clock.rtcEnd = false → u.rtcTicks = calendarEnd → ∃ s', exec (.calendarEnd t) s = .next s' ∧ s'.clock = { s.clock with rtcEnd := true } ∧ (s.live = false → s'.recorder = s.recorder))
    ∧ (∃ s', exec (.rtcOsf t) s = .next s' ∧ s'.clock = { s.clock with osf := true })
    ∧ (∃ s', exec (.backupLost t) s = .next s' ∧ s'.clock = { s.clock with rtcBase := 0, rtcAt := now, rtcEnd := false, osf := true } ∧ s'.sup.backup = { b with
        lost := true, tell := true, bytes := List.replicate 32 0, valid := false, evidence := { b.evidence with valid := false, count := 0, report := false }, hours := none, cycles := none, actPending := false })
    ∧ (u.granted o k 0x1720 7 (leBytes 1 1) = true → ∃ s', exec (.bkpLostClear t o) s = .next s' ∧ s'.sup = { s.sup with backup := { b with lost := false } } ∧ s'.clock = s.clock)
    ∧ (∀ data, u.granted o k 0x1721 1 data = true → ∃ s', exec (.backupBytesWrite t o data) s = .next s' ∧ s'.sup = { s.sup with backup := { b with bytes := data, valid := true } })
    ∧ (∀ mv, s.live = true → (∀ a, b.vbatAt = some a → a + 10000000000 ≤ now) →
      let low := decide (mv < 2500) || (b.vbatLow && !decide (2600 < mv))
      let w : State := { u with sup := { s.sup with backup := { b with vbat := mv, vbatAt := some now, vbatLow := low } } }
      exec (.vbatMeasure t mv) s = .next ((if low = true ∧ b.vbatLow = false then w.ev 0x9013 (leBytes 4 (f32Of ((mv : Rat) / 1000)).toNat) else w).marginJudge 5))
    ∧ ∀ vr vbat, ∃ s', exec (.backupSupplyChange t vr vbat) s = .next s'
        ∧ s'.sup = { s.sup with backup := { b with onBattery := if vr < vbat ∨ vr < 2600 then true else if vbat + 80 < vr ∧ 2680 < vr then false else b.onBattery } }

/-- 16 R738 to R743, R746; 13 R646: every operating hour HOURS is recorded and each quantity sampled, its trend and crossing give its STATE; a slack below 60 ps raises the core voltage by a step, ten at most and one in 600 s; a reference beyond 20 ppm is trimmed by its error within 1,000 ppm. -/
def Obligations.LedgerFollowsTheMargins : Prop :=
  ∀ (t : Nat) (s : State), s.live = true →
    let u := s.upTo t
    let l := s.sup.ledger
    (∀ values, s.mode ≠ .boot → l.hour < u.hours / 3600 →
      ∃ s', exec (.ledgerSample t values) s = .next s' ∧ s'.sup.ledger.hour = u.hours / 3600 ∧ ⟨5, 0, privSeq s.nvm.priv 5 0 + 1, 0, leBytes 8 u.hours, true⟩ ∈ s'.nvm.priv
        ∧ ∀ q m, q < 16 → q ≠ 4 → q ≠ 7 → l.items[q]? = some m →
          let worn := (l.retired.zip partitionSectors).any fun e => 2 * e.2 ≤ 100 * e.1
          let v : Rat := if q = 5 then (s.sup.backup.vbat : Rat) / 1000 else if 8 ≤ q then (s.field.aio.getD (q - 8) default).trim else if q = 2 ∧ worn = true then 36 else values.getD q m.value
          ∃ m', s'.sup.ledger.items[q]? = some m' ∧ m'.samples = (u.hours, v) :: m.samples.filter (fun e => u.hours < e.1 + 3600000) ∧ m'.trend = trendOf q id m'.samples
            ∧ m'.cross = crossing q (magnitude q v) (s.marginLimit q) (trendOf q (magnitude q) m'.samples) ∧ m'.state = marginState q (magnitude q v) (s.marginLimit q) m'.cross)
    ∧ (∀ values, u.hours / 3600 ≤ l.hour → exec (.ledgerSample t values) s = .next u)
    ∧ (∀ slack : Rat, slack < 60 → l.avsStep < 10 → (∀ a, l.avsAt = some a → a + 600000000000 ≤ max s.now t) →
      ∃ s', exec (.avsStep t slack) s = .next s' ∧ s'.sup.ledger.avsStep = l.avsStep + 1 ∧ s'.sup.ledger.avsAt = some (max s.now t)
        ∧ s'.nvm.priv = ⟨4, 0, privSeq s.nvm.priv 4 0 + 1, 0, leBytes 1 (l.avsStep + 1), true⟩ :: s.nvm.priv
        ∧ ∀ m, l.items[0]? = some m → ∃ m', s'.sup.ledger.items[0]? = some m' ∧ m'.value = slack ∧ m'.actions = holdMax 32 (m.actions + 1) ∧ m'.lastAction = u.time)
    ∧ (∀ slack : Rat, 60 ≤ slack ∨ 10 ≤ l.avsStep ∨ (∃ a, l.avsAt = some a ∧ max s.now t < a + 600000000000) → ∃ s', exec (.avsStep t slack) s = .next s' ∧ s'.sup = s.sup ∧ s'.nvm = s.nvm)
    ∧ ∀ ppm : Rat, 20 < absRat ppm →
      let trim := max (-1000) (min 1000 (l.refTrim - ppm))
      ∃ s', exec (.marginAction t ppm) s = .next s' ∧ s'.sup.ledger.refTrim = trim ∧ s'.nvm.priv = ⟨4, 1, privSeq s.nvm.priv 4 1 + 1, 0, leBytes 4 (f32Of trim).toNat, true⟩ :: s.nvm.priv
        ∧ ∀ m, l.items[6]? = some m → ∃ m', s'.sup.ledger.items[6]? = some m' ∧ m'.value = ppm ∧ m'.actions = holdMax 32 (m.actions + 1)

/-- 01 R36 to R38: the reset of a crossing's handshake counts the entries discarded and is recorded, once where a further reset restarts it; the module has crossings 1 to 12, and a command that names another one faults. 16 R750, R753, R754: a bucket gains a token at each of its grid instants, up to BURST, and what it suppressed is summarised by a record that no bucket limits; records leave for the archive in the order of SEQ, each to the slot of its number. -/
def Obligations.CrossingsAndRecorderKeepCount : Prop :=
  (∀ (t n k : Nat) (s : State),
    let u := s.upTo t
    (∀ c, 1 ≤ n → n ≤ 12 → s.live = true → s.crossings[n - 1]? = some c →
      let all := s.carried.getD (n - 1) 0 + k
      let counted (s' : State) := s'.crossings[n - 1]? = some (holdMax 32 (c + k)) ∧ ∀ j, j ≠ n - 1 → s'.crossings[j]? = s.crossings[j]?
      (u.restarts n = false → ∃ s', exec (.crossingResync t n k) s = .next s' ∧ counted s' ∧ s'.carried = s.carried.set (n - 1) 0 ∧ s'.resyncs = holdMax 32 (s.resyncs + 1)
        ∧ s'.recorder = (u.ev 0x1041 (leBytes 1 n ++ leBytes 4 (holdMax 32 all))).recorder)
      ∧ (u.restarts n = true → ∃ s', exec (.crossingResync t n k) s = .next s' ∧ counted s' ∧ s'.carried = s.carried.set (n - 1) all ∧ s'.resyncs = s.resyncs ∧ s'.recorder = s.recorder))
    ∧ (n = 0 ∨ 12 < n → exec (.crossingResync t n k) s = .fault (.noUnit "crossing" n)))
  ∧ ∀ (t : Nat) (s : State), s.live = true →
    let u := s.upTo t
    let r := s.recorder
    (∀ n b, n < 256 → r.buckets[n]? = some b → 
      let due := b.code ≠ 0 ∧ b.interval ≠ 0 ∧ u.mono % (b.interval * 1000000) < 2 ∧ b.added + 2 ≤ u.mono
      let put (f : Bucket → Bucket) : State := { u with recorder := { r with buckets := r.buckets.modify n f } }
      (¬ due → exec (.tokenAdd t n) s = .next u)
      ∧ (due → b.burst ≤ b.tokens → exec (.tokenAdd t n) s = .next (put fun b => { b with added := u.mono }))
      ∧ (due → b.tokens < b.burst → b.suppressed = 0 → exec (.tokenAdd t n) s = .next (put fun b => { b with added := u.mono, tokens := b.tokens + 1 }))
      ∧ (due → b.tokens < b.burst → b.suppressed ≠ 0 → exec (.tokenAdd t n) s = .next ((put fun b => { b with added := u.mono, tokens := b.tokens + 1, suppressed := 0, first := 0 }).enter
          (u.stampEvent 0xF001 (leBytes 2 b.code ++ leBytes 4 b.suppressed ++ leBytes 8 b.first)))))
    ∧ (∀ e, r.archNext < r.next → r.ring[r.next - 1 - r.archNext]? = some e →
      ∃ s', exec (.archiveCopy t) s = .next s' ∧ s'.recorder.archNext = r.archNext + 1 ∧ s'.recorder.archive.head? = some (r.archNext % 1048576, e) ∧ s'.recorder.ring = r.ring ∧ s'.recorder.next = r.next
        ∧ ∀ x ∈ r.archive, x.1 / 1024 ≠ r.archNext % 1048576 / 1024 → x ∈ s'.recorder.archive)
    ∧ (r.next ≤ r.archNext → ∃ s', exec (.archiveCopy t) s = .next s' ∧ s'.recorder = r)

/-- 17 R766, R780 to R783; 02 R64: CASE is kept with its peak, warned of after 10 s within 5 K of its limit until it has fallen by 8 K, and recorded when it goes above; an encoder supply that overloads is switched off, the inputs that it feeds fault, which a standby shadows, and 1 s later it is switched on. -/
def Obligations.TemperatureAndSuppliesAreWatched : Prop :=
  ∀ (t : Nat) (s : State), s.live = true →
    let u := s.upTo t
    let x := s.sup.thermal
    (∀ (c j : Int) pVa pModule venc, (∀ a, x.caseAt = some a → a + 1000000000 ≤ max s.now t) →
      let hot := if caseLimit - 5000 ≤ c then some (x.hotAt.getD (max s.now t)) else none
      let due : Prop := caseLimit - 5000 ≤ c ∧ x.hotAt.getD (max s.now t) + 10000000000 ≤ max s.now t ∧ x.warned = false
      ∃ s', exec (.caseMeasure t c j pVa pModule venc) s = .next s' ∧ s'.sup.thermal.case_ = c ∧ s'.sup.thermal.caseAt = some (max s.now t) ∧ s'.sup.thermal.peak = some (match x.peak with | some p => max p c | none => c) ∧ s'.sup.thermal.hotAt = hot
        ∧ s'.sup.thermal.above = decide (caseLimit < c) ∧ s'.sup.thermal.junction = j ∧ s'.sup.thermal.pVa = pVa ∧ s'.sup.thermal.pModule = pModule ∧ s'.sup.thermal.venc = venc
        ∧ (due → s'.sup.thermal.warned = true) ∧ (x.warned = true → (s'.sup.thermal.warned = true ↔ caseLimit - 8000 ≤ c)) ∧ (¬ due → x.warned = false → s'.sup.thermal.warned = false)
        ∧ (due → c ≤ caseLimit → s'.recorder = (u.ev 0x9030 (leBytes 4 (f32Of ((c : Rat) / 1000)).toNat)).recorder)
        ∧ (caseLimit < c → x.above = false → ¬ due → s'.recorder = (u.ev 0x9031 (leBytes 4 (f32Of ((c : Rat) / 1000)).toNat ++ leBytes 1 1)).recorder))
    ∧ (∀ m, m < 4 →
      (∀ fed reading, bitAt x.vencOff m = false → s.clear t →
        ∃ s', exec (.vencOverload t m fed reading) s = .next s' ∧ s'.sup.thermal.vencOff = setBit x.vencOff m true ∧ .venc m false (max s.now t) ∈ s'.outbox
          ∧ (∀ n e, n < 8 → bitAt fed n = true → s.encMode n ≠ 0 → s.line.encs[n]? = some e →
            ∃ e', s'.line.encs[n]? = some e' ∧ e'.low = Nat.lor e.low (s.pairsInUse n) ∧ (s.base ≠ .standby → e'.faulted = true) ∧ e'.ssiErr = if bitAt reading n = true ∧ s.encMode n = 2 then holdMax 32 (e.ssiErr + 1) else e.ssiErr)
          ∧ (∀ n, n < 8 → bitAt fed n = false ∨ s.encMode n = 0 → s'.line.encs[n]? = s.line.encs[n]?))
      ∧ (∀ a, bitAt x.vencOff m = true → x.vencAt[m]? = some a → a + 1000000000 ≤ max s.now t →
        ∃ s', exec (.vencRestore t m) s = .next s' ∧ s'.sup.thermal.vencOff = setBit x.vencOff m false ∧ s'.outbox = .venc m true (max s.now t) :: s.outbox
          ∧ s'.recorder = (u.ev 0x9032 (leBytes 1 m ++ leBytes 1 0)).recorder ∧ s'.line = s.line))

/-- 04 R208, R212, R238 to R242; 01 R25: MASK, VALUE and CLEAR_ALL wait for the next major Landing and change no table before; DATA written through a window stands in the live Hall at once, but where an output is forced; a read of DATA answers one snapshot with its time, of the points as they stood before the writes of its core clock (R24). -/
def Obligations.HallIsForcedAndSeen : Prop :=
  ∀ (t k : Nat) (o : Origin) (s : State),
    let u := s.upTo t
    let sp := (forceSpace (s.selOf k 0x2340 1)).getD .hi
    let off := s.selOf k 0x2340 2
    (∀ data, u.granted o k 0x2340 3 data = true → ∃ s', exec (.forceMask t o data) s = .next s' ∧ s'.staged = s.staged ++ [⟨0x2340, 3, .force (.mask sp off data), none, some (max s.now t)⟩] ∧ s'.hall = s.hall)
    ∧ (∀ data, u.granted o k 0x2340 4 data = true → ∃ s', exec (.forceValue t o data) s = .next s' ∧ s'.staged = s.staged ++ [⟨0x2340, 4, .force (.value sp off data), none, some (max s.now t)⟩] ∧ s'.hall = s.hall)
    ∧ (u.granted o k 0x1120 5 (leBytes 1 1) = true → ∃ s', exec (.clearAll t o) s = .next s' ∧ s'.staged = s.staged ++ [⟨0x1120, 5, .force .clear, none, some (max s.now t)⟩] ∧ s'.hall = s.hall)
    ∧ ∀ w, w < 16 →
      let x := s.window w
      (∀ data, u.granted o k (0x2310 + w) 5 data = true → ∀ z, spaceOf x.space = some z →
        ∃ s', exec (.hallWinWrite t o w data) s = .next s' ∧ s'.hall = (u.putRange ⟨z, x.off, x.len⟩ data).hall ∧ s'.staged = s.staged)
      ∧ (∀ z, u.accepts o = some k → spaceOf x.space = some z → windowFits z x = true → ((u.asked o k).windowData z x).length ≤ 1396 →
        ∃ s', exec (.hallWinRead t o w) s = .next s' ∧ s'.hall = { s.hall with windows := s.hall.windows.modify w fun x => { x with stamp := u.time } }
          ∧ (s'.sess k).cache.head? = some (o.seq, s'.sessionMsg k 0x82 0 o.seq .ok (leBytes 2 (0x2310 + w) ++ leBytes 1 5 ++ leBytes 1 13 ++ (u.asked o k).windowData z x)) ∧ o.seq ∉ (s'.sess k).open_)
end

