-- ==== Sys2Proof/Laws/Outside.lean ====
section
/-! SUPPORT. Agreement of states outside a set of parts: updates of a part in the set leave it, and so does what is built from them. -/
namespace Sys2Proof.Machine
variable {W : Parts}

@[simp] theorem outside_pending (h : W.pending = true) (s : State) (x) : State.outside W { s with pending := x } = s.outside W := by
  simp [State.outside, h]
@[simp] theorem outside_now (h : W.now = true) (s : State) (x) : State.outside W { s with now := x } = s.outside W := by
  simp [State.outside, h]
@[simp] theorem outside_bootAt (h : W.bootAt = true) (s : State) (x) : State.outside W { s with bootAt := x } = s.outside W := by
  simp [State.outside, h]
@[simp] theorem outside_fresh (h : W.fresh = true) (s : State) (x) : State.outside W { s with fresh := x } = s.outside W := by
  simp [State.outside, h]
@[simp] theorem outside_outbox (h : W.outbox = true) (s : State) (x) : State.outside W { s with outbox := x } = s.outside W := by
  simp [State.outside, h]
@[simp] theorem outside_mode (h : W.mode = true) (s : State) (x) : State.outside W { s with mode := x } = s.outside W := by
  simp [State.outside, h]
@[simp] theorem outside_inReset (h : W.inReset = true) (s : State) (x) : State.outside W { s with inReset := x } = s.outside W := by
  simp [State.outside, h]
@[simp] theorem outside_clock (h : W.clock = true) (s : State) (x) : State.outside W { s with clock := x } = s.outside W := by
  simp [State.outside, h]
@[simp] theorem outside_params (h : W.params = true) (s : State) (x) : State.outside W { s with params := x } = s.outside W := by
  simp [State.outside, h]
@[simp] theorem outside_staged (h : W.staged = true) (s : State) (x) : State.outside W { s with staged := x } = s.outside W := by
  simp [State.outside, h]
@[simp] theorem outside_recorder (h : W.recorder = true) (s : State) (x) : State.outside W { s with recorder := x } = s.outside W := by
  simp [State.outside, h]
@[simp] theorem outside_crossings (h : W.crossings = true) (s : State) (x) : State.outside W { s with crossings := x } = s.outside W := by
  simp [State.outside, h]
@[simp] theorem outside_carried (h : W.carried = true) (s : State) (x) : State.outside W { s with carried := x } = s.outside W := by
  simp [State.outside, h]
@[simp] theorem outside_resyncs (h : W.resyncs = true) (s : State) (x) : State.outside W { s with resyncs := x } = s.outside W := by
  simp [State.outside, h]
@[simp] theorem outside_line (h : W.line = true) (s : State) (x) : State.outside W { s with line := x } = s.outside W := by
  simp [State.outside, h]
@[simp] theorem outside_treads (h : W.treads = true) (s : State) (x) : State.outside W { s with treads := x } = s.outside W := by
  simp [State.outside, h]
@[simp] theorem outside_hall (h : W.hall = true) (s : State) (x) : State.outside W { s with hall := x } = s.outside W := by
  simp [State.outside, h]
@[simp] theorem outside_tasks (h : W.tasks = true) (s : State) (x) : State.outside W { s with tasks := x } = s.outside W := by
  simp [State.outside, h]
@[simp] theorem outside_plans (h : W.plans = true) (s : State) (x) : State.outside W { s with plans := x } = s.outside W := by
  simp [State.outside, h]
@[simp] theorem outside_loops (h : W.loops = true) (s : State) (x) : State.outside W { s with loops := x } = s.outside W := by
  simp [State.outside, h]
@[simp] theorem outside_dsp (h : W.dsp = true) (s : State) (x) : State.outside W { s with dsp := x } = s.outside W := by
  simp [State.outside, h]
@[simp] theorem outside_field (h : W.field = true) (s : State) (x) : State.outside W { s with field := x } = s.outside W := by
  simp [State.outside, h]
@[simp] theorem outside_net (h : W.net = true) (s : State) (x) : State.outside W { s with net := x } = s.outside W := by
  simp [State.outside, h]
@[simp] theorem outside_cans (h : W.cans = true) (s : State) (x) : State.outside W { s with cans := x } = s.outside W := by
  simp [State.outside, h]
@[simp] theorem outside_pair (h : W.pair = true) (s : State) (x) : State.outside W { s with pair := x } = s.outside W := by
  simp [State.outside, h]
@[simp] theorem outside_nvm (h : W.nvm = true) (s : State) (x) : State.outside W { s with nvm := x } = s.outside W := by
  simp [State.outside, h]
@[simp] theorem outside_sup (h : W.sup = true) (s : State) (x) : State.outside W { s with sup := x } = s.outside W := by
  simp [State.outside, h]
@[simp] theorem outside_fuses (h : W.fuses = true) (s : State) (x) : State.outside W { s with fuses := x } = s.outside W := by
  simp [State.outside, h]

@[simp] theorem outside_crossings_resyncs (h : W.crossings = true) (h' : W.resyncs = true) (s : State) (x) (y) :
    State.outside W { s with crossings := x, resyncs := y } = s.outside W := by
  simp [State.outside, h, h']

@[simp] theorem outside_treads_tasks (h : W.treads = true) (h' : W.tasks = true) (s : State) (x) (y) :
    State.outside W { s with treads := x, tasks := y } = s.outside W := by
  simp [State.outside, h, h']

@[simp] theorem outside_when (s : State) (c : Bool) (f : State → State) (h : ∀ t, (f t).outside W = t.outside W) :
    (s.when c f).outside W = s.outside W := by
  unfold State.when; split <;> simp [h]
theorem outside_when_at (s : State) (c : Bool) (f : State → State) (h : c = true → (f s).outside W = s.outside W) :
    (s.when c f).outside W = s.outside W := by
  unfold State.when; split <;> simp_all
@[simp] theorem outside_foldl {α : Type} (l : List α) (f : State → α → State) (h : ∀ t a, (f t a).outside W = t.outside W) (s : State) :
    (l.foldl f s).outside W = s.outside W := by
  induction l generalizing s with
  | nil => rfl
  | cons a l ih => simp [ih, h]
@[simp] theorem outside_ite (c : Prop) [Decidable c] (a b : State) :
    (if c then a else b).outside W = if c then a.outside W else b.outside W := apply_ite _ c a b
@[simp] theorem outside_fst_ite {α : Type} (c : Prop) [Decidable c] (a b : State × α) :
    (if c then a else b).1.outside W = if c then a.1.outside W else b.1.outside W := by split <;> rfl

theorem outside_foldl_fst {α β : Type} (l : List α) (f : State × β → α → State × β)
    (h : ∀ t a, (f t a).1.outside W = t.1.outside W) (p : State × β) : (l.foldl f p).1.outside W = p.1.outside W := by
  induction l generalizing p with
  | nil => rfl
  | cons a l ih => simp [ih, h]

end Sys2Proof.Machine
end

