-- ==== Sys2Proof/Laws/OpsFrame.lean ====
section
/-! SUPPORT. What each operation of Machine/Ops.lean leaves as it was: everything outside the parts that its lemma names. -/
namespace Sys2Proof.Machine
set_option linter.unusedSimpArgs false
variable {W : Parts}

@[simp] theorem State.setVal_outside (h_params : W.params = true) (s : State) (idx sub : Nat) (v : Val) :
    (State.setVal s idx sub v).outside W = s.outside W := by
  unfold State.setVal; simp [h_params]

@[simp] theorem State.spend_outside (h_fresh : W.fresh = true) (s : State) :
    (State.spend s).outside W = s.outside W := by
  unfold State.spend; simp [h_fresh]

@[simp] theorem State.enter_outside (h_recorder : W.recorder = true) (s : State) (e : EventRec) :
    (State.enter s e).outside W = s.outside W := by
  unfold State.enter; simp [h_recorder]

@[simp] theorem State.tokenAdd_outside (h_recorder : W.recorder = true) (s : State) (n : Nat) :
    (State.tokenAdd s n).outside W = s.outside W := by
  unfold State.tokenAdd; simp [h_recorder]

@[simp] theorem State.tokenFirst_outside (h_recorder : W.recorder = true) (s : State) (i : Nat) :
    (State.tokenFirst s i).outside W = s.outside W := by
  unfold State.tokenFirst; simp [h_recorder]

@[simp] theorem State.occur_outside (h_recorder : W.recorder = true) (s : State) (e : EventRec) :
    (State.occur s e).outside W = s.outside W := by
  unfold State.occur; ((try dsimp only); repeat' split) <;> simp [h_recorder]

@[simp] theorem State.ev_outside (h_recorder : W.recorder = true) (s : State) (code : Nat) (data : Bytes) :
    (State.ev s code data).outside W = s.outside W := by
  unfold State.ev; simp [h_recorder]

@[simp] theorem State.emit_outside (h_outbox : W.outbox = true) (s : State) (e : Emission) :
    (State.emit s e).outside W = s.outside W := by
  unfold State.emit; simp [h_outbox]

@[simp] theorem State.send_outside (h_outbox : W.outbox = true) (h_pair : W.pair = true) (s : State) (cls : Nat) (m : CorMsg) :
    (State.send s cls m).outside W = s.outside W := by
  unfold State.send; simp [h_outbox, h_pair]

@[simp] theorem State.forward_outside (h_outbox : W.outbox = true) (h_pair : W.pair = true) (s : State) (i : FwdItem) :
    (State.forward s i).outside W = s.outside W := by
  unfold State.forward; simp [h_outbox, h_pair]

@[simp] theorem State.result_outside (h_pair : W.pair = true) (s : State) (cls : Nat) (b : Bytes) :
    (State.result s cls b).outside W = s.outside W := by
  unfold State.result; simp [h_pair]

@[simp] theorem State.lagged_outside (h_now : W.now = true) (s : State) (f : State → State) (h : ∀ t, (f t).outside W = t.outside W) :
    (s.lagged f).outside W = s.outside W := by
  unfold State.lagged; split <;> simp [h, h_now]

@[simp] theorem State.shadow_outside (h_pair : W.pair = true) (s : State) (i : FwdItem) :
    (State.shadow s i).outside W = s.outside W := by
  unfold State.shadow; simp [h_pair]

@[simp] theorem State.sensed_outside (h_pair : W.pair = true) (s : State) (i : FwdItem) (f : State → State)
    (h : ∀ t, (f t).outside W = t.outside W) : (s.sensed i f).outside W = s.outside W := by
  unfold State.sensed; split <;> simp [h, h_pair]

@[simp] theorem State.resync_outside (h_carried : W.carried = true) (h_crossings : W.crossings = true) (h_recorder : W.recorder = true) (h_resyncs : W.resyncs = true) (s : State) (n k : Nat) :
    (State.resync s n k).outside W = s.outside W := by
  unfold State.resync
  dsimp only
  split <;> (try rw [State.ev_outside h_recorder]) <;> simp [State.outside, h_carried, h_crossings, h_resyncs]

@[simp] theorem State.occurrence_outside (h_tasks : W.tasks = true) (s : State) (kind arg : Nat) :
    (State.occurrence s kind arg).outside W = s.outside W := by
  unfold State.occurrence; ((try dsimp only); repeat' split) <;> simp [h_tasks]

end Sys2Proof.Machine
end

