-- ==== Sys2Proof/Laws/SourcesFrame.lean ====
section
/-! SUPPORT. What each operation of Machine/Sources.lean leaves as it was: everything outside the parts that its lemma names. -/
namespace Sys2Proof.Machine
set_option linter.unusedSimpArgs false
variable {W : Parts}

@[simp] theorem State.updEnc_outside (h_line : W.line = true) (s : State) (n : Nat) (f : Enc → Enc) :
    (State.updEnc s n f).outside W = s.outside W := by
  unfold State.updEnc; simp [h_line]

@[simp] theorem State.updSrc_outside (h_line : W.line = true) (s : State) (i : Nat) (f : Src → Src) :
    (State.updSrc s i f).outside W = s.outside W := by
  unfold State.updSrc; simp [h_line]

@[simp] theorem State.loseSource_outside (h_line : W.line = true) (h_recorder : W.recorder = true) (s : State) (i : Nat) :
    (State.loseSource s i).outside W = s.outside W := by
  unfold State.loseSource; simp [h_line, h_recorder]

@[simp] theorem State.recoverSource_outside (h_line : W.line = true) (h_recorder : W.recorder = true) (s : State) (i n : Nat) :
    (State.recoverSource s i n).outside W = s.outside W := by
  unfold State.recoverSource; simp [h_line, h_recorder]

@[simp] theorem State.refreshSource_outside (h_line : W.line = true) (h_recorder : W.recorder = true) (s : State) (i : Nat) :
    (State.refreshSource s i).outside W = s.outside W := by
  unfold State.refreshSource; simp [h_line, h_recorder]

@[simp] theorem State.refreshSources_outside (h_line : W.line = true) (h_recorder : W.recorder = true) (s : State) :
    (State.refreshSources s).outside W = s.outside W := by
  unfold State.refreshSources; simp [h_line, h_recorder]

@[simp] theorem State.faultEnc_outside (h_line : W.line = true) (h_recorder : W.recorder = true) (s : State) (n : Nat) :
    (State.faultEnc s n).outside W = s.outside W := by
  unfold State.faultEnc; simp [h_line, h_recorder]

@[simp] theorem State.checkSlip_outside (h_line : W.line = true) (h_recorder : W.recorder = true) (s : State) (i : Nat) :
    (State.checkSlip s i).outside W = s.outside W := by
  unfold State.checkSlip; simp [h_line, h_recorder]

@[simp] theorem State.moveLpc_outside (h_line : W.line = true) (h_recorder : W.recorder = true) (s : State) (i : Nat) (d : Int) :
    (State.moveLpc s i d).outside W = s.outside W := by
  unfold State.moveLpc; simp [h_line, h_recorder]

@[simp] theorem State.fuse_outside (h_line : W.line = true) (h_recorder : W.recorder = true) (s : State) (i n : Nat) (inc : Int) (pin : Nat) :
    (State.fuse s i n inc pin).outside W = s.outside W := by
  unfold State.fuse; simp [h_line, h_recorder]

@[simp] theorem State.countStep_outside (h_line : W.line = true) (h_recorder : W.recorder = true) (s : State) (n : Nat) (c : Int) (pin : Nat) :
    (State.countStep s n c pin).outside W = s.outside W := by
  unfold State.countStep; simp [h_line, h_recorder]

@[simp] theorem State.loadAbsolute_outside (h_line : W.line = true) (h_recorder : W.recorder = true) (s : State) (i n : Nat) (v : Nat) :
    (State.loadAbsolute s i n v).outside W = s.outside W := by
  unfold State.loadAbsolute; simp [h_line, h_recorder]

@[simp] theorem State.discardSsi_outside (h_line : W.line = true) (h_recorder : W.recorder = true) (s : State) (n cause : Nat) :
    (State.discardSsi s n cause).outside W = s.outside W := by
  unfold State.discardSsi; simp [h_line, h_recorder]

@[simp] theorem State.ssiRead_outside (h_line : W.line = true) (h_recorder : W.recorder = true) (s : State) (n t0 raw : Nat) (err par : Bool) :
    (State.ssiRead s n t0 raw err par).outside W = s.outside W := by
  unfold State.ssiRead; ((try dsimp only); repeat' split) <;> simp [h_line, h_recorder]

@[simp] theorem State.publish_outside (h_line : W.line = true) (s : State) (i : Nat) :
    (State.publish s i).outside W = s.outside W := by
  unfold State.publish; simp [h_line]

@[simp] theorem State.checkSpeed_outside (h_line : W.line = true) (h_recorder : W.recorder = true) (s : State) (i : Nat) :
    (State.checkSpeed s i).outside W = s.outside W := by
  unfold State.checkSpeed; simp [h_line, h_recorder]

@[simp] theorem State.follow_outside (h_line : W.line = true) (h_recorder : W.recorder = true) (s : State) (i : Nat) :
    (State.follow s i).outside W = s.outside W := by
  unfold State.follow; (repeat' split) <;> simp only [outside_ite, outside_fst_ite, ite_self, outside_when, outside_foldl, implies_true, forall_const, outside_line, outside_recorder, State.moveLpc_outside, State.updSrc_outside, h_line, h_recorder]

@[simp] theorem State.estimate_outside (h_line : W.line = true) (h_recorder : W.recorder = true) (s : State) (i : Nat) :
    (State.estimate s i).outside W = s.outside W := by
  unfold State.estimate; ((try dsimp only); repeat' split) <;> simp [h_line, h_recorder]

@[simp] theorem State.reverseByV_outside (h_line : W.line = true) (s : State) (i : Nat) :
    (State.reverseByV s i).outside W = s.outside W := by
  unfold State.reverseByV; simp [h_line]

@[simp] theorem State.estimatorTick_outside (h_line : W.line = true) (h_recorder : W.recorder = true) (s : State) (i : Nat) :
    (State.estimatorTick s i).outside W = s.outside W := by
  unfold State.estimatorTick; simp [h_line, h_recorder]

@[simp] theorem State.readmitWrite_outside (h_line : W.line = true) (h_recorder : W.recorder = true) (s : State) (i mask : Nat) :
    (State.readmitWrite s i mask).outside W = s.outside W := by
  unfold State.readmitWrite; simp [h_line, h_recorder]

@[simp] theorem State.startEnc_outside (h_line : W.line = true) (h_outbox : W.outbox = true) (h_recorder : W.recorder = true) (s : State) (n : Nat) :
    (State.startEnc s n).outside W = s.outside W := by
  unfold State.startEnc; simp [h_line, h_outbox, h_recorder]

@[simp] theorem State.enableSource_outside (h_line : W.line = true) (h_recorder : W.recorder = true) (s : State) (i : Nat) (on : Bool) :
    (State.enableSource s i on).outside W = s.outside W := by
  unfold State.enableSource; simp [h_line, h_recorder]

@[simp] theorem State.quadError_outside (h_line : W.line = true) (h_recorder : W.recorder = true) (s : State) (n : Nat) :
    (State.quadError s n).outside W = s.outside W := by
  unfold State.quadError; simp [h_line, h_recorder]

@[simp] theorem State.quadLevels_outside (h_line : W.line = true) (h_outbox : W.outbox = true) (h_pair : W.pair = true) (h_recorder : W.recorder = true) (s : State) (n t : Nat) (a b : Bool) :
    (State.quadLevels s n t a b).outside W = s.outside W := by
  unfold State.quadLevels; simp [h_line, h_outbox, h_pair, h_recorder]

@[simp] theorem State.takeCount_outside (h_line : W.line = true) (h_outbox : W.outbox = true) (h_pair : W.pair = true) (h_recorder : W.recorder = true) (s : State) (c : Instr) : (s.takeCount c).outside W = s.outside W := by
  unfold State.takeCount; split
  · split <;> simp [*]
  · rfl

@[simp] theorem State.takeCounts_outside (h_line : W.line = true) (h_outbox : W.outbox = true) (h_pair : W.pair = true) (h_recorder : W.recorder = true) (s : State) (clock : Nat → Nat) (mask : Nat) :
    (State.takeCounts s clock mask).outside W = s.outside W := by
  unfold State.takeCounts; exact outside_foldl _ _ (fun t c => by simp [h_line, h_outbox, h_pair, h_recorder]) _

end Sys2Proof.Machine
end

