-- ==== Sys2Proof/Laws/TreadsFrame.lean ====
section
/-! SUPPORT. What each operation of Machine/Treads.lean leaves as it was: everything outside the parts that its lemma names. -/
namespace Sys2Proof.Machine
set_option linter.unusedSimpArgs false
variable {W : Parts}

@[simp] theorem State.updFlight_outside (h_treads : W.treads = true) (s : State) (f : Nat) (g : Flight → Flight) :
    (State.updFlight s f g).outside W = s.outside W := by
  unfold State.updFlight; simp [h_treads]

@[simp] theorem State.updTsrc_outside (h_treads : W.treads = true) (s : State) (i : Nat) (g : TreadSrc → TreadSrc) :
    (State.updTsrc s i g).outside W = s.outside W := by
  unfold State.updTsrc; simp [h_treads]

@[simp] theorem State.updTrg_outside (h_treads : W.treads = true) (s : State) (c : Nat) (g : Trg → Trg) :
    (State.updTrg s c g).outside W = s.outside W := by
  unfold State.updTrg; simp [h_treads]

@[simp] theorem State.judgeHeadAt_outside (h_treads : W.treads = true) (s : State) (src t : Nat) :
    (State.judgeHeadAt s src t).outside W = s.outside W := by
  unfold State.judgeHeadAt; simp [h_treads]

@[simp] theorem State.judgeHead_outside (h_treads : W.treads = true) (s : State) (src : Nat) :
    (State.judgeHead s src).outside W = s.outside W := by
  unfold State.judgeHead; simp [h_treads]

@[simp] theorem State.enterWindow_outside (h_treads : W.treads = true) (s : State) (src f i t : Nat) :
    (State.enterWindow s src f i t).outside W = s.outside W := by
  unfold State.enterWindow; simp [h_treads]

@[simp] theorem State.fillWindow_outside (h_treads : W.treads = true) (src n : Nat) (s : State) :
    (State.fillWindow src n s).outside W = s.outside W := by
  induction n generalizing s with
  | zero => rfl
  | succ n ih =>
    unfold State.fillWindow
    split
    · rfl
    · split
      · rfl
      · split
        · rfl
        · dsimp only; rw [ih]; simp [*]

@[simp] theorem State.fillNow_outside (h_treads : W.treads = true) (s : State) (src : Nat) :
    (State.fillNow s src).outside W = s.outside W := by
  unfold State.fillNow; simp [h_treads]

@[simp] theorem State.refill_outside (h_treads : W.treads = true) (s : State) (src : Nat) :
    (State.refill s src).outside W = s.outside W := by
  unfold State.refill; (repeat' split) <;> simp only [outside_ite, outside_fst_ite, ite_self, outside_when, outside_foldl, implies_true, forall_const, outside_treads, State.enterWindow_outside, h_treads]

@[simp] theorem State.startFlight_outside (h_treads : W.treads = true) (s : State) (src f : Nat) (anchored : Option Nat) :
    (State.startFlight s src f anchored).outside W = s.outside W := by
  unfold State.startFlight; ((try dsimp only); repeat' split) <;> simp [h_treads]

@[simp] theorem State.startQueued_outside (h_treads : W.treads = true) (s : State) (src : Nat) :
    (State.startQueued s src).outside W = s.outside W := by
  unfold State.startQueued; ((try dsimp only); repeat' split) <;> simp [h_treads]

@[simp] theorem State.skipAnchor_outside (h_recorder : W.recorder = true) (h_treads : W.treads = true) (s : State) (f : Nat) (pos : Dword) :
    (State.skipAnchor s f pos).outside W = s.outside W := by
  unfold State.skipAnchor; simp [h_recorder, h_treads]

@[simp] theorem State.miss_outside (h_treads : W.treads = true) (s : State) (f n : Nat) :
    (State.miss s f n).outside W = s.outside W := by
  unfold State.miss; simp [h_treads]

@[simp] theorem State.abortRun_outside (h_recorder : W.recorder = true) (h_treads : W.treads = true) (s : State) (src f : Nat) :
    (State.abortRun s src f).outside W = s.outside W := by
  unfold State.abortRun; simp [h_recorder, h_treads]

@[simp] theorem State.anchorFlight_outside (h_recorder : W.recorder = true) (h_treads : W.treads = true) (s : State) (f : Nat) (pos : Dword) :
    (State.anchorFlight s f pos).outside W = s.outside W := by
  unfold State.anchorFlight; ((try dsimp only); repeat' split) <;> simp [h_recorder, h_treads]

@[simp] theorem State.chainFrom_outside (h_recorder : W.recorder = true) (h_treads : W.treads = true) (s : State) (f : Nat) (pos : Nat → Dword) :
    (State.chainFrom s f pos).outside W = s.outside W := by
  unfold State.chainFrom; simp [h_recorder, h_treads]

@[simp] theorem State.flightDone_outside (h_recorder : W.recorder = true) (h_tasks : W.tasks = true) (h_treads : W.treads = true) (s : State) (f : Nat) (last : Dword) :
    (State.flightDone s f last).outside W = s.outside W := by
  unfold State.flightDone; simp [h_recorder, h_tasks, h_treads]

@[simp] theorem State.completeEmpty_outside (h_recorder : W.recorder = true) (h_tasks : W.tasks = true) (h_treads : W.treads = true) (s : State) (f : Nat) :
    (State.completeEmpty s f).outside W = s.outside W := by
  unfold State.completeEmpty; simp [h_recorder, h_tasks, h_treads]

@[simp] theorem State.armFlight_outside (h_recorder : W.recorder = true) (h_tasks : W.tasks = true) (h_treads : W.treads = true) (s : State) (f : Nat) (self : Bool) :
    (State.armFlight s f self).outside W = s.outside W := by
  unfold State.armFlight; simp [h_recorder, h_tasks, h_treads]

@[simp] theorem State.completeOnce_outside (h_recorder : W.recorder = true) (h_tasks : W.tasks = true) (h_treads : W.treads = true) (s : State) (src f : Nat) (last : Dword) :
    (State.completeOnce s src f last).outside W = s.outside W := by
  unfold State.completeOnce; simp [h_recorder, h_tasks, h_treads]

@[simp] theorem State.settleRun_outside (h_recorder : W.recorder = true) (h_tasks : W.tasks = true) (h_treads : W.treads = true) (src n : Nat) (s : State) :
    (State.settleRun src n s).outside W = s.outside W := by
  induction n generalizing s with
  | zero => rfl
  | succ n ih =>
    unfold State.settleRun
    split
    · split
      · rw [ih]; simp [*]
      · rfl
    · rfl

@[simp] theorem State.completeRun_outside (h_recorder : W.recorder = true) (h_tasks : W.tasks = true) (h_treads : W.treads = true) (s : State) (src f : Nat) (last : Dword) :
    (State.completeRun s src f last).outside W = s.outside W := by
  unfold State.completeRun; simp [h_recorder, h_tasks, h_treads]

@[simp] theorem State.flCommand_outside (h_recorder : W.recorder = true) (h_tasks : W.tasks = true) (h_treads : W.treads = true) (s : State) (f cmd : Nat) :
    (State.flCommand s f cmd).outside W = s.outside W := by
  unfold State.flCommand; ((try dsimp only); repeat' split) <;> simp [h_recorder, h_tasks, h_treads]

@[simp] theorem State.armfTo_outside (h_recorder : W.recorder = true) (h_tasks : W.tasks = true) (h_treads : W.treads = true) (s : State) (c : Nat) :
    (State.armfTo s c).outside W = s.outside W := by
  unfold State.armfTo; simp [h_recorder, h_tasks, h_treads]

@[simp] theorem State.flCmdWrite_outside (h_recorder : W.recorder = true) (h_tasks : W.tasks = true) (h_treads : W.treads = true) (s : State) (f cmd : Nat) :
    (State.flCmdWrite s f cmd).outside W = s.outside W := by
  unfold State.flCmdWrite; simp [h_recorder, h_tasks, h_treads]

@[simp] theorem State.stopFlights_outside (h_recorder : W.recorder = true) (h_treads : W.treads = true) (s : State) :
    (State.stopFlights s).outside W = s.outside W := by
  unfold State.stopFlights; (try dsimp only); (repeat' first | rfl | intro _ | (simp [h_recorder, h_treads]; done) | split | rw [outside_foldl] | simp [h_recorder, h_treads])

@[simp] theorem State.anchorEvent_outside (h_recorder : W.recorder = true) (h_treads : W.treads = true) (s : State) (kind arg : Nat) (pos : State → Nat → Dword) :
    (s.anchorEvent kind arg pos).outside W = s.outside W := by
  unfold State.anchorEvent; refine outside_foldl _ _ (fun t f => ?_) _; split <;> simp [*]

@[simp] theorem State.dropFirings_outside (h_recorder : W.recorder = true) (h_treads : W.treads = true) (s : State) (f cause : Nat) (e : WinEnt) (k : Nat) :
    (State.dropFirings s f cause e k).outside W = s.outside W := by
  unfold State.dropFirings; simp [h_recorder, h_treads]

@[simp] theorem State.takeLater_outside (h_recorder : W.recorder = true) (h_treads : W.treads = true) (s : State) (src f cause : Nat) (l : List WinEnt) :
    (State.takeLater s src f cause l).1.outside W = s.outside W := by
  unfold State.takeLater; simp [h_recorder, h_treads]

@[simp] theorem State.dropRun_outside (h_recorder : W.recorder = true) (h_tasks : W.tasks = true) (h_treads : W.treads = true) (s : State) (src f cause : Nat) :
    (State.dropRun s src f cause).1.outside W = s.outside W := by
  unfold State.dropRun; simp [h_recorder, h_tasks, h_treads]

@[simp] theorem State.dropRuns_outside (h_recorder : W.recorder = true) (h_tasks : W.tasks = true) (h_treads : W.treads = true) (src cause n : Nat) (s : State) :
    (State.dropRuns src cause n s).1.outside W = s.outside W := by
  induction n generalizing s with
  | zero => rfl
  | succ n ih =>
    unfold State.dropRuns
    split
    · rfl
    · dsimp only
      split
      · simp [*]
      · dsimp only; rw [ih]; simp [*]

@[simp] theorem State.dropBehind_outside (h_recorder : W.recorder = true) (h_tasks : W.tasks = true) (h_treads : W.treads = true) (s : State) (src cause n : Nat) :
    (State.dropBehind s src cause n).1.outside W = s.outside W := by
  unfold State.dropBehind
  dsimp only
  rw [State.dropRuns_outside h_recorder h_tasks h_treads]
  exact outside_foldl_fst _ _ (fun t f => by simp [h_recorder, h_tasks, h_treads]) _

@[simp] theorem State.shiftFlights_outside (h_recorder : W.recorder = true) (h_tasks : W.tasks = true) (h_treads : W.treads = true) (s : State) (src : Nat) (step : Dword) :
    (State.shiftFlights s src step).outside W = s.outside W := by
  unfold State.shiftFlights; simp only [outside_ite, outside_fst_ite, ite_self, outside_when, outside_foldl, implies_true, forall_const, outside_recorder, outside_tasks, outside_treads, outside_treads_tasks, State.judgeHead_outside, State.dropBehind_outside, State.fillNow_outside, State.updFlight_outside, State.updTsrc_outside, h_recorder, h_tasks, h_treads]

@[simp] theorem State.presetLpc_outside (h_line : W.line = true) (h_outbox : W.outbox = true) (h_pair : W.pair = true) (h_recorder : W.recorder = true) (h_tasks : W.tasks = true) (h_treads : W.treads = true) (s : State) (i : Nat) (v : Dword) :
    (State.presetLpc s i v).outside W = s.outside W := by
  unfold State.presetLpc; simp [h_line, h_outbox, h_pair, h_recorder, h_tasks, h_treads]

@[simp] theorem State.presetCmd_outside (h_line : W.line = true) (h_outbox : W.outbox = true) (h_pair : W.pair = true) (h_recorder : W.recorder = true) (h_tasks : W.tasks = true) (h_treads : W.treads = true) (s : State) (i cmd : Nat) :
    (State.presetCmd s i cmd).outside W = s.outside W := by
  unfold State.presetCmd; ((try dsimp only); repeat' split) <;> simp [h_line, h_outbox, h_pair, h_recorder, h_tasks, h_treads]

@[simp] theorem State.presetsAtZ_outside (h_line : W.line = true) (h_outbox : W.outbox = true) (h_pair : W.pair = true) (h_recorder : W.recorder = true) (h_tasks : W.tasks = true) (h_treads : W.treads = true) (s : State) (n : Nat) :
    (State.presetsAtZ s n).outside W = s.outside W := by
  unfold State.presetsAtZ; (try dsimp only); (repeat' first | rfl | intro _ | (simp [h_line, h_outbox, h_pair, h_recorder, h_tasks, h_treads]; done) | split | rw [outside_foldl] | simp [h_line, h_outbox, h_pair, h_recorder, h_tasks, h_treads])

@[simp] theorem State.presetsAtLanding_outside (h_line : W.line = true) (h_outbox : W.outbox = true) (h_pair : W.pair = true) (h_recorder : W.recorder = true) (h_tasks : W.tasks = true) (h_treads : W.treads = true) (s : State) :
    (State.presetsAtLanding s).outside W = s.outside W := by
  unfold State.presetsAtLanding; (try dsimp only); (repeat' first | rfl | intro _ | (simp [h_line, h_outbox, h_pair, h_recorder, h_tasks, h_treads]; done) | split | rw [outside_foldl] | simp [h_line, h_outbox, h_pair, h_recorder, h_tasks, h_treads])

@[simp] theorem State.trgSet_outside (h_outbox : W.outbox = true) (h_treads : W.treads = true) (s : State) (c : Nat) (level : Bool) :
    (State.trgSet s c level).outside W = s.outside W := by
  unfold State.trgSet; simp [h_outbox, h_treads]

@[simp] theorem State.trgPlace_outside (h_pair : W.pair = true) (h_treads : W.treads = true) (s : State) (c kind width tread t : Nat) :
    (State.trgPlace s c kind width tread t).outside W = s.outside W := by
  unfold State.trgPlace; simp [h_pair, h_treads]

@[simp] theorem State.trgCommit_outside (h_pair : W.pair = true) (h_recorder : W.recorder = true) (h_treads : W.treads = true) (s : State) (c shape tread : Nat) (dt : Int) :
    (State.trgCommit s c shape tread dt).outside W = s.outside W := by
  unfold State.trgCommit; ((try dsimp only); repeat' split) <;> simp [h_pair, h_recorder, h_treads]

@[simp] theorem State.trgEdge_outside (h_outbox : W.outbox = true) (h_treads : W.treads = true) (s : State) (c : Nat) :
    (State.trgEdge s c).outside W = s.outside W := by
  unfold State.trgEdge; ((try dsimp only); repeat' split) <;> simp [h_outbox, h_treads]

@[simp] theorem State.trgPulseEnd_outside (h_outbox : W.outbox = true) (h_treads : W.treads = true) (s : State) (c : Nat) :
    (State.trgPulseEnd s c).outside W = s.outside W := by
  unfold State.trgPulseEnd; ((try dsimp only); repeat' split) <;> simp [h_outbox, h_treads]

@[simp] theorem State.trgIdleChange_outside (h_outbox : W.outbox = true) (h_treads : W.treads = true) (s : State) (c : Nat) :
    (State.trgIdleChange s c).outside W = s.outside W := by
  unfold State.trgIdleChange; simp [h_outbox, h_treads]

@[simp] theorem State.trgToIdle_outside (h_outbox : W.outbox = true) (h_treads : W.treads = true) (s : State) (c : Nat) :
    (State.trgToIdle s c).outside W = s.outside W := by
  unfold State.trgToIdle; simp [h_outbox, h_treads]

@[simp] theorem State.trgsToIdle_outside (h_outbox : W.outbox = true) (h_treads : W.treads = true) (s : State) :
    (State.trgsToIdle s).outside W = s.outside W := by
  unfold State.trgsToIdle; simp [h_outbox, h_treads]

@[simp] theorem State.delaySwap_outside (h_treads : W.treads = true) (s : State) (c : Nat) :
    (State.delaySwap s c).outside W = s.outside W := by
  unfold State.delaySwap; simp [h_treads]

-- RET State.treadState Nat
-- RET State.treadRemaining Nat
end Sys2Proof.Machine
end

