-- ==== Sys2Proof/Laws/HallFrame.lean ====
section
/-! SUPPORT. What each operation of Machine/Hall.lean leaves as it was: everything outside the parts that its lemma names. -/
namespace Sys2Proof.Machine
set_option linter.unusedSimpArgs false
variable {W : Parts}

@[simp] theorem State.beforeWrite_outside (h_hall : W.hall = true) (s : State) :
    (State.beforeWrite s).outside W = s.outside W := by
  unfold State.beforeWrite; simp [h_hall]

@[simp] theorem State.putBit_outside (h_hall : W.hall = true) (s : State) (a : Nat) (v : Bool) :
    (State.putBit s a v).outside W = s.outside W := by
  unfold State.putBit; simp [h_hall]

@[simp] theorem State.putWord_outside (h_hall : W.hall = true) (s : State) (a : Nat) (v : Word) :
    (State.putWord s a v).outside W = s.outside W := by
  unfold State.putWord; simp [h_hall]

@[simp] theorem State.emptyForces_outside (h_hall : W.hall = true) (s : State) :
    (State.emptyForces s).outside W = s.outside W := by
  unfold State.emptyForces; simp [h_hall]

@[simp] theorem State.clearForces_outside (h_hall : W.hall = true) (h_recorder : W.recorder = true) (s : State) :
    (State.clearForces s).outside W = s.outside W := by
  unfold State.clearForces; simp [h_hall, h_recorder]

@[simp] theorem State.forceChange_outside (h_hall : W.hall = true) (s : State) (c : ForceChange) : (s.forceChange c).outside W = s.outside W := by
  cases c <;> unfold State.forceChange <;> (try split) <;> simp [h_hall]

@[simp] theorem State.forceEvents_outside (h_hall : W.hall = true) (h_recorder : W.recorder = true) (s : State) (was : Bool) :
    (State.forceEvents s was).outside W = s.outside W := by
  unfold State.forceEvents; simp [h_hall, h_recorder]

@[simp] theorem State.takeForces_outside (h_hall : W.hall = true) (h_recorder : W.recorder = true) (s : State) (x : Forces) :
    (State.takeForces s x).outside W = s.outside W := by
  unfold State.takeForces; simp [h_hall, h_recorder]

@[simp] theorem State.applyForces_outside (h_hall : W.hall = true) (h_recorder : W.recorder = true) (s : State) (l : List ForceChange) :
    (State.applyForces s l).outside W = s.outside W := by
  unfold State.applyForces; simp [h_hall, h_recorder]

@[simp] theorem State.copyBack_outside (h_hall : W.hall = true) (s : State) (l : List Section) (t : TaskSt) :
    (State.copyBack s l t).outside W = s.outside W := by
  unfold State.copyBack; simp [h_hall]

@[simp] theorem State.putRange_outside (h_hall : W.hall = true) (s : State) (r : Range) (d : Bytes) :
    (State.putRange s r d).outside W = s.outside W := by
  unfold State.putRange; simp [h_hall]

end Sys2Proof.Machine
end

