-- ==== Sys2Proof/Laws/LoopsFrame.lean ====
section
/-! SUPPORT. What each operation of Machine/Loops.lean leaves as it was: everything outside the parts that its lemma names. -/
namespace Sys2Proof.Machine
set_option linter.unusedSimpArgs false
variable {W : Parts}

@[simp] theorem State.setLoop_outside (h_loops : W.loops = true) (s : State) (n : Nat) (x : LoopSt) :
    (State.setLoop s n x).outside W = s.outside W := by
  unfold State.setLoop; simp [h_loops]

@[simp] theorem State.putSample_outside (h_loops : W.loops = true) (h_recorder : W.recorder = true) (s : State) (n : Nat) (x : LoopSample) :
    (State.putSample s n x).outside W = s.outside W := by
  unfold State.putSample; simp [h_loops, h_recorder]

@[simp] theorem State.engineBegin_outside (h_loops : W.loops = true) (s : State) :
    (State.engineBegin s).outside W = s.outside W := by
  unfold State.engineBegin; (repeat' split) <;> simp only [outside_ite, outside_fst_ite, ite_self, outside_when, outside_foldl, implies_true, forall_const, outside_loops, h_loops]

@[simp] theorem State.latch_outside (h_fresh : W.fresh = true) (h_loops : W.loops = true) (h_recorder : W.recorder = true) (s : State) (n : Nat) (tread : Bool) :
    (State.latch s n tread).outside W = s.outside W := by
  unfold State.latch; simp [h_fresh, h_loops, h_recorder]

@[simp] theorem State.classTick_outside (h_fresh : W.fresh = true) (h_loops : W.loops = true) (h_recorder : W.recorder = true) (s : State) (k : Nat) :
    (State.classTick s k).outside W = s.outside W := by
  unfold State.classTick; simp [h_fresh, h_loops, h_recorder]

@[simp] theorem State.sampleLoop_outside (h_fresh : W.fresh = true) (h_loops : W.loops = true) (h_recorder : W.recorder = true) (s : State) (n : Nat) :
    (State.sampleLoop s n).outside W = s.outside W := by
  unfold State.sampleLoop; simp [h_fresh, h_loops, h_recorder]

@[simp] theorem State.sampleGroup_outside (h_fresh : W.fresh = true) (h_loops : W.loops = true) (h_recorder : W.recorder = true) (s : State) (g : Nat) :
    (State.sampleGroup s g).outside W = s.outside W := by
  unfold State.sampleGroup; simp [h_fresh, h_loops, h_recorder]

@[simp] theorem State.dropSamples_outside (h_loops : W.loops = true) (s : State) :
    (State.dropSamples s).outside W = s.outside W := by
  unfold State.dropSamples; simp [h_loops]

@[simp] theorem State.softStartAll_outside (h_loops : W.loops = true) (s : State) :
    (State.softStartAll s).outside W = s.outside W := by
  unfold State.softStartAll; simp [h_loops]

@[simp] theorem State.applyGain_outside (h_loops : W.loops = true) (h_recorder : W.recorder = true) (s : State) (k : Nat) (l : List GainPoint) :
    (State.applyGain s k l).outside W = s.outside W := by
  unfold State.applyGain; ((try dsimp only); repeat' split) <;> simp [h_loops, h_recorder]

@[simp] theorem State.countEval_outside (h_loops : W.loops = true) (s : State) :
    (State.countEval s).outside W = s.outside W := by
  unfold State.countEval; simp [h_loops]

@[simp] theorem State.loopWrite_outside (h_hall : W.hall = true) (s : State) (n : Nat) (o : Bfp) :
    (State.loopWrite s n o).outside W = s.outside W := by
  unfold State.loopWrite; simp [h_hall]

@[simp] theorem State.evalSample_outside (h_hall : W.hall = true) (h_loops : W.loops = true) (h_pair : W.pair = true) (s : State) (e : Evaluating) :
    (State.evalSample s e).outside W = s.outside W := by
  unfold State.evalSample; simp [h_hall, h_loops, h_pair]

@[simp] theorem State.loopEvaluation_outside (h_hall : W.hall = true) (h_loops : W.loops = true) (h_pair : W.pair = true) (s : State) (e : Evaluating) :
    (State.loopEvaluation s e).outside W = s.outside W := by
  unfold State.loopEvaluation; ((try dsimp only); repeat' split) <;> simp [h_hall, h_loops, h_pair]

@[simp] theorem State.enableLoop_outside (h_loops : W.loops = true) (h_params : W.params = true) (s : State) (n : Nat) (on : Bool) :
    (State.enableLoop s n on).outside W = s.outside W := by
  unfold State.enableLoop; simp [h_loops, h_params]

end Sys2Proof.Machine
end

