-- ==== Sys2Proof/Laws/EnergyFrame.lean ====
section
/-! SUPPORT. What each operation of Machine/Energy.lean leaves as it was: everything outside the parts that its lemma names. -/
namespace Sys2Proof.Machine
set_option linter.unusedSimpArgs false
variable {W : Parts}

@[simp] theorem State.dspEvents_outside (h_recorder : W.recorder = true) (s : State) (r : DspResult) :
    (State.dspEvents s r).outside W = s.outside W := by
  unfold State.dspEvents
  simp only [outside_ite, State.ev_outside h_recorder, ite_self]
  refine outside_foldl _ _ (fun t k => ?_) _
  split <;> simp only [outside_ite, State.ev_outside h_recorder, ite_self]

@[simp] theorem State.dspJudged_outside (h_dsp : W.dsp = true) (s : State) (r : DspResult) :
    (State.dspJudged s r).outside W = s.outside W := by
  unfold State.dspJudged; simp [h_dsp]

@[simp] theorem State.dspDone_outside (h_dsp : W.dsp = true) (s : State) :
    (State.dspDone s).outside W = s.outside W := by
  unfold State.dspDone; ((try dsimp only); repeat' split) <;> simp [h_dsp]

@[simp] theorem State.dspWrite_outside (h_hall : W.hall = true) (s : State) (p : Nat) (x : Rat) :
    (State.dspWrite s p x).outside W = s.outside W := by
  unfold State.dspWrite; simp [h_hall]

@[simp] theorem State.setOffset_outside (h_loops : W.loops = true) (s : State) (loop : Nat) (x : Rat) :
    (State.setOffset s loop x).outside W = s.outside W := by
  unfold State.setOffset; simp [h_loops]

@[simp] theorem State.clearOffsets_outside (h_loops : W.loops = true) (s : State) :
    (State.clearOffsets s).outside W = s.outside W := by
  unfold State.clearOffsets; simp [h_loops]

@[simp] theorem State.dspApply_outside (h_dsp : W.dsp = true) (h_hall : W.hall = true) (h_loops : W.loops = true) (h_recorder : W.recorder = true) (s : State) (r : DspResult) (landing : Nat) :
    (State.dspApply s r landing).outside W = s.outside W := by
  unfold State.dspApply; simp [h_dsp, h_hall, h_loops, h_recorder]

@[simp] theorem State.dspLanding_outside (h_dsp : W.dsp = true) (h_hall : W.hall = true) (h_loops : W.loops = true) (h_recorder : W.recorder = true) (s : State) (landing : Nat) :
    (State.dspLanding s landing).outside W = s.outside W := by
  unfold State.dspLanding; ((try dsimp only); repeat' split) <;> simp [h_dsp, h_hall, h_loops, h_recorder]

@[simp] theorem State.dspStart_outside (h_dsp : W.dsp = true) (s : State) (landing frameUs : Nat) :
    (State.dspStart s landing frameUs).outside W = s.outside W := by
  unfold State.dspStart; simp [h_dsp]

@[simp] theorem State.dspMode_outside (h_dsp : W.dsp = true) (h_params : W.params = true) (s : State) (m : Nat) :
    (State.dspMode s m).outside W = s.outside W := by
  unfold State.dspMode; simp [h_dsp, h_params]

@[simp] theorem State.dspStop_outside (h_dsp : W.dsp = true) (s : State) :
    (State.dspStop s).outside W = s.outside W := by
  unfold State.dspStop; simp [h_dsp]

@[simp] theorem State.dspEnterRun_outside (h_dsp : W.dsp = true) (h_loops : W.loops = true) (s : State) :
    (State.dspEnterRun s).outside W = s.outside W := by
  unfold State.dspEnterRun; simp [h_dsp, h_loops]

end Sys2Proof.Machine
end

