-- ==== Sys2Proof/Laws/FieldIoFrame.lean ====
section
/-! SUPPORT. What each operation of Machine/FieldIo.lean leaves as it was: everything outside the parts that its lemma names. -/
namespace Sys2Proof.Machine
set_option linter.unusedSimpArgs false
variable {W : Parts}

@[simp] theorem State.updDio_outside (h_field : W.field = true) (s : State) (n : Nat) (f : Dio → Dio) :
    (State.updDio s n f).outside W = s.outside W := by
  unfold State.updDio; simp [h_field]

@[simp] theorem State.updAio_outside (h_field : W.field = true) (s : State) (n : Nat) (f : Aio → Aio) :
    (State.updAio s n f).outside W = s.outside W := by
  unfold State.updAio; simp [h_field]

@[simp] theorem State.updGroup_outside (h_field : W.field = true) (s : State) (g : Nat) (f : Supply → Supply) :
    (State.updGroup s g f).outside W = s.outside W := by
  unfold State.updGroup; simp [h_field]

@[simp] theorem State.dioDrive_outside (h_field : W.field = true) (h_outbox : W.outbox = true) (s : State) (n : Nat) :
    (State.dioDrive s n).outside W = s.outside W := by
  unfold State.dioDrive; simp [h_field, h_outbox]

@[simp] theorem State.dioDriveAll_outside (h_field : W.field = true) (h_outbox : W.outbox = true) (s : State) :
    (State.dioDriveAll s).outside W = s.outside W := by
  unfold State.dioDriveAll; simp [h_field, h_outbox]

@[simp] theorem State.dioCommand_outside (h_field : W.field = true) (h_outbox : W.outbox = true) (s : State) (n : Nat) (v : Bool) :
    (State.dioCommand s n v).outside W = s.outside W := by
  unfold State.dioCommand; simp [h_field, h_outbox]

@[simp] theorem State.dioAction_outside (h_field : W.field = true) (h_outbox : W.outbox = true) (s : State) (n op w : Nat) :
    (State.dioAction s n op w).outside W = s.outside W := by
  unfold State.dioAction; ((try dsimp only); repeat' split) <;> simp [h_field, h_outbox]

@[simp] theorem State.dioSafe_outside (h_field : W.field = true) (h_outbox : W.outbox = true) (s : State) (n : Nat) :
    (State.dioSafe s n).outside W = s.outside W := by
  unfold State.dioSafe; ((try dsimp only); repeat' split) <;> simp [h_field, h_outbox]

@[simp] theorem State.dioIn_outside (h_hall : W.hall = true) (s : State) (n : Nat) :
    (State.dioIn s n).outside W = s.outside W := by
  unfold State.dioIn; simp [h_hall]

@[simp] theorem State.countOut_outside (h_hall : W.hall = true) (s : State) (n : Nat) (w : Word) :
    (State.countOut s n w).outside W = s.outside W := by
  unfold State.countOut; simp [h_hall]

@[simp] theorem State.wireBreak_outside (h_field : W.field = true) (h_hall : W.hall = true) (h_recorder : W.recorder = true) (s : State) (n : Nat) (v : Bool) :
    (State.wireBreak s n v).outside W = s.outside W := by
  unfold State.wireBreak; simp [h_field, h_hall, h_recorder]

@[simp] theorem State.dioSettle_outside (h_field : W.field = true) (s : State) (n : Nat) :
    (State.dioSettle s n).outside W = s.outside W := by
  unfold State.dioSettle; simp [h_field]

@[simp] theorem State.dioEdge_outside (h_field : W.field = true) (h_hall : W.hall = true) (h_outbox : W.outbox = true) (h_pair : W.pair = true) (h_recorder : W.recorder = true) (h_tasks : W.tasks = true) (h_treads : W.treads = true) (s : State) (n : Nat) (level : Bool) :
    (State.dioEdge s n level).outside W = s.outside W := by
  unfold State.dioEdge; simp [h_field, h_hall, h_outbox, h_pair, h_recorder, h_tasks, h_treads]

@[simp] theorem State.dioSample_outside (h_field : W.field = true) (h_hall : W.hall = true) (h_outbox : W.outbox = true) (h_pair : W.pair = true) (h_recorder : W.recorder = true) (h_tasks : W.tasks = true) (h_treads : W.treads = true) (s : State) (n : Nat) (level : Bool) :
    (State.dioSample s n level).outside W = s.outside W := by
  unfold State.dioSample; simp [h_field, h_hall, h_outbox, h_pair, h_recorder, h_tasks, h_treads]

@[simp] theorem State.gate_outside (h_field : W.field = true) (h_hall : W.hall = true) (s : State) (n : Nat) :
    (State.gate s n).outside W = s.outside W := by
  unfold State.gate; simp [h_field, h_hall]

@[simp] theorem State.aioDrive_outside (h_outbox : W.outbox = true) (s : State) (n : Nat) :
    (State.aioDrive s n).outside W = s.outside W := by
  unfold State.aioDrive; simp [h_outbox]

@[simp] theorem State.aioSet_outside (h_field : W.field = true) (h_outbox : W.outbox = true) (s : State) (n : Nat) (i : Rat) :
    (State.aioSet s n i).outside W = s.outside W := by
  unfold State.aioSet; simp [h_field, h_outbox]

@[simp] theorem State.aioCommand_outside (h_field : W.field = true) (h_outbox : W.outbox = true) (h_pair : W.pair = true) (s : State) (n : Nat) (w : Word) :
    (State.aioCommand s n w).outside W = s.outside W := by
  unfold State.aioCommand; ((try dsimp only); repeat' split) <;> simp [h_field, h_outbox, h_pair]

@[simp] theorem State.aioSafe_outside (h_field : W.field = true) (h_outbox : W.outbox = true) (s : State) (n : Nat) :
    (State.aioSafe s n).outside W = s.outside W := by
  unfold State.aioSafe; simp [h_field, h_outbox]

@[simp] theorem State.outputsSafe_outside (h_field : W.field = true) (h_outbox : W.outbox = true) (s : State) :
    (State.outputsSafe s).outside W = s.outside W := by
  unfold State.outputsSafe; simp [h_field, h_outbox]

@[simp] theorem State.takeAck_outside (h_cans : W.cans = true) (s : State) (n q : Nat) :
    (State.takeAck s n q).outside W = s.outside W := by
  unfold State.takeAck; simp [h_cans]

@[simp] theorem State.takeAcks_outside (h_cans : W.cans = true) (s : State) (word : Nat → Bool) :
    (State.takeAcks s word).outside W = s.outside W := by
  unfold State.takeAcks; simp [h_cans]

@[simp] theorem State.takeOutputs_outside (h_cans : W.cans = true) (h_field : W.field = true) (h_outbox : W.outbox = true) (h_pair : W.pair = true) (s : State) (bit word : Nat → Bool) :
    (State.takeOutputs s bit word).outside W = s.outside W := by
  unfold State.takeOutputs; simp [h_cans, h_field, h_outbox, h_pair]

@[simp] theorem State.takeRanges_outside (h_cans : W.cans = true) (h_field : W.field = true) (h_outbox : W.outbox = true) (h_pair : W.pair = true) (s : State) (l : List Range) :
    (State.takeRanges s l).outside W = s.outside W := by
  unfold State.takeRanges; simp [h_cans, h_field, h_outbox, h_pair]

@[simp] theorem State.aioRange_outside (h_field : W.field = true) (h_recorder : W.recorder = true) (s : State) (n : Nat) (i : Rat) :
    (State.aioRange s n i).outside W = s.outside W := by
  unfold State.aioRange; simp [h_field, h_recorder]

@[simp] theorem State.aioSample_outside (h_field : W.field = true) (h_hall : W.hall = true) (h_outbox : W.outbox = true) (h_pair : W.pair = true) (h_recorder : W.recorder = true) (s : State) (n : Nat) (i : Rat) (tx : Bool) :
    (State.aioSample s n i tx).outside W = s.outside W := by
  unfold State.aioSample; ((try dsimp only); repeat' split) <;> simp [h_field, h_hall, h_outbox, h_pair, h_recorder]

@[simp] theorem State.aioTrim_outside (h_field : W.field = true) (h_outbox : W.outbox = true) (h_recorder : W.recorder = true) (s : State) (n : Nat) :
    (State.aioTrim s n).outside W = s.outside W := by
  unfold State.aioTrim; simp [h_field, h_outbox, h_recorder]

@[simp] theorem State.aioReadback_outside (h_field : W.field = true) (h_recorder : W.recorder = true) (s : State) (n : Nat) (i : Rat) :
    (State.aioReadback s n i).outside W = s.outside W := by
  unfold State.aioReadback; simp [h_field, h_recorder]

@[simp] theorem State.aioCompliance_outside (h_field : W.field = true) (h_recorder : W.recorder = true) (s : State) (n : Nat) (head term : Rat) :
    (State.aioCompliance s n head term).outside W = s.outside W := by
  unfold State.aioCompliance; simp [h_field, h_recorder]

@[simp] theorem State.aioClear_outside (h_field : W.field = true) (s : State) (n : Nat) :
    (State.aioClear s n).outside W = s.outside W := by
  unfold State.aioClear; simp [h_field]

@[simp] theorem State.dioReset_outside (h_field : W.field = true) (h_outbox : W.outbox = true) (s : State) (n : Nat) :
    (State.dioReset s n).outside W = s.outside W := by
  unfold State.dioReset; simp [h_field, h_outbox]

@[simp] theorem State.dioZero_outside (h_field : W.field = true) (s : State) (n : Nat) :
    (State.dioZero s n).outside W = s.outside W := by
  unfold State.dioZero; simp [h_field]

/-- A sample completed with the settings from before the apply leaves alone what the sample leaves alone; only the settings stand aside meanwhile. -/
theorem State.withAioWas_outside (h_params : W.params = true) (s : State) (f : State → State) (h : ∀ t, (f t).outside W = t.outside W) :
    (State.withAioWas s f).outside W = s.outside W := by
  have hp (x : State) (l : List (Nat × Val)) : ({ x with params := l } : State).outside W = x.outside W := by simp [State.outside, h_params]
  unfold State.withAioWas
  split
  · rw [hp, h, hp]
  · exact h s

@[simp] theorem State.forwardPoint_outside (h_outbox : W.outbox = true) (h_pair : W.pair = true) (s : State) (bit : Bool) (a : Nat) :
    (State.forwardPoint s bit a).outside W = s.outside W := by
  unfold State.forwardPoint; simp [h_outbox, h_pair]

@[simp] theorem State.forwardRange_outside (h_outbox : W.outbox = true) (h_pair : W.pair = true) (s : State) (r : Range) :
    (State.forwardRange s r).outside W = s.outside W := by
  unfold State.forwardRange; ((try dsimp only); repeat' split) <;> simp [h_outbox, h_pair]

@[simp] theorem State.freshBlock_outside (h_hall : W.hall = true) (h_recorder : W.recorder = true) (h_tasks : W.tasks = true) (s : State) (b : Nat) :
    (State.freshBlock s b).outside W = s.outside W := by
  unfold State.freshBlock; simp [h_hall, h_recorder, h_tasks]

@[simp] theorem State.blockFrame_outside (h_cans : W.cans = true) (h_field : W.field = true) (h_hall : W.hall = true) (h_outbox : W.outbox = true) (h_pair : W.pair = true) (h_recorder : W.recorder = true) (h_tasks : W.tasks = true) (s : State) (b : Nat) (data : Bytes) :
    (State.blockFrame s b data).outside W = s.outside W := by
  unfold State.blockFrame
  split
  · rfl
  · split
    · rfl
    · rename_i blk _
      have h := outside_foldl_fst (W := W) blk.ranges (fun (a : State × Bytes) r =>
        (a.1.putRange r (a.2.take (rangeBytes r)), a.2.drop (rangeBytes r))) (by simp [h_hall]) (s, data)
      dsimp only at h ⊢
      generalize List.foldl _ (s, data) blk.ranges = p at h ⊢
      simp [h_cans, h_field, h_hall, h_outbox, h_pair, h_recorder, h_tasks, h]

end Sys2Proof.Machine
end

