-- ==== Sys2Proof/Laws/FiringFrame.lean ====
section
/-! SUPPORT. What each operation of Machine/Firing.lean leaves as it was: everything outside the parts that its lemma names. -/
namespace Sys2Proof.Machine
set_option linter.unusedSimpArgs false
variable {W : Parts}

@[simp] theorem State.advanceHead_outside (h_recorder : W.recorder = true) (h_tasks : W.tasks = true) (h_treads : W.treads = true) (s : State) (src : Nat) :
    (State.advanceHead s src).outside W = s.outside W := by
  unfold State.advanceHead; ((try dsimp only); repeat' split) <;> simp [h_recorder, h_tasks, h_treads]

@[simp] theorem State.launch_outside (h_recorder : W.recorder = true) (h_tasks : W.tasks = true) (h_treads : W.treads = true) (s : State) (task tread : Nat) :
    (State.launch s task tread).outside W = s.outside W := by
  unfold State.launch; simp [h_recorder, h_tasks, h_treads]

@[simp] theorem State.fired_outside (h_pair : W.pair = true) (h_treads : W.treads = true) (s : State) (e : WinEnt) :
    (State.fired s e).outside W = s.outside W := by
  unfold State.fired; simp [h_pair, h_treads]

@[simp] theorem State.action_outside (h_field : W.field = true) (h_fresh : W.fresh = true) (h_loops : W.loops = true) (h_outbox : W.outbox = true) (h_pair : W.pair = true) (h_recorder : W.recorder = true) (h_tasks : W.tasks = true) (h_treads : W.treads = true) (s : State) (src : Nat) (e : WinEnt) (dt : Int) :
    (State.action s src e dt).outside W = s.outside W := by
  unfold State.action; ((try dsimp only); repeat' split) <;> simp [h_field, h_fresh, h_loops, h_outbox, h_pair, h_recorder, h_tasks, h_treads]

@[simp] theorem State.skipHead_outside (h_recorder : W.recorder = true) (h_treads : W.treads = true) (s : State) (e : WinEnt) :
    (State.skipHead s e).outside W = s.outside W := by
  unfold State.skipHead; simp [h_recorder, h_treads]

@[simp] theorem State.lateHead_outside (h_recorder : W.recorder = true) (h_treads : W.treads = true) (s : State) (src : Nat) (e : WinEnt) (d : Int) :
    (State.lateHead s src e d).outside W = s.outside W := by
  unfold State.lateHead; simp [h_recorder, h_treads]

@[simp] theorem State.noteDue_outside (h_treads : W.treads = true) (s : State) (src : Nat) (p : Dword) (base : Nat) (late : Bool) :
    (State.noteDue s src p base late).outside W = s.outside W := by
  unfold State.noteDue; simp [h_treads]

@[simp] theorem State.fireHead_outside (h_field : W.field = true) (h_fresh : W.fresh = true) (h_loops : W.loops = true) (h_outbox : W.outbox = true) (h_pair : W.pair = true) (h_recorder : W.recorder = true) (h_tasks : W.tasks = true) (h_treads : W.treads = true) (s : State) (src : Nat) (e : WinEnt) (d dt : Int) :
    (State.fireHead s src e d dt).outside W = s.outside W := by
  unfold State.fireHead; simp [h_field, h_fresh, h_loops, h_outbox, h_pair, h_recorder, h_tasks, h_treads]

@[simp] theorem State.treadDue_outside (h_field : W.field = true) (h_fresh : W.fresh = true) (h_loops : W.loops = true) (h_outbox : W.outbox = true) (h_pair : W.pair = true) (h_recorder : W.recorder = true) (h_tasks : W.tasks = true) (h_treads : W.treads = true) (s : State) (src : Nat) :
    (State.treadDue s src).outside W = s.outside W := by
  unfold State.treadDue; ((try dsimp only); repeat' split) <;> simp [h_field, h_fresh, h_loops, h_outbox, h_pair, h_recorder, h_tasks, h_treads]

@[simp] theorem State.trgCommitHead_outside (h_field : W.field = true) (h_fresh : W.fresh = true) (h_loops : W.loops = true) (h_outbox : W.outbox = true) (h_pair : W.pair = true) (h_recorder : W.recorder = true) (h_tasks : W.tasks = true) (h_treads : W.treads = true) (s : State) (src : Nat) :
    (State.trgCommitHead s src).outside W = s.outside W := by
  unfold State.trgCommitHead; ((try dsimp only); repeat' split) <;> simp [h_field, h_fresh, h_loops, h_outbox, h_pair, h_recorder, h_tasks, h_treads]

-- RET State.headNear Bool
@[simp] theorem State.discardPaused_outside (h_recorder : W.recorder = true) (h_tasks : W.tasks = true) (h_treads : W.treads = true) (s : State) :
    (State.discardPaused s).outside W = s.outside W := by
  unfold State.discardPaused; simp [h_recorder, h_tasks, h_treads]

end Sys2Proof.Machine
end

