-- ==== Sys2Proof/Laws/MotionFrame.lean ====
section
/-! SUPPORT. What each operation of Machine/Motion.lean leaves as it was: everything outside the parts that its lemma names. -/
namespace Sys2Proof.Machine
set_option linter.unusedSimpArgs false
variable {W : Parts}

@[simp] theorem State.zEdge_outside (h_line : W.line = true) (h_outbox : W.outbox = true) (h_pair : W.pair = true) (h_recorder : W.recorder = true) (h_tasks : W.tasks = true) (h_treads : W.treads = true) (s : State) (n t : Nat) :
    (State.zEdge s n t).outside W = s.outside W := by
  unfold State.zEdge; simp [h_line, h_outbox, h_pair, h_recorder, h_tasks, h_treads]

@[simp] theorem State.linesLow_outside (h_line : W.line = true) (h_outbox : W.outbox = true) (h_pair : W.pair = true) (h_recorder : W.recorder = true) (s : State) (n pairs : Nat) :
    (State.linesLow s n pairs).outside W = s.outside W := by
  unfold State.linesLow
  dsimp only
  exact (outside_when _ _ _ fun t => State.sensed_outside h_pair t _ _ fun u => by simp [h_line, h_outbox, h_pair, h_recorder]).trans (by simp [h_line, h_outbox, h_pair, h_recorder])

@[simp] theorem State.lineHigh_outside (h_line : W.line = true) (h_recorder : W.recorder = true) (s : State) (n pair : Nat) :
    (State.lineHigh s n pair).outside W = s.outside W := by
  unfold State.lineHigh; simp [h_line, h_recorder]

end Sys2Proof.Machine
end

