-- ==== Sys2Proof/Laws/EnginesFrame.lean ====
section
/-! SUPPORT. What each operation of Machine/Engines.lean leaves as it was: everything outside the parts that its lemma names. -/
namespace Sys2Proof.Machine
set_option linter.unusedSimpArgs false
variable {W : Parts}

@[simp] theorem State.evaluateNext_outside (h_cans : W.cans = true) (h_field : W.field = true) (h_hall : W.hall = true) (h_loops : W.loops = true) (h_outbox : W.outbox = true) (h_pair : W.pair = true) (s : State) :
    (State.evaluateNext s).outside W = s.outside W := by
  unfold State.evaluateNext; ((try dsimp only); repeat' split) <;> simp [h_cans, h_field, h_hall, h_loops, h_outbox, h_pair]

end Sys2Proof.Machine
end

