-- ==== Sys2Proof/Laws/NetworkFrame.lean ====
section
/-! SUPPORT. What each operation of Machine/Network.lean leaves as it was: everything outside the parts that its lemma names. -/
namespace Sys2Proof.Machine
set_option linter.unusedSimpArgs false
variable {W : Parts}

@[simp] theorem State.updPort_outside (h_net : W.net = true) (s : State) (p : Nat) (f : Port → Port) :
    (State.updPort s p f).outside W = s.outside W := by
  unfold State.updPort; simp [h_net]

@[simp] theorem State.transmit_outside (h_net : W.net = true) (h_outbox : W.outbox = true) (s : State) (p : Nat) (e : Emission) :
    (State.transmit s p e).outside W = s.outside W := by
  unfold State.transmit; simp [h_net, h_outbox]

@[simp] theorem State.received_outside (h_net : W.net = true) (s : State) (p : Nat) :
    (State.received s p).outside W = s.outside W := by
  unfold State.received; simp [h_net]

@[simp] theorem State.discarded_outside (h_net : W.net = true) (s : State) (p : Nat) :
    (State.discarded s p).outside W = s.outside W := by
  unfold State.discarded; simp [h_net]

@[simp] theorem State.datagram_outside (h_net : W.net = true) (h_outbox : W.outbox = true) (s : State) (p ip udpPort : Nat) (d : Bytes) :
    (State.datagram s p ip udpPort d).outside W = s.outside W := by
  unfold State.datagram; simp [h_net, h_outbox]

@[simp] theorem State.closeSession_outside (h_net : W.net = true) (h_recorder : W.recorder = true) (s : State) (k cause : Nat) :
    (State.closeSession s k cause).outside W = s.outside W := by
  unfold State.closeSession; simp [h_net, h_recorder]

@[simp] theorem State.loseAddress_outside (h_net : W.net = true) (h_recorder : W.recorder = true) (s : State) (p : Nat) :
    (State.loseAddress s p).outside W = s.outside W := by
  unfold State.loseAddress; simp [h_net, h_recorder]

@[simp] theorem State.processFrame_outside (h_cans : W.cans = true) (h_field : W.field = true) (h_hall : W.hall = true) (h_net : W.net = true) (h_outbox : W.outbox = true) (h_pair : W.pair = true) (h_recorder : W.recorder = true) (h_tasks : W.tasks = true) (s : State) (p ip udpPort : Nat) (d : Bytes) :
    (State.processFrame s p ip udpPort d).outside W = s.outside W := by
  unfold State.processFrame; ((try dsimp only); repeat' split) <;> simp [h_cans, h_field, h_hall, h_net, h_outbox, h_pair, h_recorder, h_tasks]

@[simp] theorem State.setClock_outside (h_clock : W.clock = true) (s : State) (time : Nat) (ppb : Int) :
    (State.setClock s time ppb).outside W = s.outside W := by
  unfold State.setClock; simp [h_clock]

@[simp] theorem State.setPtpValid_outside (h_clock : W.clock = true) (h_line : W.line = true) (h_recorder : W.recorder = true) (s : State) (v : Bool) (cause : Nat) :
    (State.setPtpValid s v cause).outside W = s.outside W := by
  unfold State.setPtpValid; simp [h_clock, h_line, h_recorder]

@[simp] theorem State.masterValid_outside (h_clock : W.clock = true) (h_line : W.line = true) (h_recorder : W.recorder = true) (s : State) :
    (State.masterValid s).outside W = s.outside W := by
  unfold State.masterValid; simp [h_clock, h_line, h_recorder]

@[simp] theorem State.stepTime_outside (h_clock : W.clock = true) (h_treads : W.treads = true) (s : State) (step : Int) :
    (State.stepTime s step).outside W = s.outside W := by
  unfold State.stepTime; simp [h_clock, h_treads]

@[simp] theorem State.ptpSync_outside (h_clock : W.clock = true) (h_fresh : W.fresh = true) (h_line : W.line = true) (h_net : W.net = true) (h_recorder : W.recorder = true) (h_treads : W.treads = true) (s : State) (offset : Int) (delay : Nat) :
    (State.ptpSync s offset delay).outside W = s.outside W := by
  unfold State.ptpSync; simp [h_clock, h_fresh, h_line, h_net, h_recorder, h_treads]

@[simp] theorem State.updRoselo_outside (h_net : W.net = true) (s : State) (f : Roselo → Roselo) :
    (State.updRoselo s f).outside W = s.outside W := by
  unfold State.updRoselo; simp [h_net]

@[simp] theorem State.refreshMinor_outside (h_net : W.net = true) (h_recorder : W.recorder = true) (s : State) (p : Nat) :
    (State.refreshMinor s p).outside W = s.outside W := by
  unfold State.refreshMinor; simp [h_net, h_recorder]

@[simp] theorem State.roseloSend_outside (h_net : W.net = true) (h_outbox : W.outbox = true) (s : State) (mask dest : Nat) (body : Nat → Bytes) :
    (State.roseloSend s mask dest body).1.outside W = s.outside W := by
  unfold State.roseloSend; simp [h_net, h_outbox]

@[simp] theorem State.takeSample_outside (h_line : W.line = true) (h_recorder : W.recorder = true) (s : State) (i : Nat) (x : Sample) :
    (State.takeSample s i x).outside W = s.outside W := by
  unfold State.takeSample; simp [h_line, h_recorder]

@[simp] theorem State.importFrame_outside (h_line : W.line = true) (h_net : W.net = true) (h_recorder : W.recorder = true) (s : State) (i mac seq : Nat) (valid : Bool) (x : Sample) :
    (State.importFrame s i mac seq valid x).outside W = s.outside W := by
  unfold State.importFrame; ((try dsimp only); repeat' split) <;> simp [h_line, h_net, h_recorder]

@[simp] theorem State.sendFrame_outside (h_net : W.net = true) (h_outbox : W.outbox = true) (h_pair : W.pair = true) (h_recorder : W.recorder = true) (h_treads : W.treads = true) (s : State) (src : Nat) :
    (State.sendFrame s src).outside W = s.outside W := by
  unfold State.sendFrame; ((try dsimp only); repeat' split) <;> simp [h_net, h_outbox, h_pair, h_recorder, h_treads]

@[simp] theorem State.probe_outside (h_net : W.net = true) (h_outbox : W.outbox = true) (s : State) (p : Nat) :
    (State.probe s p).outside W = s.outside W := by
  unfold State.probe; simp [h_net, h_outbox]

end Sys2Proof.Machine
end

