-- ==== Sys2Proof/Laws/CanFrame.lean ====
section
/-! SUPPORT. What each operation of Machine/Can.lean leaves as it was: everything outside the parts that its lemma names. -/
namespace Sys2Proof.Machine
set_option linter.unusedSimpArgs false
variable {W : Parts}

@[simp] theorem State.updCan_outside (h_cans : W.cans = true) (s : State) (n : Nat) (f : Can → Can) :
    (State.updCan s n f).outside W = s.outside W := by
  unfold State.updCan; simp [h_cans]

@[simp] theorem State.canState_outside (h_cans : W.cans = true) (h_recorder : W.recorder = true) (s : State) (n st : Nat) :
    (State.canState s n st).outside W = s.outside W := by
  unfold State.canState; simp [h_cans, h_recorder]

@[simp] theorem State.canFlush_outside (h_cans : W.cans = true) (h_recorder : W.recorder = true) (s : State) (n cause : Nat) :
    (State.canFlush s n cause).outside W = s.outside W := by
  unfold State.canFlush; simp [h_cans, h_recorder]

@[simp] theorem State.canBusOff_outside (h_cans : W.cans = true) (h_recorder : W.recorder = true) (s : State) (n : Nat) :
    (State.canBusOff s n).outside W = s.outside W := by
  unfold State.canBusOff; simp [h_cans, h_recorder]

@[simp] theorem State.canJudge_outside (h_cans : W.cans = true) (h_recorder : W.recorder = true) (s : State) (n : Nat) :
    (State.canJudge s n).outside W = s.outside W := by
  unfold State.canJudge; simp [h_cans, h_recorder]

@[simp] theorem State.canError_outside (h_cans : W.cans = true) (h_recorder : W.recorder = true) (s : State) (n kind tec rec_ : Nat) :
    (State.canError s n kind tec rec_).outside W = s.outside W := by
  unfold State.canError; simp [h_cans, h_recorder]

@[simp] theorem State.canRecovered_outside (h_cans : W.cans = true) (h_recorder : W.recorder = true) (s : State) (n : Nat) :
    (State.canRecovered s n).outside W = s.outside W := by
  unfold State.canRecovered; simp [h_cans, h_recorder]

@[simp] theorem State.canReconfigure_outside (h_cans : W.cans = true) (h_carried : W.carried = true) (h_crossings : W.crossings = true) (h_recorder : W.recorder = true) (h_resyncs : W.resyncs = true) (s : State) (n : Nat) :
    (State.canReconfigure s n).outside W = s.outside W := by
  unfold State.canReconfigure; simp [h_cans, h_carried, h_crossings, h_recorder, h_resyncs]

@[simp] theorem State.canPause_outside (h_cans : W.cans = true) (h_recorder : W.recorder = true) (s : State) (n : Nat) :
    (State.canPause s n).outside W = s.outside W := by
  unfold State.canPause; simp [h_cans, h_recorder]

@[simp] theorem State.canDrop_outside (h_cans : W.cans = true) (h_recorder : W.recorder = true) (s : State) (n cause id : Nat) :
    (State.canDrop s n cause id).outside W = s.outside W := by
  unfold State.canDrop; simp [h_cans, h_recorder]

@[simp] theorem State.canYield_outside (h_cans : W.cans = true) (s : State) (n : Nat) :
    (State.canYield s n).outside W = s.outside W := by
  unfold State.canYield; (repeat' split) <;> simp only [outside_ite, outside_fst_ite, ite_self, outside_when, outside_foldl, implies_true, forall_const, outside_cans, State.updCan_outside, h_cans]

@[simp] theorem State.canEnqueue_outside (h_cans : W.cans = true) (h_recorder : W.recorder = true) (s : State) (n : Nat) (f : CanTx) :
    (State.canEnqueue s n f).outside W = s.outside W := by
  unfold State.canEnqueue; simp [h_cans, h_recorder]

@[simp] theorem State.canObject_outside (h_cans : W.cans = true) (h_recorder : W.recorder = true) (s : State) (o : CanOut) :
    (State.canObject s o).outside W = s.outside W := by
  unfold State.canObject; simp [h_cans, h_recorder]

@[simp] theorem State.canMessage_outside (h_cans : W.cans = true) (h_recorder : W.recorder = true) (s : State) (n : Nat) (idword : Bool) (id : Nat) (ide fdf brs : Bool) (l : List Word) :
    (State.canMessage s n idword id ide fdf brs l).outside W = s.outside W := by
  unfold State.canMessage; simp [h_cans, h_recorder]

@[simp] theorem State.canExpire_outside (h_cans : W.cans = true) (h_recorder : W.recorder = true) (s : State) (n : Nat) (f : CanTx) :
    (State.canExpire s n f).outside W = s.outside W := by
  unfold State.canExpire; simp [h_cans, h_recorder]

@[simp] theorem State.canSettle_outside (h_cans : W.cans = true) (h_recorder : W.recorder = true) (n k : Nat) (s : State) :
    (State.canSettle n k s).outside W = s.outside W := by
  induction k generalizing s with
  | zero => rfl
  | succ k ih => unfold State.canSettle; repeat' split <;> simp [ih, h_cans, h_recorder]

@[simp] theorem State.canPop_outside (h_cans : W.cans = true) (h_recorder : W.recorder = true) (s : State) (n : Nat) :
    (State.canPop s n).outside W = s.outside W := by
  unfold State.canPop; simp [h_cans, h_recorder]

@[simp] theorem State.canSent_outside (h_cans : W.cans = true) (h_outbox : W.outbox = true) (h_recorder : W.recorder = true) (s : State) (n t0 ns : Nat) :
    (State.canSent s n t0 ns).outside W = s.outside W := by
  unfold State.canSent; ((try dsimp only); repeat' split) <;> simp [h_cans, h_outbox, h_recorder]

@[simp] theorem State.canFailed_outside (h_cans : W.cans = true) (h_recorder : W.recorder = true) (s : State) (n kind : Nat) (spared : Bool) :
    (State.canFailed s n kind spared).outside W = s.outside W := by
  unfold State.canFailed; ((try dsimp only); repeat' split) <;> simp [h_cans, h_recorder]

@[simp] theorem State.canRoutes_outside (h_cans : W.cans = true) (h_recorder : W.recorder = true) (s : State) (n : Nat) (f : CanFrame) :
    (State.canRoutes s n f).outside W = s.outside W := by
  unfold State.canRoutes; simp [h_cans, h_recorder]

@[simp] theorem State.putWords_outside (h_hall : W.hall = true) (h_outbox : W.outbox = true) (h_pair : W.pair = true) (s : State) (a : Nat) (l : List Word) :
    (State.putWords s a l).outside W = s.outside W := by
  unfold State.putWords; simp [h_hall, h_outbox, h_pair]

@[simp] theorem State.canLost_outside (h_cans : W.cans = true) (h_hall : W.hall = true) (h_outbox : W.outbox = true) (h_pair : W.pair = true) (h_recorder : W.recorder = true) (s : State) (n q : Nat) :
    (State.canLost s n q).outside W = s.outside W := by
  unfold State.canLost; simp [h_cans, h_hall, h_outbox, h_pair, h_recorder]

@[simp] theorem State.canMailbox_outside (h_cans : W.cans = true) (h_hall : W.hall = true) (h_outbox : W.outbox = true) (h_pair : W.pair = true) (h_recorder : W.recorder = true) (h_tasks : W.tasks = true) (s : State) (n q : Nat) (f : CanFrame) (element : Nat) :
    (State.canMailbox s n q f element).outside W = s.outside W := by
  unfold State.canMailbox; simp [h_cans, h_hall, h_outbox, h_pair, h_recorder, h_tasks]

@[simp] theorem State.canFilter_outside (h_cans : W.cans = true) (h_hall : W.hall = true) (h_outbox : W.outbox = true) (h_pair : W.pair = true) (h_recorder : W.recorder = true) (h_tasks : W.tasks = true) (s : State) (n : Nat) :
    (State.canFilter s n).outside W = s.outside W := by
  unfold State.canFilter; ((try dsimp only); repeat' split) <;> simp [h_cans, h_hall, h_outbox, h_pair, h_recorder, h_tasks]

end Sys2Proof.Machine
end

