-- ==== Sys2Proof/Laws/RespondFrame.lean ====
section
/-! SUPPORT. What each operation of Machine/Respond.lean leaves as it was: everything outside the parts that its lemma names. -/
namespace Sys2Proof.Machine
set_option linter.unusedSimpArgs false
variable {W : Parts}

@[simp] theorem State.updBam_outside (h_net : W.net = true) (s : State) (f : Bamcon → Bamcon) :
    (State.updBam s f).outside W = s.outside W := by
  unfold State.updBam; simp [h_net]

@[simp] theorem State.updSess_outside (h_net : W.net = true) (s : State) (k : Nat) (f : Session → Session) :
    (State.updSess s k f).outside W = s.outside W := by
  unfold State.updSess; simp [h_net]

@[simp] theorem State.deliverAs_outside (h_cans : W.cans = true) (h_net : W.net = true) (h_outbox : W.outbox = true) (s : State) (push : Option (Nat × Nat)) (link ip port : Nat) (msg : Bytes) :
    (State.deliverAs s push link ip port msg).outside W = s.outside W := by
  unfold State.deliverAs; simp [h_cans, h_net, h_outbox]

@[simp] theorem State.deliver_outside (h_cans : W.cans = true) (h_net : W.net = true) (h_outbox : W.outbox = true) (s : State) (link ip port : Nat) (msg : Bytes) :
    (State.deliver s link ip port msg).outside W = s.outside W := by
  unfold State.deliver; simp [h_cans, h_net, h_outbox]

@[simp] theorem State.replyBare_outside (h_cans : W.cans = true) (h_net : W.net = true) (h_outbox : W.outbox = true) (s : State) (o : Origin) (type_ : Nat) (st : Status) (payload : Bytes) :
    (State.replyBare s o type_ st payload).outside W = s.outside W := by
  unfold State.replyBare; simp [h_cans, h_net, h_outbox]

@[simp] theorem State.replyOnce_outside (h_cans : W.cans = true) (h_net : W.net = true) (h_outbox : W.outbox = true) (s : State) (k type_ seq : Nat) (st : Status) (payload : Bytes) :
    (State.replyOnce s k type_ seq st payload).outside W = s.outside W := by
  unfold State.replyOnce; simp [h_cans, h_net, h_outbox]

@[simp] theorem State.reply_outside (h_cans : W.cans = true) (h_net : W.net = true) (h_outbox : W.outbox = true) (s : State) (k type_ seq : Nat) (st : Status) (payload : Bytes) :
    (State.reply s k type_ seq st payload).outside W = s.outside W := by
  unfold State.reply; simp [h_cans, h_net, h_outbox]

@[simp] theorem State.bumpVersion_outside (h_net : W.net = true) (s : State) (idx sub : Nat) :
    (State.bumpVersion s idx sub).outside W = s.outside W := by
  unfold State.bumpVersion; simp [h_net]

@[simp] theorem State.replayed_outside (h_net : W.net = true) (s : State) :
    (State.replayed s).outside W = s.outside W := by
  unfold State.replayed; simp [h_net]

@[simp] theorem State.admitReq_outside (h_cans : W.cans = true) (h_net : W.net = true) (h_outbox : W.outbox = true) (s : State) (o : Origin) (k type_ : Nat) (f : State → State)
    (h : ∀ t, (f t).outside W = t.outside W) : (s.admitReq o k type_ f).outside W = s.outside W := by
  unfold State.admitReq; dsimp only; repeat' split
  all_goals simp only [*, State.replyOnce_outside, State.updSess_outside, State.deliver_outside, State.replayed_outside]

@[simp] theorem State.request_outside (h_cans : W.cans = true) (h_net : W.net = true) (h_outbox : W.outbox = true) (s : State) (o : Origin) (type_ : Nat) (f : Nat → State → State)
    (h : ∀ k t, (f k t).outside W = t.outside W) : (s.request o type_ f).outside W = s.outside W := by
  unfold State.request; split
  · rfl
  · dsimp only; split <;> simp [*]

@[simp] theorem State.finishWait_outside (h_cans : W.cans = true) (h_net : W.net = true) (h_outbox : W.outbox = true) (s : State) (w : Waiting) :
    (State.finishWait s w).outside W = s.outside W := by
  unfold State.finishWait; ((try dsimp only); repeat' split) <;> simp [h_cans, h_net, h_outbox]

@[simp] theorem State.settleWait_outside (h_cans : W.cans = true) (h_net : W.net = true) (h_outbox : W.outbox = true) (s : State) (w : Option (Nat × Nat × Nat)) (idx : Nat) (st : Status) :
    (State.settleWait s w idx st).outside W = s.outside W := by
  unfold State.settleWait; ((try dsimp only); repeat' split) <;> simp [h_cans, h_net, h_outbox]

@[simp] theorem State.answerCommits_outside (h_cans : W.cans = true) (h_net : W.net = true) (h_outbox : W.outbox = true) (s : State) (n : Nat) :
    (State.answerCommits s n).outside W = s.outside W := by
  unfold State.answerCommits; (try dsimp only); (repeat' first | rfl | intro _ | (simp [h_cans, h_net, h_outbox]; done) | split | rw [outside_foldl] | simp [h_cans, h_net, h_outbox])

end Sys2Proof.Machine
end

