-- ==== Sys2Proof/Laws/PersistFrame.lean ====
section
/-! SUPPORT. What each operation of Machine/Persist.lean leaves as it was: everything outside the parts that its lemma names. -/
namespace Sys2Proof.Machine
set_option linter.unusedSimpArgs false
variable {W : Parts}

@[simp] theorem State.updNvm_outside (h_nvm : W.nvm = true) (s : State) (f : Nvm → Nvm) :
    (State.updNvm s f).outside W = s.outside W := by
  unfold State.updNvm; simp [h_nvm]

@[simp] theorem State.reserveCheck_outside (h_recorder : W.recorder = true) (s : State) (old : Nvm) :
    (State.reserveCheck s old).outside W = s.outside W := by
  unfold State.reserveCheck; simp [h_recorder]

@[simp] theorem State.norError_outside (h_nvm : W.nvm = true) (h_recorder : W.recorder = true) (s : State) (e : NorErr) : (s.norError e).outside W = s.outside W := by
  cases e <;> simp [State.norError, *]

@[simp] theorem State.norRead_outside (h_nvm : W.nvm = true) (h_recorder : W.recorder = true) (s : State) (l : List NorErr) :
    (State.norRead s l).outside W = s.outside W := by
  unfold State.norRead; exact outside_foldl _ _ (fun t e => State.norError_outside h_nvm h_recorder t e) _

@[simp] theorem State.psRead_outside (h_nvm : W.nvm = true) (h_recorder : W.recorder = true) (s : State) (rec_ : Nat) :
    (State.psRead s rec_).1.outside W = s.outside W := by
  unfold State.psRead; ((try dsimp only); repeat' split) <;> simp [h_nvm, h_recorder]

@[simp] theorem State.commitTrigger_outside (h_nvm : W.nvm = true) (s : State) :
    (State.commitTrigger s).outside W = s.outside W := by
  unfold State.commitTrigger; ((try dsimp only); repeat' split) <;> simp [h_nvm]

@[simp] theorem State.psStage_outside (h_nvm : W.nvm = true) (s : State) (rec_ : Nat) (data : Bytes) :
    (State.psStage s rec_ data).outside W = s.outside W := by
  unfold State.psStage; simp [h_nvm]

@[simp] theorem State.commitDone_outside (h_cans : W.cans = true) (h_net : W.net = true) (h_nvm : W.nvm = true) (h_outbox : W.outbox = true) (h_recorder : W.recorder = true) (s : State) :
    (State.commitDone s).outside W = s.outside W := by
  unfold State.commitDone; ((try dsimp only); repeat' split) <;> simp [h_cans, h_net, h_nvm, h_outbox, h_recorder]

@[simp] theorem State.persist_outside (h_nvm : W.nvm = true) (s : State) (idx sub : Nat) (v : Val) :
    (State.persist s idx sub v).outside W = s.outside W := by
  unfold State.persist; ((try dsimp only); repeat' split) <;> simp [h_nvm]

@[simp] theorem State.privAppend_outside (h_nvm : W.nvm = true) (h_recorder : W.recorder = true) (s : State) (type_ index : Nat) (data : Bytes) :
    (State.privAppend s type_ index data).outside W = s.outside W := by
  unfold State.privAppend; simp [h_nvm, h_recorder]

@[simp] theorem State.checkpointOf_outside (h_nvm : W.nvm = true) (h_recorder : W.recorder = true) (s : State) (p : Plan) (img : Bytes) :
    (State.checkpointOf s p img).outside W = s.outside W := by
  unfold State.checkpointOf; simp [h_nvm, h_recorder]

@[simp] theorem State.retainRestore_outside (h_hall : W.hall = true) (s : State) (p : Plan) (b : Bytes) :
    (State.retainRestore s p b).outside W = s.outside W := by
  unfold State.retainRestore
  have h (a : State × Bytes) (r : Range) :
      (a.1.putRange r (a.2.take (rangeBytes r)), a.2.drop (rangeBytes r)).1.outside W = a.1.outside W := by simp [h_hall]
  have h1 := outside_foldl_fst (W := W) p.retained _ h (s, b)
  dsimp only at h1 ⊢
  generalize List.foldl _ (s, b) p.retained = q at h1 ⊢
  rw [← h1]
  exact outside_foldl_fst (W := W) p.retainedRecs _ (fun a o => h a ⟨.wm, o, 4⟩) q

@[simp] theorem State.pageWrite_outside (h_nvm : W.nvm = true) (h_pair : W.pair = true) (h_recorder : W.recorder = true) (s : State) (a : Nat) (b : Bytes) :
    (State.pageWrite s a b).outside W = s.outside W := by
  unfold State.pageWrite; simp only [outside_ite, outside_fst_ite, ite_self, outside_when, outside_foldl, implies_true, forall_const, outside_nvm, outside_pair, outside_recorder, State.reserveCheck_outside, State.updNvm_outside, h_nvm, h_pair, h_recorder]

@[simp] theorem State.setSlot_outside (h_nvm : W.nvm = true) (h_plans : W.plans = true) (s : State) (target slot : Nat) (b : Bytes) :
    (State.setSlot s target slot b).outside W = s.outside W := by
  unfold State.setSlot; simp [h_nvm, h_plans]

@[simp] theorem State.journalise_outside (h_nvm : W.nvm = true) (s : State) (target sector : Nat) :
    (State.journalise s target sector).outside W = s.outside W := by
  unfold State.journalise; simp [h_nvm]

@[simp] theorem State.stageOpen_outside (h_nvm : W.nvm = true) (h_plans : W.plans = true) (s : State) (target total : Nat) :
    (State.stageOpen s target total).1.outside W = s.outside W := by
  unfold State.stageOpen; simp [h_nvm, h_plans]

@[simp] theorem State.stageData_outside (h_nvm : W.nvm = true) (h_plans : W.plans = true) (s : State) (target : Nat) (b : Bytes) :
    (State.stageData s target b).outside W = s.outside W := by
  unfold State.stageData; simp [h_nvm, h_plans]

@[simp] theorem State.stageDrop_outside (h_nvm : W.nvm = true) (h_plans : W.plans = true) (s : State) (target : Nat) :
    (State.stageDrop s target).outside W = s.outside W := by
  unfold State.stageDrop; simp [h_nvm, h_plans]

end Sys2Proof.Machine
end

