-- ==== Sys2Proof/Laws/StatusFrame.lean ====
section
/-! SUPPORT. What each operation of Machine/Status.lean leaves as it was: everything outside the parts that its lemma names. -/
namespace Sys2Proof.Machine
set_option linter.unusedSimpArgs false
variable {W : Parts}

@[simp] theorem State.updSup_outside (h_sup : W.sup = true) (s : State) (f : Sup → Sup) :
    (State.updSup s f).outside W = s.outside W := by
  unfold State.updSup; simp [h_sup]

@[simp] theorem State.updFuses_outside (h_fuses : W.fuses = true) (s : State) (f : Fuses → Fuses) :
    (State.updFuses s f).outside W = s.outside W := by
  unfold State.updFuses; simp [h_fuses]

@[simp] theorem State.updPair_outside (h_pair : W.pair = true) (s : State) (f : Pair → Pair) :
    (State.updPair s f).outside W = s.outside W := by
  unfold State.updPair; simp [h_pair]

@[simp] theorem State.updPlans_outside (h_plans : W.plans = true) (s : State) (f : Plans → Plans) :
    (State.updPlans s f).outside W = s.outside W := by
  unfold State.updPlans; simp [h_plans]

@[simp] theorem State.updTasks_outside (h_tasks : W.tasks = true) (s : State) (f : Tasks → Tasks) :
    (State.updTasks s f).outside W = s.outside W := by
  unfold State.updTasks; simp [h_tasks]

@[simp] theorem State.updTask_outside (h_tasks : W.tasks = true) (s : State) (k : Nat) (f : TaskSt → TaskSt) :
    (State.updTask s k f).outside W = s.outside W := by
  unfold State.updTask; simp [h_tasks]

@[simp] theorem State.updGallery_outside (h_tasks : W.tasks = true) (s : State) (g : Nat) (f : Gallery → Gallery) :
    (State.updGallery s g f).outside W = s.outside W := by
  unfold State.updGallery; simp [h_tasks]

@[simp] theorem State.updWdt_outside (h_sup : W.sup = true) (s : State) (w : Nat) (f : Wdt → Wdt) :
    (State.updWdt s w f).outside W = s.outside W := by
  unfold State.updWdt; simp [h_sup]

@[simp] theorem State.updMargin_outside (h_sup : W.sup = true) (s : State) (q : Nat) (f : Margin → Margin) :
    (State.updMargin s q f).outside W = s.outside W := by
  unfold State.updMargin; simp [h_sup]

@[simp] theorem State.marginActs_outside (h_sup : W.sup = true) (s : State) (q : Nat) :
    (State.marginActs s q).outside W = s.outside W := by
  unfold State.marginActs; simp [h_sup]

end Sys2Proof.Machine
end

