-- ==== Sys2Proof/Laws/DictReadFrame.lean ====
section
/-! SUPPORT. What each operation of Machine/DictRead.lean leaves as it was: everything outside the parts that its lemma names. -/
namespace Sys2Proof.Machine
set_option linter.unusedSimpArgs false
variable {W : Parts}

@[simp] theorem State.measured_outside (h_fresh : W.fresh = true) (s : State) :
    (State.measured s).1.outside W = s.outside W := by
  unfold State.measured; simp [h_fresh]

-- RET State.readTreadSrc Val
-- RET State.readTread Val
@[simp] theorem State.readWindow_outside (h_hall : W.hall = true) (s : State) (w : Nat) :
    (State.readWindow s w).1.outside W = s.outside W := by
  unfold State.readWindow; ((try dsimp only); repeat' split) <;> simp [h_hall]

theorem of_ite {α : Type} {c : Prop} [Decidable c] {a b x : α} (h : (if c then a else b) = x) : a = x ∨ b = x := by
  split at h
  · exact .inl h
  · exact .inr h

theorem State.readSpecial_outside (h_fresh : W.fresh = true) (h_hall : W.hall = true) (h_nvm : W.nvm = true) (h_recorder : W.recorder = true) (s t : State) (k idx sub : Nat) (st : Status) (v : Val)
    (h : s.readSpecial k idx sub = some (t, st, v)) : t.outside W = s.outside W := by
  have hp := State.psRead_outside (W := W) h_nvm h_recorder s (s.selOf k 0x1510 1)
  have hw := State.readWindow_outside (W := W) h_hall s (idx - 0x2310)
  have hm := State.measured_outside (W := W) h_fresh s
  unfold State.readSpecial at h
  dsimp only at h
  have ok {x : State} {y : Status} {z : Val} (h : some (x, y, z) = some (t, st, v)) : x = t := by
    injection h with h; injection h
  rcases of_ite h with h | h; · rw [← ok h]
  rcases of_ite h with h | h; · rw [← ok h]; exact hm
  rcases of_ite h with h | h; · rw [← ok h]; exact hm
  rcases of_ite h with h | h; · rw [← ok h]; exact hm
  rcases of_ite h with h | h
  · split at h <;> first | (rw [← ok h]; done) | (rw [← ok h]; exact hm)
  rcases of_ite h with h | h
  · split at h
    · rw [← ok h]
    · split at h <;> (rename_i e; rw [← ok h, ← hp, e])
    all_goals rw [← ok h]
  rcases of_ite h with h | h
  · repeat' split at h
    all_goals rw [← ok h]
  rcases of_ite h with h | h
  · split at h
    iterate 4 · rw [← ok h]
    · split at h <;> (rename_i e; rw [← ok h, ← hw, e])
    · rw [← ok h]
  rcases of_ite h with h | h
  · split at h <;> rw [← ok h]
  rcases of_ite h with h | h
  · split at h <;> first | (rw [← ok h]; done) | (rw [← ok h]; exact hm)
  · cases h

-- RET State.readLine Val
@[simp] theorem State.readEntry_outside (h_fresh : W.fresh = true) (h_hall : W.hall = true) (h_nvm : W.nvm = true) (h_recorder : W.recorder = true) (h_treads : W.treads = true) (s : State) (k idx sub : Nat) :
    (State.readEntry s k idx sub).1.outside W = s.outside W := by
  unfold State.readEntry
  repeat' split
  all_goals first | rfl | (rename_i e; exact State.readSpecial_outside (by assumption) (by assumption) (by assumption) (by assumption) _ _ _ _ _ _ _ e)

end Sys2Proof.Machine
end

