-- ==== Sys2Proof/Laws/ApplyFrame.lean ====
section
/-! SUPPORT. What each operation of Machine/Apply.lean leaves as it was: everything outside the parts that its lemma names. -/
namespace Sys2Proof.Machine
set_option linter.unusedSimpArgs false
variable {W : Parts}

@[simp] theorem State.put_outside (h_loops : W.loops = true) (h_params : W.params = true) (h_recorder : W.recorder = true) (h_treads : W.treads = true) (s : State) (x : Staged) :
    (State.put s x).outside W = s.outside W := by
  unfold State.put; ((try dsimp only); repeat' split) <;> simp [h_loops, h_params, h_recorder, h_treads]

-- RET State.treadBusy Bool
-- RET State.overtaken Bool
@[simp] theorem State.portApplied_outside (h_net : W.net = true) (h_outbox : W.outbox = true) (h_recorder : W.recorder = true) (old s : State) (p : Nat) :
    (State.portApplied old s p).outside W = s.outside W := by
  unfold State.portApplied; simp [h_net, h_outbox, h_recorder]

@[simp] theorem State.zModeApplied_outside (h_line : W.line = true) (h_recorder : W.recorder = true) (s old : State) (n : Nat) :
    (State.zModeApplied s old n).outside W = s.outside W := by
  unfold State.zModeApplied; simp [h_line, h_recorder]

@[simp] theorem State.encApplied_outside (h_carried : W.carried = true) (h_crossings : W.crossings = true) (h_line : W.line = true) (h_outbox : W.outbox = true) (h_recorder : W.recorder = true) (h_resyncs : W.resyncs = true) (plan : Bool) (old s : State) (n : Nat) :
    (State.encApplied plan old s n).outside W = s.outside W := by
  unfold State.encApplied; simp [h_carried, h_crossings, h_line, h_outbox, h_recorder, h_resyncs]

@[simp] theorem State.inputApplied_outside (h_line : W.line = true) (h_recorder : W.recorder = true) (s : State) (i : Nat) :
    (State.inputApplied s i).outside W = s.outside W := by
  unfold State.inputApplied; simp [h_line, h_recorder]

@[simp] theorem State.srcApplied_outside (h_line : W.line = true) (h_recorder : W.recorder = true) (old s : State) (i : Nat) :
    (State.srcApplied old s i).outside W = s.outside W := by
  unfold State.srcApplied; simp [h_line, h_recorder]

@[simp] theorem State.trgApplied_outside (h_outbox : W.outbox = true) (h_treads : W.treads = true) (old s : State) (c : Nat) :
    (State.trgApplied old s c).outside W = s.outside W := by
  unfold State.trgApplied; simp [h_outbox, h_treads]

@[simp] theorem State.bucketApplied_outside (h_recorder : W.recorder = true) (s : State) (n : Nat) :
    (State.bucketApplied s n).outside W = s.outside W := by
  unfold State.bucketApplied; simp [h_recorder]

@[simp] theorem State.wdtApplied_outside (h_sup : W.sup = true) (old s : State) (w : Nat) :
    (State.wdtApplied old s w).outside W = s.outside W := by
  unfold State.wdtApplied; simp [h_sup]

@[simp] theorem State.recordApplied_outside (h_net : W.net = true) (h_nvm : W.nvm = true) (s : State) (x : Staged) :
    (State.recordApplied s x).outside W = s.outside W := by
  unfold State.recordApplied; ((try dsimp only); repeat' split) <;> simp [h_net, h_nvm]

@[simp] theorem State.listApplied_outside (h_cans : W.cans = true) (old s : State) (n : Nat) :
    (State.listApplied old s n).outside W = s.outside W := by
  unfold State.listApplied; simp [h_cans]

@[simp] theorem State.dioApplied_outside (h_hall : W.hall = true) (old s : State) (n : Nat) :
    (State.dioApplied old s n).outside W = s.outside W := by
  unfold State.dioApplied; simp [h_hall]

@[simp] theorem State.aioApplied_outside (h_field : W.field = true) (old : State) (l : List Staged) (s : State) :
    (State.aioApplied old l s).outside W = s.outside W := by
  unfold State.aioApplied; simp [h_field]

@[simp] theorem State.applied_outside (h_cans : W.cans = true) (h_carried : W.carried = true) (h_clock : W.clock = true) (h_crossings : W.crossings = true) (h_field : W.field = true) (h_hall : W.hall = true) (h_line : W.line = true) (h_net : W.net = true) (h_nvm : W.nvm = true) (h_outbox : W.outbox = true) (h_recorder : W.recorder = true) (h_resyncs : W.resyncs = true) (h_sup : W.sup = true) (h_treads : W.treads = true) (plan : Bool) (old : State) (l : List Staged) (s : State) :
    (State.applied plan old l s).outside W = s.outside W := by
  unfold State.applied; simp [h_cans, h_carried, h_clock, h_crossings, h_field, h_hall, h_line, h_net, h_nvm, h_outbox, h_recorder, h_resyncs, h_sup, h_treads]

@[simp] theorem State.editsDropped_outside (h_recorder : W.recorder = true) (h_treads : W.treads = true) (s : State) (l : List Staged) :
    (State.editsDropped s l).outside W = s.outside W := by
  unfold State.editsDropped; simp [h_recorder, h_treads]

@[simp] theorem State.settle_outside (h_cans : W.cans = true) (h_net : W.net = true) (h_outbox : W.outbox = true) (s : State) (l : List Staged) (st : Status) :
    (State.settle s l st).outside W = s.outside W := by
  unfold State.settle; simp [h_cans, h_net, h_outbox]

@[simp] theorem State.applyShadows_outside (h_cans : W.cans = true) (h_carried : W.carried = true) (h_clock : W.clock = true) (h_crossings : W.crossings = true) (h_field : W.field = true) (h_hall : W.hall = true) (h_line : W.line = true) (h_loops : W.loops = true) (h_net : W.net = true) (h_nvm : W.nvm = true) (h_outbox : W.outbox = true) (h_params : W.params = true) (h_recorder : W.recorder = true) (h_resyncs : W.resyncs = true) (h_sup : W.sup = true) (h_treads : W.treads = true) (s : State) (l : List Staged) :
    (State.applyShadows s l).1.outside W = s.outside W := by
  unfold State.applyShadows; simp [h_cans, h_carried, h_clock, h_crossings, h_field, h_hall, h_line, h_loops, h_net, h_nvm, h_outbox, h_params, h_recorder, h_resyncs, h_sup, h_treads]

@[simp] theorem State.applyForceSet_outside (h_cans : W.cans = true) (h_hall : W.hall = true) (h_net : W.net = true) (h_outbox : W.outbox = true) (h_recorder : W.recorder = true) (s : State) (l : List Staged) :
    (State.applyForceSet s l).1.outside W = s.outside W := by
  unfold State.applyForceSet; simp [h_cans, h_hall, h_net, h_outbox, h_recorder]

@[simp] theorem State.applyList_outside (h_cans : W.cans = true) (h_carried : W.carried = true) (h_clock : W.clock = true) (h_crossings : W.crossings = true) (h_field : W.field = true) (h_hall : W.hall = true) (h_line : W.line = true) (h_loops : W.loops = true) (h_net : W.net = true) (h_nvm : W.nvm = true) (h_outbox : W.outbox = true) (h_params : W.params = true) (h_recorder : W.recorder = true) (h_resyncs : W.resyncs = true) (h_sup : W.sup = true) (h_treads : W.treads = true) (s : State) (l : List Staged) :
    (State.applyList s l).1.outside W = s.outside W := by
  unfold State.applyList; simp [h_cans, h_carried, h_clock, h_crossings, h_field, h_hall, h_line, h_loops, h_net, h_nvm, h_outbox, h_params, h_recorder, h_resyncs, h_sup, h_treads]

@[simp] theorem State.applyStaged_outside (h_cans : W.cans = true) (h_carried : W.carried = true) (h_clock : W.clock = true) (h_crossings : W.crossings = true) (h_field : W.field = true) (h_hall : W.hall = true) (h_line : W.line = true) (h_loops : W.loops = true) (h_net : W.net = true) (h_nvm : W.nvm = true) (h_outbox : W.outbox = true) (h_pair : W.pair = true) (h_params : W.params = true) (h_recorder : W.recorder = true) (h_resyncs : W.resyncs = true) (h_staged : W.staged = true) (h_sup : W.sup = true) (h_treads : W.treads = true) (s : State) :
    (State.applyStaged s).outside W = s.outside W := by
  unfold State.applyStaged; simp [h_cans, h_carried, h_clock, h_crossings, h_field, h_hall, h_line, h_loops, h_net, h_nvm, h_outbox, h_pair, h_params, h_recorder, h_resyncs, h_staged, h_sup, h_treads]

end Sys2Proof.Machine
end

