-- ==== Sys2Proof/Laws/PlanImageFrame.lean ====
section
/-! SUPPORT. What each operation of Machine/PlanImage.lean leaves as it was: everything outside the parts that its lemma names. -/
namespace Sys2Proof.Machine
set_option linter.unusedSimpArgs false
variable {W : Parts}

@[simp] theorem State.loadPlan_outside (h_hall : W.hall = true) (h_loops : W.loops = true) (h_params : W.params = true) (h_plans : W.plans = true) (h_recorder : W.recorder = true) (h_sup : W.sup = true) (h_treads : W.treads = true) (s : State) (p : Plan) :
    (State.loadPlan s p).outside W = s.outside W := by
  unfold State.loadPlan
  dsimp only
  have h := outside_foldl (W := W) p.config (fun s (e : Nat × Val) => s.setVal (e.1 / 256) (e.1 % 256) e.2) (fun t e => by simp [h_params])
    { s with plans := { s.plans with active := some p }, params := s.params.filter fun e => !isPlanKey e.1 }
  generalize List.foldl (fun s (e : Nat × Val) => State.setVal s (e.1 / 256) (e.1 % 256) e.2) _ p.config = t at h ⊢
  have h' : State.outside W { s with plans := { s.plans with active := some p }, params := s.params.filter fun e => !isPlanKey e.1 }
      = s.outside W := by simp only [State.outside, h_hall, h_loops, h_params, h_plans, h_recorder, h_sup, h_treads, if_true]
  rw [← h', ← h]
  simp only [State.outside, h_hall, h_loops, h_params, h_plans, h_recorder, h_sup, h_treads, if_true]

@[simp] theorem State.unloadPlan_outside (h_loops : W.loops = true) (h_params : W.params = true) (h_plans : W.plans = true) (h_recorder : W.recorder = true) (h_treads : W.treads = true) (s : State) :
    (State.unloadPlan s).outside W = s.outside W := by
  simp only [State.unloadPlan, State.outside, h_loops, h_params, h_plans, h_recorder, h_treads, if_true]

end Sys2Proof.Machine
end

