-- ==== Sys2Proof/Laws/WdtFrame.lean ====
section
/-! SUPPORT. What each operation of Machine/Wdt.lean leaves as it was: everything outside the parts that its lemma names. -/
namespace Sys2Proof.Machine
set_option linter.unusedSimpArgs false
variable {W : Parts}

@[simp] theorem State.wdtArm_outside (h_sup : W.sup = true) (s : State) (w : Nat) :
    (State.wdtArm s w).outside W = s.outside W := by
  unfold State.wdtArm; simp [h_sup]

@[simp] theorem State.wdtDisarm_outside (h_sup : W.sup = true) (s : State) (w : Nat) :
    (State.wdtDisarm s w).outside W = s.outside W := by
  unfold State.wdtDisarm; simp [h_sup]

@[simp] theorem State.wdtDisarmAll_outside (h_sup : W.sup = true) (s : State) :
    (State.wdtDisarmAll s).outside W = s.outside W := by
  unfold State.wdtDisarmAll; simp [h_sup]

@[simp] theorem State.wdtRelease_outside (h_sup : W.sup = true) (s : State) (g : Nat) :
    (State.wdtRelease s g).outside W = s.outside W := by
  unfold State.wdtRelease; simp [h_sup]

@[simp] theorem State.wdtRefuse_outside (h_recorder : W.recorder = true) (h_sup : W.sup = true) (s : State) (w cause : Nat) :
    (State.wdtRefuse s w cause).outside W = s.outside W := by
  unfold State.wdtRefuse; simp [h_recorder, h_sup]

@[simp] theorem State.wdtKey_outside (h_recorder : W.recorder = true) (h_sup : W.sup = true) (s : State) (w key : Nat) (serving : Bool) :
    (State.wdtKey s w key serving).1.outside W = s.outside W := by
  unfold State.wdtKey; simp [h_recorder, h_sup]

@[simp] theorem State.wdtCapture_outside (h_fresh : W.fresh = true) (h_sup : W.sup = true) (s : State) (w cause action : Nat) :
    (State.wdtCapture s w cause action).outside W = s.outside W := by
  unfold State.wdtCapture; simp [h_fresh, h_sup]

@[simp] theorem State.wdtEvent_outside (h_recorder : W.recorder = true) (s : State) :
    (State.wdtEvent s).outside W = s.outside W := by
  unfold State.wdtEvent; simp [h_recorder]

@[simp] theorem State.wdtWarn_outside (h_recorder : W.recorder = true) (h_sup : W.sup = true) (s : State) (w : Nat) :
    (State.wdtWarn s w).outside W = s.outside W := by
  unfold State.wdtWarn; simp [h_recorder, h_sup]

end Sys2Proof.Machine
end

