-- ==== Sys2Proof/Laws/ModesFrame.lean ====
section
/-! SUPPORT. What each operation of Machine/Modes.lean leaves as it was: everything outside the parts that its lemma names. -/
namespace Sys2Proof.Machine
set_option linter.unusedSimpArgs false
variable {W : Parts}

@[simp] theorem State.changeMode_outside (h_mode : W.mode = true) (h_recorder : W.recorder = true) (h_sup : W.sup = true) (s : State) (m : Mode) (row : Nat) :
    (State.changeMode s m row).outside W = s.outside W := by
  unfold State.changeMode; simp [h_mode, h_recorder, h_sup]

@[simp] theorem State.abandonTasks_outside (h_tasks : W.tasks = true) (s : State) :
    (State.abandonTasks s).outside W = s.outside W := by
  unfold State.abandonTasks; simp [h_tasks]

@[simp] theorem State.cancelEdit_outside (h_plans : W.plans = true) (h_recorder : W.recorder = true) (s : State) (reason : Nat) :
    (State.cancelEdit s reason).outside W = s.outside W := by
  unfold State.cancelEdit; simp [h_plans, h_recorder]

@[simp] theorem State.quiet_outside (h_dsp : W.dsp = true) (h_field : W.field = true) (h_hall : W.hall = true) (h_loops : W.loops = true) (h_outbox : W.outbox = true) (h_plans : W.plans = true) (h_recorder : W.recorder = true) (h_sup : W.sup = true) (h_tasks : W.tasks = true) (h_treads : W.treads = true) (s : State) :
    (State.quiet s).outside W = s.outside W := by
  unfold State.quiet; simp [h_dsp, h_field, h_hall, h_loops, h_outbox, h_plans, h_recorder, h_sup, h_tasks, h_treads]

@[simp] theorem State.enterStop_outside (h_dsp : W.dsp = true) (h_field : W.field = true) (h_hall : W.hall = true) (h_loops : W.loops = true) (h_mode : W.mode = true) (h_outbox : W.outbox = true) (h_pair : W.pair = true) (h_plans : W.plans = true) (h_recorder : W.recorder = true) (h_sup : W.sup = true) (h_tasks : W.tasks = true) (h_treads : W.treads = true) (s : State) (row : Nat) :
    (State.enterStop s row).outside W = s.outside W := by
  unfold State.enterStop; simp [h_dsp, h_field, h_hall, h_loops, h_mode, h_outbox, h_pair, h_plans, h_recorder, h_sup, h_tasks, h_treads]

@[simp] theorem State.enterFault_outside (h_dsp : W.dsp = true) (h_field : W.field = true) (h_hall : W.hall = true) (h_loops : W.loops = true) (h_mode : W.mode = true) (h_outbox : W.outbox = true) (h_plans : W.plans = true) (h_recorder : W.recorder = true) (h_sup : W.sup = true) (h_tasks : W.tasks = true) (h_treads : W.treads = true) (s : State) (cause : Nat) :
    (State.enterFault s cause).outside W = s.outside W := by
  unfold State.enterFault; simp [h_dsp, h_field, h_hall, h_loops, h_mode, h_outbox, h_plans, h_recorder, h_sup, h_tasks, h_treads]

@[simp] theorem State.faultCleared_outside (h_recorder : W.recorder = true) (h_sup : W.sup = true) (s : State) :
    (State.faultCleared s).outside W = s.outside W := by
  unfold State.faultCleared; simp [h_recorder, h_sup]

@[simp] theorem State.initHall_outside (h_cans : W.cans = true) (h_dsp : W.dsp = true) (h_field : W.field = true) (h_hall : W.hall = true) (h_loops : W.loops = true) (h_tasks : W.tasks = true) (s : State) (p : Plan) :
    (State.initHall s p).outside W = s.outside W := by
  unfold State.initHall
  have h : ∀ (t : State) a b c d, State.outside W { t with loops := a, dsp := b, field := c, cans := d } = t.outside W := by
    intros; simp only [State.outside, h_cans, h_dsp, h_field, h_hall, h_loops, h_tasks, if_true]
  simp only [h, State.updTasks_outside, outside_hall, h_cans, h_dsp, h_field, h_hall, h_loops, h_tasks]

@[simp] theorem State.clearStarted_outside (h_hall : W.hall = true) (s : State) (p : Plan) :
    (State.clearStarted s p).outside W = s.outside W := by
  unfold State.clearStarted; simp [h_hall]

@[simp] theorem State.startGalleries_outside (h_pair : W.pair = true) (h_recorder : W.recorder = true) (h_tasks : W.tasks = true) (s : State) (p : Plan) (bad : Nat) :
    (State.startGalleries s p bad).1.outside W = s.outside W := by
  unfold State.startGalleries; ((try dsimp only); repeat' split) <;> simp [h_pair, h_recorder, h_tasks]

@[simp] theorem State.retainVoid_outside (h_nvm : W.nvm = true) (h_recorder : W.recorder = true) (s : State) :
    (State.retainVoid s).outside W = s.outside W := by
  unfold State.retainVoid; simp [h_nvm, h_recorder]

@[simp] theorem State.restart_outside (h_cans : W.cans = true) (h_dsp : W.dsp = true) (h_field : W.field = true) (h_hall : W.hall = true) (h_loops : W.loops = true) (h_mode : W.mode = true) (h_nvm : W.nvm = true) (h_outbox : W.outbox = true) (h_pair : W.pair = true) (h_plans : W.plans = true) (h_recorder : W.recorder = true) (h_sup : W.sup = true) (h_tasks : W.tasks = true) (h_treads : W.treads = true) (s : State) (warm : Bool) (cause row bad : Nat) :
    (State.restart s warm cause row bad).outside W = s.outside W := by
  unfold State.restart; ((try dsimp only); repeat' split) <;> simp [h_cans, h_dsp, h_field, h_hall, h_loops, h_mode, h_nvm, h_outbox, h_pair, h_plans, h_recorder, h_sup, h_tasks, h_treads]

@[simp] theorem State.memoryReset_outside (h_cans : W.cans = true) (h_dsp : W.dsp = true) (h_field : W.field = true) (h_hall : W.hall = true) (h_loops : W.loops = true) (h_mode : W.mode = true) (h_nvm : W.nvm = true) (h_recorder : W.recorder = true) (h_sup : W.sup = true) (h_tasks : W.tasks = true) (s : State) (cause : Nat) :
    (State.memoryReset s cause).outside W = s.outside W := by
  unfold State.memoryReset; simp [h_cans, h_dsp, h_field, h_hall, h_loops, h_mode, h_nvm, h_recorder, h_sup, h_tasks]

@[simp] theorem State.startTrial_outside (h_nvm : W.nvm = true) (h_recorder : W.recorder = true) (h_sup : W.sup = true) (s : State) (how : Nat) :
    (State.startTrial s how).outside W = s.outside W := by
  unfold State.startTrial; simp [h_nvm, h_recorder, h_sup]

@[simp] theorem State.closeSilently_outside (h_net : W.net = true) (s : State) :
    (State.closeSilently s).outside W = s.outside W := by
  unfold State.closeSilently; simp [h_net]

@[simp] theorem State.pauseStart_outside (h_cans : W.cans = true) (h_loops : W.loops = true) (h_mode : W.mode = true) (h_net : W.net = true) (h_nvm : W.nvm = true) (h_recorder : W.recorder = true) (h_sup : W.sup = true) (h_treads : W.treads = true) (s : State) :
    (State.pauseStart s).outside W = s.outside W := by
  unfold State.pauseStart; simp [h_cans, h_loops, h_mode, h_net, h_nvm, h_recorder, h_sup, h_treads]

end Sys2Proof.Machine
end

