-- ==== Sys2Proof/Laws/FailureFrame.lean ====
section
/-! SUPPORT. What each operation of Machine/Failure.lean leaves as it was: everything outside the parts that its lemma names. -/
namespace Sys2Proof.Machine
set_option linter.unusedSimpArgs false
variable {W : Parts}

@[simp] theorem State.handoverOut_outside (h_dsp : W.dsp = true) (h_field : W.field = true) (h_hall : W.hall = true) (h_loops : W.loops = true) (h_mode : W.mode = true) (h_outbox : W.outbox = true) (h_pair : W.pair = true) (h_plans : W.plans = true) (h_recorder : W.recorder = true) (h_sup : W.sup = true) (h_tasks : W.tasks = true) (h_treads : W.treads = true) (s : State) (cause : Nat) :
    (State.handoverOut s cause).outside W = s.outside W := by
  unfold State.handoverOut; simp [h_dsp, h_field, h_hall, h_loops, h_mode, h_outbox, h_pair, h_plans, h_recorder, h_sup, h_tasks, h_treads]

@[simp] theorem State.leaveEdit_outside (h_mode : W.mode = true) (h_recorder : W.recorder = true) (h_sup : W.sup = true) (s : State) :
    (State.leaveEdit s).outside W = s.outside W := by
  unfold State.leaveEdit; simp [h_mode, h_recorder, h_sup]

@[simp] theorem State.galleryLost_outside (h_dsp : W.dsp = true) (h_field : W.field = true) (h_hall : W.hall = true) (h_loops : W.loops = true) (h_mode : W.mode = true) (h_outbox : W.outbox = true) (h_pair : W.pair = true) (h_plans : W.plans = true) (h_recorder : W.recorder = true) (h_sup : W.sup = true) (h_tasks : W.tasks = true) (h_treads : W.treads = true) (s : State) (g : Nat) :
    (State.galleryLost s g).outside W = s.outside W := by
  unfold State.galleryLost; simp [h_dsp, h_field, h_hall, h_loops, h_mode, h_outbox, h_pair, h_plans, h_recorder, h_sup, h_tasks, h_treads]

@[simp] theorem State.galleryDown_outside (h_dsp : W.dsp = true) (h_field : W.field = true) (h_hall : W.hall = true) (h_loops : W.loops = true) (h_mode : W.mode = true) (h_outbox : W.outbox = true) (h_pair : W.pair = true) (h_plans : W.plans = true) (h_recorder : W.recorder = true) (h_sup : W.sup = true) (h_tasks : W.tasks = true) (h_treads : W.treads = true) (s : State) (g : Nat) :
    (State.galleryDown s g).outside W = s.outside W := by
  unfold State.galleryDown; simp [h_dsp, h_field, h_hall, h_loops, h_mode, h_outbox, h_pair, h_plans, h_recorder, h_sup, h_tasks, h_treads]

@[simp] theorem State.selfCheckFail_outside (h_dsp : W.dsp = true) (h_field : W.field = true) (h_hall : W.hall = true) (h_loops : W.loops = true) (h_mode : W.mode = true) (h_outbox : W.outbox = true) (h_pair : W.pair = true) (h_plans : W.plans = true) (h_recorder : W.recorder = true) (h_sup : W.sup = true) (h_tasks : W.tasks = true) (h_treads : W.treads = true) (s : State) (g cause : Nat) :
    (State.selfCheckFail s g cause).outside W = s.outside W := by
  unfold State.selfCheckFail; simp [h_dsp, h_field, h_hall, h_loops, h_mode, h_outbox, h_pair, h_plans, h_recorder, h_sup, h_tasks, h_treads]

@[simp] theorem State.countScrub_outside (h_pair : W.pair = true) (s : State) (n : Nat) :
    (State.countScrub s n).outside W = s.outside W := by
  unfold State.countScrub; simp [h_pair]

@[simp] theorem State.codeError_outside (h_dsp : W.dsp = true) (h_field : W.field = true) (h_hall : W.hall = true) (h_loops : W.loops = true) (h_mode : W.mode = true) (h_outbox : W.outbox = true) (h_pair : W.pair = true) (h_plans : W.plans = true) (h_recorder : W.recorder = true) (h_sup : W.sup = true) (h_tasks : W.tasks = true) (h_treads : W.treads = true) (s : State) (g addr kind : Nat) :
    (State.codeError s g addr kind).outside W = s.outside W := by
  unfold State.codeError; ((try dsimp only); repeat' split) <;> simp [h_dsp, h_field, h_hall, h_loops, h_mode, h_outbox, h_pair, h_plans, h_recorder, h_sup, h_tasks, h_treads]

@[simp] theorem State.pinsHarmless_outside (h_field : W.field = true) (h_outbox : W.outbox = true) (h_treads : W.treads = true) (s : State) (at_ : Nat) :
    (State.pinsHarmless s at_).outside W = s.outside W := by
  simp only [State.pinsHarmless, State.outside, h_field, h_outbox, h_treads, if_true]

@[simp] theorem State.fallToReset_outside (h_field : W.field = true) (h_inReset : W.inReset = true) (h_outbox : W.outbox = true) (h_sup : W.sup = true) (h_treads : W.treads = true) (s : State) (cause : Nat) :
    (State.fallToReset s cause).outside W = s.outside W := by
  unfold State.fallToReset; simp [h_field, h_inReset, h_outbox, h_sup, h_treads]

@[simp] theorem State.wdtExpire_outside (h_dsp : W.dsp = true) (h_field : W.field = true) (h_fresh : W.fresh = true) (h_hall : W.hall = true) (h_inReset : W.inReset = true) (h_loops : W.loops = true) (h_mode : W.mode = true) (h_outbox : W.outbox = true) (h_pair : W.pair = true) (h_plans : W.plans = true) (h_recorder : W.recorder = true) (h_sup : W.sup = true) (h_tasks : W.tasks = true) (h_treads : W.treads = true) (s : State) (w cause : Nat) :
    (State.wdtExpire s w cause).outside W = s.outside W := by
  unfold State.wdtExpire; simp [h_dsp, h_field, h_fresh, h_hall, h_inReset, h_loops, h_mode, h_outbox, h_pair, h_plans, h_recorder, h_sup, h_tasks, h_treads]

@[simp] theorem State.hallError_outside (h_dsp : W.dsp = true) (h_field : W.field = true) (h_hall : W.hall = true) (h_loops : W.loops = true) (h_mode : W.mode = true) (h_outbox : W.outbox = true) (h_pair : W.pair = true) (h_plans : W.plans = true) (h_recorder : W.recorder = true) (h_sup : W.sup = true) (h_tasks : W.tasks = true) (h_treads : W.treads = true) (s : State) (kind addr : Nat) :
    (State.hallError s kind addr).outside W = s.outside W := by
  unfold State.hallError; simp [h_dsp, h_field, h_hall, h_loops, h_mode, h_outbox, h_pair, h_plans, h_recorder, h_sup, h_tasks, h_treads]

@[simp] theorem State.hallRead_outside (h_dsp : W.dsp = true) (h_field : W.field = true) (h_hall : W.hall = true) (h_loops : W.loops = true) (h_mode : W.mode = true) (h_outbox : W.outbox = true) (h_pair : W.pair = true) (h_plans : W.plans = true) (h_recorder : W.recorder = true) (h_sup : W.sup = true) (h_tasks : W.tasks = true) (h_treads : W.treads = true) (s : State) (result kind addr : Nat) :
    (State.hallRead s result kind addr).outside W = s.outside W := by
  unfold State.hallRead; (repeat' split) <;> simp only [outside_ite, outside_fst_ite, ite_self, outside_when, outside_foldl, implies_true, forall_const, outside_dsp, outside_field, outside_hall, outside_loops, outside_mode, outside_outbox, outside_pair, outside_plans, outside_recorder, outside_sup, outside_tasks, outside_treads, outside_treads_tasks, State.countScrub_outside, State.ev_outside, State.result_outside, State.hallError_outside, h_dsp, h_field, h_hall, h_loops, h_mode, h_outbox, h_pair, h_plans, h_recorder, h_sup, h_tasks, h_treads]

end Sys2Proof.Machine
end

