-- ==== Sys2Proof/Laws/TaskRunFrame.lean ====
section
/-! SUPPORT. What each operation of Machine/TaskRun.lean leaves as it was: everything outside the parts that its lemma names. -/
namespace Sys2Proof.Machine
set_option linter.unusedSimpArgs false
variable {W : Parts}

@[simp] theorem State.releaseTask_outside (h_sup : W.sup = true) (h_tasks : W.tasks = true) (s : State) (k info : Nat) :
    (State.releaseTask s k info).outside W = s.outside W := by
  unfold State.releaseTask; simp [h_sup, h_tasks]

@[simp] theorem State.staleCheck_outside (h_hall : W.hall = true) (h_recorder : W.recorder = true) (s : State) (k : Nat) :
    (State.staleCheck s k).outside W = s.outside W := by
  unfold State.staleCheck; simp [h_hall, h_recorder]

@[simp] theorem State.copyTakes_outside (h_hall : W.hall = true) (s : State) (l : List Section) :
    (State.copyTakes s l).outside W = s.outside W := by
  unfold State.copyTakes; simp [h_hall]

@[simp] theorem State.copyIn_outside (h_hall : W.hall = true) (h_recorder : W.recorder = true) (h_tasks : W.tasks = true) (s : State) (k : Nat) :
    (State.copyIn s k).outside W = s.outside W := by
  unfold State.copyIn; simp [h_hall, h_recorder, h_tasks]

@[simp] theorem State.onTime_outside (h_now : W.now = true) (s : State) (k : Nat) (f : State → State) (h : ∀ t, (f t).outside W = t.outside W) :
    (State.onTime s k f).outside W = s.outside W := by
  unfold State.onTime; split
  · exact State.lagged_outside h_now s f h
  · exact h s

@[simp] theorem State.wdsKeys_outside (h_dsp : W.dsp = true) (h_field : W.field = true) (h_fresh : W.fresh = true) (h_hall : W.hall = true) (h_inReset : W.inReset = true) (h_loops : W.loops = true) (h_mode : W.mode = true) (h_outbox : W.outbox = true) (h_pair : W.pair = true) (h_plans : W.plans = true) (h_recorder : W.recorder = true) (h_sup : W.sup = true) (h_tasks : W.tasks = true) (h_treads : W.treads = true) (s : State) (g k : Nat) (keys : List Nat) :
    (State.wdsKeys s g k keys).outside W = s.outside W := by
  unfold State.wdsKeys; simp [h_dsp, h_field, h_fresh, h_hall, h_inReset, h_loops, h_mode, h_outbox, h_pair, h_plans, h_recorder, h_sup, h_tasks, h_treads]

@[simp] theorem State.bundle_outside (h_dsp : W.dsp = true) (h_field : W.field = true) (h_fresh : W.fresh = true) (h_hall : W.hall = true) (h_inReset : W.inReset = true) (h_loops : W.loops = true) (h_mode : W.mode = true) (h_outbox : W.outbox = true) (h_pair : W.pair = true) (h_plans : W.plans = true) (h_recorder : W.recorder = true) (h_sup : W.sup = true) (h_tasks : W.tasks = true) (h_treads : W.treads = true) (s : State) (g k : Nat) :
    (State.bundle s g k).outside W = s.outside W := by
  unfold State.bundle; simp [h_dsp, h_field, h_fresh, h_hall, h_inReset, h_loops, h_mode, h_outbox, h_pair, h_plans, h_recorder, h_sup, h_tasks, h_treads]

end Sys2Proof.Machine
end

