-- ==== Sys2Proof/Laws/LandingFrame.lean ====
section
/-! SUPPORT. What each operation of Machine/Landing.lean leaves as it was: everything outside the parts that its lemma names. -/
namespace Sys2Proof.Machine
set_option linter.unusedSimpArgs false
variable {W : Parts}

@[simp] theorem State.sendFrameOut_outside (h_net : W.net = true) (h_outbox : W.outbox = true) (s : State) (n : Nat) (f : OutFrame) :
    (State.sendFrameOut s n f).outside W = s.outside W := by
  unfold State.sendFrameOut; simp [h_net, h_outbox]

@[simp] theorem State.sendMessage_outside (h_cans : W.cans = true) (h_net : W.net = true) (h_outbox : W.outbox = true) (h_recorder : W.recorder = true) (s : State) (q : Nat) (m : Msg) :
    (State.sendMessage s q m).outside W = s.outside W := by
  unfold State.sendMessage; ((try dsimp only); repeat' split) <;> simp [h_cans, h_net, h_outbox, h_recorder]

@[simp] theorem State.sendMessages_outside (h_cans : W.cans = true) (h_net : W.net = true) (h_outbox : W.outbox = true) (h_recorder : W.recorder = true) (h_tasks : W.tasks = true) (s : State) (k : Nat) :
    (State.sendMessages s k).outside W = s.outside W := by
  unfold State.sendMessages; simp [h_cans, h_net, h_outbox, h_recorder, h_tasks]

@[simp] theorem State.outputsLeave_outside (h_cans : W.cans = true) (h_field : W.field = true) (h_net : W.net = true) (h_outbox : W.outbox = true) (h_pair : W.pair = true) (h_recorder : W.recorder = true) (h_tasks : W.tasks = true) (s : State) (k : Nat) (outs : List Section) :
    (State.outputsLeave s k outs).outside W = s.outside W := by
  unfold State.outputsLeave; simp [h_cans, h_field, h_net, h_outbox, h_pair, h_recorder, h_tasks]

@[simp] theorem State.itemBytes_outside (h_fresh : W.fresh = true) (h_hall : W.hall = true) (h_nvm : W.nvm = true) (h_recorder : W.recorder = true) (h_treads : W.treads = true) (s : State) (k : Nat) (a : Addr) :
    (State.itemBytes s k a).1.outside W = s.outside W := by
  unfold State.itemBytes; simp [h_fresh, h_hall, h_nvm, h_recorder, h_treads]

@[simp] theorem State.itemsBytes_outside (h_fresh : W.fresh = true) (h_hall : W.hall = true) (h_nvm : W.nvm = true) (h_recorder : W.recorder = true) (h_treads : W.treads = true) (s : State) (k : Nat) (l : List Addr) :
    (State.itemsBytes s k l).1.outside W = s.outside W := by
  induction l generalizing s with
  | nil => rfl
  | cons a l ih => unfold State.itemsBytes; simp only [ih, State.itemBytes_outside, *]

@[simp] theorem State.pushUnsent_outside (h_cans : W.cans = true) (h_net : W.net = true) (s : State) (x : Subscription) :
    (State.pushUnsent s x).outside W = s.outside W := by
  unfold State.pushUnsent; simp [h_cans, h_net]

@[simp] theorem State.pushOne_outside (h_cans : W.cans = true) (h_fresh : W.fresh = true) (h_hall : W.hall = true) (h_net : W.net = true) (h_nvm : W.nvm = true) (h_outbox : W.outbox = true) (h_recorder : W.recorder = true) (h_treads : W.treads = true) (s : State) (landing : Nat) (x : Subscription) :
    (State.pushOne s landing x).outside W = s.outside W := by
  unfold State.pushOne
  dsimp only
  split
  · simp [h_cans, h_fresh, h_hall, h_net, h_nvm, h_outbox, h_recorder, h_treads]
  · split <;> simp [h_cans, h_fresh, h_hall, h_net, h_nvm, h_outbox, h_recorder, h_treads]

@[simp] theorem State.pushes_outside (h_cans : W.cans = true) (h_fresh : W.fresh = true) (h_hall : W.hall = true) (h_net : W.net = true) (h_nvm : W.nvm = true) (h_outbox : W.outbox = true) (h_recorder : W.recorder = true) (h_treads : W.treads = true) (s : State) (k landing : Nat) :
    (State.pushes s k landing).outside W = s.outside W := by
  unfold State.pushes; simp [h_cans, h_fresh, h_hall, h_net, h_nvm, h_outbox, h_recorder, h_treads]

@[simp] theorem State.lagging_outside (h_outbox : W.outbox = true) (h_pair : W.pair = true) (h_recorder : W.recorder = true) (s : State) (cause : Nat) :
    (State.lagging s cause).outside W = s.outside W := by
  unfold State.lagging; simp [h_outbox, h_pair, h_recorder]

@[simp] theorem State.sealDelta_outside (h_outbox : W.outbox = true) (h_pair : W.pair = true) (h_recorder : W.recorder = true) (s : State) (k landing : Nat) (major swapped : Bool) :
    (State.sealDelta s k landing major swapped).outside W = s.outside W := by
  unfold State.sealDelta; simp [h_outbox, h_pair, h_recorder]

@[simp] theorem State.releaseArmf_outside (h_outbox : W.outbox = true) (h_pair : W.pair = true) (h_tasks : W.tasks = true) (s : State) (k : Nat) :
    (State.releaseArmf s k).outside W = s.outside W := by
  unfold State.releaseArmf; simp [h_outbox, h_pair, h_tasks]

@[simp] theorem State.landingFlags_outside (h_recorder : W.recorder = true) (h_tasks : W.tasks = true) (s : State) (k : Nat) :
    (State.landingFlags s k).outside W = s.outside W := by
  unfold State.landingFlags; ((try dsimp only); repeat' split) <;> simp [h_recorder, h_tasks]

@[simp] theorem State.endExecution_outside (h_tasks : W.tasks = true) (s : State) (k landing exec : Nat) :
    (State.endExecution s k landing exec).outside W = s.outside W := by
  unfold State.endExecution; simp [h_tasks]

@[simp] theorem State.landTask_outside (h_cans : W.cans = true) (h_field : W.field = true) (h_fresh : W.fresh = true) (h_hall : W.hall = true) (h_net : W.net = true) (h_nvm : W.nvm = true) (h_outbox : W.outbox = true) (h_pair : W.pair = true) (h_recorder : W.recorder = true) (h_tasks : W.tasks = true) (h_treads : W.treads = true) (s : State) (k : Nat) :
    (State.landTask s k).outside W = s.outside W := by
  unfold State.landTask; simp [h_cans, h_field, h_fresh, h_hall, h_net, h_nvm, h_outbox, h_pair, h_recorder, h_tasks, h_treads]

@[simp] theorem State.noteDirty_outside (h_sup : W.sup = true) (s : State) (img : Bytes) :
    (State.noteDirty s img).outside W = s.outside W := by
  unfold State.noteDirty; simp [h_sup]

@[simp] theorem State.ckptChange_outside (h_recorder : W.recorder = true) (h_sup : W.sup = true) (s : State) :
    (State.ckptChange s).outside W = s.outside W := by
  unfold State.ckptChange; ((try dsimp only); repeat' split) <;> simp [h_recorder, h_sup]

@[simp] theorem State.addPoints_outside (h_hall : W.hall = true) (s : State) (p : Plan) (l : List Range) :
    (State.addPoints s p l).outside W = s.outside W := by
  unfold State.addPoints; simp [h_hall]

@[simp] theorem State.swapEdit_outside (h_hall : W.hall = true) (h_mode : W.mode = true) (h_plans : W.plans = true) (h_recorder : W.recorder = true) (h_sup : W.sup = true) (h_tasks : W.tasks = true) (s : State) (landing : Nat) :
    (State.swapEdit s landing).outside W = s.outside W := by
  unfold State.swapEdit; ((try dsimp only); repeat' split) <;> simp [h_hall, h_mode, h_plans, h_recorder, h_sup, h_tasks]

@[simp] theorem State.swapStep_outside (h_hall : W.hall = true) (h_mode : W.mode = true) (h_outbox : W.outbox = true) (h_pair : W.pair = true) (h_plans : W.plans = true) (h_recorder : W.recorder = true) (h_sup : W.sup = true) (h_tasks : W.tasks = true) (s : State) (landing : Nat) :
    (State.swapStep s landing).1.outside W = s.outside W := by
  unfold State.swapStep; simp [h_hall, h_mode, h_outbox, h_pair, h_plans, h_recorder, h_sup, h_tasks]

@[simp] theorem State.fallbackStep_outside (h_outbox : W.outbox = true) (h_pair : W.pair = true) (h_recorder : W.recorder = true) (h_tasks : W.tasks = true) (s : State) (landing : Nat) :
    (State.fallbackStep s landing).outside W = s.outside W := by
  unfold State.fallbackStep; simp [h_outbox, h_pair, h_recorder, h_tasks]

@[simp] theorem State.bulkStep_outside (h_outbox : W.outbox = true) (h_pair : W.pair = true) (s : State) (landing : Nat) :
    (State.bulkStep s landing).outside W = s.outside W := by
  unfold State.bulkStep; simp [h_outbox, h_pair]

@[simp] theorem State.partnerCheck_outside (h_mode : W.mode = true) (h_plans : W.plans = true) (h_recorder : W.recorder = true) (h_sup : W.sup = true) (s : State) (landing : Nat) :
    (State.partnerCheck s landing).outside W = s.outside W := by
  unfold State.partnerCheck; simp [h_mode, h_plans, h_recorder, h_sup]

@[simp] theorem State.dspOutputs_outside (h_cans : W.cans = true) (h_field : W.field = true) (h_outbox : W.outbox = true) (h_pair : W.pair = true) (s : State) (old : Dsp) :
    (State.dspOutputs s old).outside W = s.outside W := by
  unfold State.dspOutputs; simp [h_cans, h_field, h_outbox, h_pair]

@[simp] theorem State.majorSteps_outside (h_cans : W.cans = true) (h_carried : W.carried = true) (h_clock : W.clock = true) (h_crossings : W.crossings = true) (h_dsp : W.dsp = true) (h_field : W.field = true) (h_fresh : W.fresh = true) (h_hall : W.hall = true) (h_line : W.line = true) (h_loops : W.loops = true) (h_mode : W.mode = true) (h_net : W.net = true) (h_nvm : W.nvm = true) (h_outbox : W.outbox = true) (h_pair : W.pair = true) (h_params : W.params = true) (h_plans : W.plans = true) (h_recorder : W.recorder = true) (h_resyncs : W.resyncs = true) (h_staged : W.staged = true) (h_sup : W.sup = true) (h_tasks : W.tasks = true) (h_treads : W.treads = true) (s : State) (img : Bytes) (outs : List Section) (exec : Option Nat) :
    (State.majorSteps s img outs exec).outside W = s.outside W := by
  unfold State.majorSteps; ((try dsimp only); repeat' split) <;> simp [h_cans, h_carried, h_clock, h_crossings, h_dsp, h_field, h_fresh, h_hall, h_line, h_loops, h_mode, h_net, h_nvm, h_outbox, h_pair, h_params, h_plans, h_recorder, h_resyncs, h_staged, h_sup, h_tasks, h_treads]

@[simp] theorem State.majorLanding_outside (h_cans : W.cans = true) (h_carried : W.carried = true) (h_clock : W.clock = true) (h_crossings : W.crossings = true) (h_dsp : W.dsp = true) (h_field : W.field = true) (h_fresh : W.fresh = true) (h_hall : W.hall = true) (h_line : W.line = true) (h_loops : W.loops = true) (h_mode : W.mode = true) (h_net : W.net = true) (h_nvm : W.nvm = true) (h_outbox : W.outbox = true) (h_pair : W.pair = true) (h_params : W.params = true) (h_plans : W.plans = true) (h_recorder : W.recorder = true) (h_resyncs : W.resyncs = true) (h_staged : W.staged = true) (h_sup : W.sup = true) (h_tasks : W.tasks = true) (h_treads : W.treads = true) (s : State) :
    (State.majorLanding s).outside W = s.outside W := by
  unfold State.majorLanding; simp [h_cans, h_carried, h_clock, h_crossings, h_dsp, h_field, h_fresh, h_hall, h_line, h_loops, h_mode, h_net, h_nvm, h_outbox, h_pair, h_params, h_plans, h_recorder, h_resyncs, h_staged, h_sup, h_tasks, h_treads]

@[simp] theorem State.acksNow_outside (h_cans : W.cans = true) (h_hall : W.hall = true) (s : State) :
    (State.acksNow s).outside W = s.outside W := by
  unfold State.acksNow; simp [h_cans, h_hall]

@[simp] theorem State.userEvent_outside (h_recorder : W.recorder = true) (s : State) (e : UserEvt) :
    (State.userEvent s e).outside W = s.outside W := by
  unfold State.userEvent; simp [h_recorder]

end Sys2Proof.Machine
end

