-- ==== Sys2Proof/Laws/PairOpsFrame.lean ====
section
/-! SUPPORT. What each operation of Machine/PairOps.lean leaves as it was: everything outside the parts that its lemma names. -/
namespace Sys2Proof.Machine
set_option linter.unusedSimpArgs false
variable {W : Parts}

@[simp] theorem State.frame_outside (h_pair : W.pair = true) (s : State) (crc : Bool) (f : State → State)
    (h : ∀ t, (f t).outside W = t.outside W) : (s.frame crc f).outside W = s.outside W := by
  unfold State.frame; repeat' split
  all_goals simp only [h, State.updPair_outside, h_pair]

theorem State.takeSeq_outside (h_pair : W.pair = true) (s t : State) (cls seq : Nat) (b : Bool) (h : s.takeSeq cls seq = some (t, b)) :
    t.outside W = s.outside W := by
  unfold State.takeSeq at h
  dsimp only at h
  have ok {x : State} {y : Bool} (h : some (x, y) = some (t, b)) : x = t := by injection h with h; injection h
  rcases of_ite h with h | h; · rw [← ok h]; exact State.updPair_outside h_pair _ _
  rcases of_ite h with h | h; · rw [← ok h]; exact State.updPair_outside h_pair _ _
  rcases of_ite h with h | h; · rw [← ok h]; exact State.updPair_outside h_pair _ _
  cases h

@[simp] theorem State.frameSeq_outside (h_pair : W.pair = true) (s : State) (crc : Bool) (cls seq : Nat) (f : Bool → State → State)
    (h : ∀ b t, (f b t).outside W = t.outside W) : (State.frameSeq s crc cls seq f).outside W = s.outside W := by
  unfold State.frameSeq
  split
  · rfl
  · refine State.frame_outside h_pair s crc _ fun t => ?_
    split
    · rename_i u b e
      rw [h]; exact State.takeSeq_outside h_pair _ _ _ _ _ e
    · rfl

@[simp] theorem State.reachHot_outside (h_pair : W.pair = true) (h_sup : W.sup = true) (s : State) :
    (State.reachHot s).outside W = s.outside W := by
  unfold State.reachHot; simp [h_pair, h_sup]

@[simp] theorem State.setRole_outside (h_pair : W.pair = true) (h_recorder : W.recorder = true) (s : State) (role cause : Nat) :
    (State.setRole s role cause).outside W = s.outside W := by
  unfold State.setRole; simp [h_pair, h_recorder]

@[simp] theorem State.activeAlone_outside (h_pair : W.pair = true) (h_recorder : W.recorder = true) (s : State) :
    (State.activeAlone s).outside W = s.outside W := by
  unfold State.activeAlone; simp [h_pair, h_recorder]

@[simp] theorem State.cancelSwitch_outside (h_pair : W.pair = true) (h_recorder : W.recorder = true) (s : State) (cause : Nat) :
    (State.cancelSwitch s cause).outside W = s.outside W := by
  unfold State.cancelSwitch; simp [h_pair, h_recorder]

@[simp] theorem State.letJoin_outside (h_pair : W.pair = true) (h_recorder : W.recorder = true) (s : State) (lockstep : Bool) :
    (State.letJoin s lockstep).outside W = s.outside W := by
  unfold State.letJoin; simp [h_pair, h_recorder]

@[simp] theorem State.askJoin_outside (h_outbox : W.outbox = true) (h_pair : W.pair = true) (s : State) (lockstep : Bool) :
    (State.askJoin s lockstep).outside W = s.outside W := by
  unfold State.askJoin; simp [h_outbox, h_pair]

@[simp] theorem State.enterStandby_outside (h_mode : W.mode = true) (h_pair : W.pair = true) (h_recorder : W.recorder = true) (h_sup : W.sup = true) (s : State) (row cause : Nat) :
    (State.enterStandby s row cause).outside W = s.outside W := by
  unfold State.enterStandby; simp [h_mode, h_pair, h_recorder, h_sup]

@[simp] theorem State.pairWarm_outside (h_outbox : W.outbox = true) (h_pair : W.pair = true) (h_recorder : W.recorder = true) (s : State) (h : Partner) :
    (State.pairWarm s h).outside W = s.outside W := by
  unfold State.pairWarm; simp [h_outbox, h_pair, h_recorder]

@[simp] theorem State.pairCold_outside (h_mode : W.mode = true) (h_pair : W.pair = true) (h_recorder : W.recorder = true) (h_sup : W.sup = true) (s : State) (h : Partner) :
    (State.pairCold s h).outside W = s.outside W := by
  unfold State.pairCold; simp [h_mode, h_pair, h_recorder, h_sup]

@[simp] theorem State.takeItem_outside (h_cans : W.cans = true) (h_field : W.field = true) (h_hall : W.hall = true) (h_line : W.line = true) (h_outbox : W.outbox = true) (h_pair : W.pair = true) (h_recorder : W.recorder = true) (h_tasks : W.tasks = true) (h_treads : W.treads = true) (s : State) (i : FwdItem) : (s.takeItem i).outside W = s.outside W := by
  cases i <;> unfold State.takeItem
  · simp only [outside_when, State.quadError_outside, State.ev_outside, State.faultEnc_outside, State.zEdge_outside, State.countStep_outside, outside_ite, ite_self, implies_true, *]
  · simp only [State.ssiRead_outside, *]
  · simp only [State.dioSample_outside, *]
  · simp only [State.aioSample_outside, *]
  · simp only [State.takeOutputs_outside, State.putWord_outside, *]
  · simp only [State.takeOutputs_outside, State.putBit_outside, *]

@[simp] theorem State.toLag_outside (h_pair : W.pair = true) (s : State) (l : List (Nat × LagItem)) :
    (State.toLag s l).outside W = s.outside W := by
  unfold State.toLag; simp [h_pair]

@[simp] theorem State.lockstepLost_outside (h_outbox : W.outbox = true) (h_pair : W.pair = true) (s : State) :
    (State.lockstepLost s).outside W = s.outside W := by
  unfold State.lockstepLost; simp [h_outbox, h_pair]

@[simp] theorem State.driveDigital_outside (h_field : W.field = true) (h_outbox : W.outbox = true) (h_treads : W.treads = true) (s : State) :
    (State.driveDigital s).outside W = s.outside W := by
  unfold State.driveDigital; simp [h_field, h_outbox, h_treads]

@[simp] theorem State.driveAll_outside (h_field : W.field = true) (h_outbox : W.outbox = true) (h_treads : W.treads = true) (s : State) :
    (State.driveAll s).outside W = s.outside W := by
  unfold State.driveAll; simp [h_field, h_outbox, h_treads]

@[simp] theorem State.laneSet_outside (h_carried : W.carried = true) (h_crossings : W.crossings = true) (h_pair : W.pair = true) (h_recorder : W.recorder = true) (h_resyncs : W.resyncs = true) (s : State) (lane : Nat) (up : Bool) :
    (State.laneSet s lane up).outside W = s.outside W := by
  unfold State.laneSet; simp [h_carried, h_crossings, h_pair, h_recorder, h_resyncs]

@[simp] theorem State.partnerLost_outside (h_dsp : W.dsp = true) (h_field : W.field = true) (h_hall : W.hall = true) (h_loops : W.loops = true) (h_mode : W.mode = true) (h_outbox : W.outbox = true) (h_pair : W.pair = true) (h_plans : W.plans = true) (h_recorder : W.recorder = true) (h_sup : W.sup = true) (h_tasks : W.tasks = true) (h_treads : W.treads = true) (s : State) (cause : Nat) :
    (State.partnerLost s cause).outside W = s.outside W := by
  unfold State.partnerLost; simp [h_dsp, h_field, h_hall, h_loops, h_mode, h_outbox, h_pair, h_plans, h_recorder, h_sup, h_tasks, h_treads]

@[simp] theorem State.switchRequest_outside (h_outbox : W.outbox = true) (h_pair : W.pair = true) (h_recorder : W.recorder = true) (s : State) :
    (State.switchRequest s).outside W = s.outside W := by
  unfold State.switchRequest; simp [h_outbox, h_pair, h_recorder]

@[simp] theorem State.recommendTakeover_outside (h_dsp : W.dsp = true) (h_field : W.field = true) (h_hall : W.hall = true) (h_loops : W.loops = true) (h_mode : W.mode = true) (h_outbox : W.outbox = true) (h_pair : W.pair = true) (h_plans : W.plans = true) (h_recorder : W.recorder = true) (h_sup : W.sup = true) (h_tasks : W.tasks = true) (h_treads : W.treads = true) (s : State) :
    (State.recommendTakeover s).outside W = s.outside W := by
  unfold State.recommendTakeover; simp [h_dsp, h_field, h_hall, h_loops, h_mode, h_outbox, h_pair, h_plans, h_recorder, h_sup, h_tasks, h_treads]

end Sys2Proof.Machine
end

