-- ==== Sys2Proof/Laws/UpkeepFrame.lean ====
section
/-! SUPPORT. What each operation of Machine/Upkeep.lean leaves as it was: everything outside the parts that its lemma names. -/
namespace Sys2Proof.Machine
set_option linter.unusedSimpArgs false
variable {W : Parts}

@[simp] theorem State.archiveNext_outside (h_recorder : W.recorder = true) (s : State) :
    (State.archiveNext s).outside W = s.outside W := by
  unfold State.archiveNext; ((try dsimp only); repeat' split) <;> simp [h_recorder]

@[simp] theorem State.marginJudge_outside (h_dsp : W.dsp = true) (h_field : W.field = true) (h_hall : W.hall = true) (h_loops : W.loops = true) (h_mode : W.mode = true) (h_outbox : W.outbox = true) (h_pair : W.pair = true) (h_plans : W.plans = true) (h_recorder : W.recorder = true) (h_sup : W.sup = true) (h_tasks : W.tasks = true) (h_treads : W.treads = true) (s : State) (q : Nat) :
    (State.marginJudge s q).outside W = s.outside W := by
  unfold State.marginJudge; simp [h_dsp, h_field, h_hall, h_loops, h_mode, h_outbox, h_pair, h_plans, h_recorder, h_sup, h_tasks, h_treads]

@[simp] theorem State.ckptChoose_outside (h_sup : W.sup = true) (s : State) :
    (State.ckptChoose s).outside W = s.outside W := by
  unfold State.ckptChoose; simp [h_sup]

@[simp] theorem State.sectorErased_outside (h_dsp : W.dsp = true) (h_field : W.field = true) (h_hall : W.hall = true) (h_loops : W.loops = true) (h_mode : W.mode = true) (h_nvm : W.nvm = true) (h_outbox : W.outbox = true) (h_pair : W.pair = true) (h_plans : W.plans = true) (h_recorder : W.recorder = true) (h_sup : W.sup = true) (h_tasks : W.tasks = true) (h_treads : W.treads = true) (s : State) (addr live us erases : Nat) :
    (State.sectorErased s addr live us erases).outside W = s.outside W := by
  unfold State.sectorErased; ((try dsimp only); repeat' split) <;> simp [h_dsp, h_field, h_hall, h_loops, h_mode, h_nvm, h_outbox, h_pair, h_plans, h_recorder, h_sup, h_tasks, h_treads]

@[simp] theorem State.setCalendar_outside (h_clock : W.clock = true) (h_sup : W.sup = true) (s : State) (ticks : Nat) :
    (State.setCalendar s ticks).outside W = s.outside W := by
  unfold State.setCalendar; simp [h_clock, h_sup]

end Sys2Proof.Machine
end

