-- ==== Sys2Proof/Laws/UpdateFrame.lean ====
section
/-! SUPPORT. What each operation of Machine/Update.lean leaves as it was: everything outside the parts that its lemma names. -/
namespace Sys2Proof.Machine
set_option linter.unusedSimpArgs false
variable {W : Parts}

@[simp] theorem State.leaveUpdate_outside (h_mode : W.mode = true) (h_recorder : W.recorder = true) (h_sup : W.sup = true) (s : State) :
    (State.leaveUpdate s).outside W = s.outside W := by
  unfold State.leaveUpdate; simp [h_mode, h_recorder, h_sup]

@[simp] theorem State.runSlot_outside (h_nvm : W.nvm = true) (h_recorder : W.recorder = true) (h_sup : W.sup = true) (s : State) :
    (State.runSlot s).1.outside W = s.outside W := by
  unfold State.runSlot; ((try dsimp only); repeat' split) <;> simp [h_nvm, h_recorder, h_sup]

end Sys2Proof.Machine
end

