-- ==== Sys2Proof/Laws/WriteRulesFrame.lean ====
section
/-! SUPPORT. What each operation of Machine/WriteRules.lean leaves as it was: everything outside the parts that its lemma names. -/
namespace Sys2Proof.Machine
set_option linter.unusedSimpArgs false
variable {W : Parts}

-- RET State.stateOk Bool
-- RET State.writeStatus Status
@[simp] theorem State.setSel_outside (h_net : W.net = true) (s : State) (k idx sub n : Nat) :
    (State.setSel s k idx sub n).outside W = s.outside W := by
  unfold State.setSel; simp [h_net]

@[simp] theorem State.clearFault_outside (h_hall : W.hall = true) (h_loops : W.loops = true) (h_mode : W.mode = true) (h_params : W.params = true) (h_plans : W.plans = true) (h_recorder : W.recorder = true) (h_sup : W.sup = true) (h_treads : W.treads = true) (s : State) (bad : Nat) :
    (State.clearFault s bad).outside W = s.outside W := by
  unfold State.clearFault; ((try dsimp only); repeat' split) <;> simp [h_hall, h_loops, h_mode, h_params, h_plans, h_recorder, h_sup, h_treads]

@[simp] theorem State.restartRequest_outside (h_cans : W.cans = true) (h_dsp : W.dsp = true) (h_field : W.field = true) (h_hall : W.hall = true) (h_loops : W.loops = true) (h_mode : W.mode = true) (h_nvm : W.nvm = true) (h_outbox : W.outbox = true) (h_pair : W.pair = true) (h_plans : W.plans = true) (h_recorder : W.recorder = true) (h_sup : W.sup = true) (h_tasks : W.tasks = true) (h_treads : W.treads = true) (s : State) (kind bad : Nat) :
    (State.restartRequest s kind bad).outside W = s.outside W := by
  unfold State.restartRequest; simp [h_cans, h_dsp, h_field, h_hall, h_loops, h_mode, h_nvm, h_outbox, h_pair, h_plans, h_recorder, h_sup, h_tasks, h_treads]

@[simp] theorem State.modeCommand_outside (h_cans : W.cans = true) (h_dsp : W.dsp = true) (h_field : W.field = true) (h_hall : W.hall = true) (h_loops : W.loops = true) (h_mode : W.mode = true) (h_nvm : W.nvm = true) (h_outbox : W.outbox = true) (h_pair : W.pair = true) (h_params : W.params = true) (h_plans : W.plans = true) (h_recorder : W.recorder = true) (h_sup : W.sup = true) (h_tasks : W.tasks = true) (h_treads : W.treads = true) (s : State) (n bad : Nat) :
    (State.modeCommand s n bad).outside W = s.outside W := by
  unfold State.modeCommand; ((try dsimp only); repeat' split) <;> simp [h_cans, h_dsp, h_field, h_hall, h_loops, h_mode, h_nvm, h_outbox, h_pair, h_params, h_plans, h_recorder, h_sup, h_tasks, h_treads]

@[simp] theorem State.pairCommand_outside (h_outbox : W.outbox = true) (h_pair : W.pair = true) (h_recorder : W.recorder = true) (s : State) (n : Nat) :
    (State.pairCommand s n).outside W = s.outside W := by
  unfold State.pairCommand; ((try dsimp only); repeat' split) <;> simp [h_outbox, h_pair, h_recorder]

@[simp] theorem State.psClear_outside (h_nvm : W.nvm = true) (h_recorder : W.recorder = true) (s : State) :
    (State.psClear s).outside W = s.outside W := by
  unfold State.psClear; simp [h_nvm, h_recorder]

@[simp] theorem State.supDisable_outside (h_recorder : W.recorder = true) (h_sup : W.sup = true) (s : State) :
    (State.supDisable s).outside W = s.outside W := by
  unfold State.supDisable; simp [h_recorder, h_sup]

@[simp] theorem State.rtcWrite_outside (h_clock : W.clock = true) (h_recorder : W.recorder = true) (h_sup : W.sup = true) (s : State) (n : Nat) :
    (State.rtcWrite s n).outside W = s.outside W := by
  unfold State.rtcWrite; ((try dsimp only); repeat' split) <;> simp [h_clock, h_recorder, h_sup]

@[simp] theorem State.fwDiscard_outside (h_mode : W.mode = true) (h_net : W.net = true) (h_nvm : W.nvm = true) (h_plans : W.plans = true) (h_recorder : W.recorder = true) (h_sup : W.sup = true) (s : State) :
    (State.fwDiscard s).outside W = s.outside W := by
  unfold State.fwDiscard; simp [h_mode, h_net, h_nvm, h_plans, h_recorder, h_sup]

@[simp] theorem State.planVerify_outside (h_mode : W.mode = true) (h_plans : W.plans = true) (h_recorder : W.recorder = true) (h_sup : W.sup = true) (s : State) :
    (State.planVerify s).outside W = s.outside W := by
  unfold State.planVerify; simp [h_mode, h_plans, h_recorder, h_sup]

@[simp] theorem State.planDiscard_outside (h_mode : W.mode = true) (h_net : W.net = true) (h_nvm : W.nvm = true) (h_plans : W.plans = true) (h_recorder : W.recorder = true) (h_sup : W.sup = true) (s : State) :
    (State.planDiscard s).outside W = s.outside W := by
  unfold State.planDiscard; simp [h_mode, h_net, h_nvm, h_plans, h_recorder, h_sup]

@[simp] theorem State.planActivate_outside (h_cans : W.cans = true) (h_carried : W.carried = true) (h_clock : W.clock = true) (h_crossings : W.crossings = true) (h_dsp : W.dsp = true) (h_field : W.field = true) (h_hall : W.hall = true) (h_line : W.line = true) (h_loops : W.loops = true) (h_mode : W.mode = true) (h_net : W.net = true) (h_nvm : W.nvm = true) (h_outbox : W.outbox = true) (h_pair : W.pair = true) (h_params : W.params = true) (h_plans : W.plans = true) (h_recorder : W.recorder = true) (h_resyncs : W.resyncs = true) (h_sup : W.sup = true) (h_tasks : W.tasks = true) (h_treads : W.treads = true) (s : State) (bad : Nat) :
    (State.planActivate s bad).outside W = s.outside W := by
  unfold State.planActivate; ((try dsimp only); repeat' split) <;> simp [h_cans, h_carried, h_clock, h_crossings, h_dsp, h_field, h_hall, h_line, h_loops, h_mode, h_net, h_nvm, h_outbox, h_pair, h_params, h_plans, h_recorder, h_resyncs, h_sup, h_tasks, h_treads]

@[simp] theorem State.editArm_outside (h_pair : W.pair = true) (h_plans : W.plans = true) (h_recorder : W.recorder = true) (s : State) (n : Nat) :
    (State.editArm s n).outside W = s.outside W := by
  unfold State.editArm; simp [h_pair, h_plans, h_recorder]

@[simp] theorem State.windowWrite_outside (h_cans : W.cans = true) (h_field : W.field = true) (h_hall : W.hall = true) (h_outbox : W.outbox = true) (h_pair : W.pair = true) (s : State) (w : Nat) (b : Bytes) :
    (State.windowWrite s w b).outside W = s.outside W := by
  unfold State.windowWrite; ((try dsimp only); repeat' split) <;> simp [h_cans, h_field, h_hall, h_outbox, h_pair]

@[simp] theorem State.setWindow_outside (h_hall : W.hall = true) (s : State) (w sub n : Nat) :
    (State.setWindow s w sub n).outside W = s.outside W := by
  unfold State.setWindow; simp [h_hall]

@[simp] theorem State.timeWrite_outside (h_clock : W.clock = true) (h_line : W.line = true) (h_net : W.net = true) (h_recorder : W.recorder = true) (h_treads : W.treads = true) (s : State) (n : Nat) :
    (State.timeWrite s n).outside W = s.outside W := by
  unfold State.timeWrite; simp [h_clock, h_line, h_net, h_recorder, h_treads]

@[simp] theorem State.roleKey_outside (h_net : W.net = true) (s : State) (j : Nat) (b : Bytes) :
    (State.roleKey s j b).outside W = s.outside W := by
  unfold State.roleKey; simp [h_net]

@[simp] theorem State.protectWrite_outside (h_nvm : W.nvm = true) (h_recorder : W.recorder = true) (s : State) (raw : Bool) (n : Nat) :
    (State.protectWrite s raw n).outside W = s.outside W := by
  unfold State.protectWrite; simp [h_nvm, h_recorder]

@[simp] theorem State.moduleEffect_outside (h_cans : W.cans = true) (h_carried : W.carried = true) (h_clock : W.clock = true) (h_crossings : W.crossings = true) (h_dsp : W.dsp = true) (h_field : W.field = true) (h_fuses : W.fuses = true) (h_hall : W.hall = true) (h_line : W.line = true) (h_loops : W.loops = true) (h_mode : W.mode = true) (h_net : W.net = true) (h_nvm : W.nvm = true) (h_outbox : W.outbox = true) (h_pair : W.pair = true) (h_params : W.params = true) (h_plans : W.plans = true) (h_recorder : W.recorder = true) (h_resyncs : W.resyncs = true) (h_sup : W.sup = true) (h_tasks : W.tasks = true) (h_treads : W.treads = true) (s : State) (a : Asker) (idx sub : Nat) (v : Val) :
    (State.moduleEffect s a idx sub v).outside W = s.outside W := by
  unfold State.moduleEffect; ((try dsimp only); repeat' split) <;> simp [h_cans, h_carried, h_clock, h_crossings, h_dsp, h_field, h_fuses, h_hall, h_line, h_loops, h_mode, h_net, h_nvm, h_outbox, h_pair, h_params, h_plans, h_recorder, h_resyncs, h_sup, h_tasks, h_treads]

@[simp] theorem State.entryEffect_outside (h_cans : W.cans = true) (h_carried : W.carried = true) (h_clock : W.clock = true) (h_crossings : W.crossings = true) (h_dsp : W.dsp = true) (h_field : W.field = true) (h_fuses : W.fuses = true) (h_hall : W.hall = true) (h_line : W.line = true) (h_loops : W.loops = true) (h_mode : W.mode = true) (h_net : W.net = true) (h_nvm : W.nvm = true) (h_outbox : W.outbox = true) (h_pair : W.pair = true) (h_params : W.params = true) (h_plans : W.plans = true) (h_recorder : W.recorder = true) (h_resyncs : W.resyncs = true) (h_sup : W.sup = true) (h_tasks : W.tasks = true) (h_treads : W.treads = true) (s : State) (a : Asker) (idx sub : Nat) (v : Val) :
    (State.entryEffect s a idx sub v).outside W = s.outside W := by
  unfold State.entryEffect; simp [h_cans, h_carried, h_clock, h_crossings, h_dsp, h_field, h_fuses, h_hall, h_line, h_loops, h_mode, h_net, h_nvm, h_outbox, h_pair, h_params, h_plans, h_recorder, h_resyncs, h_sup, h_tasks, h_treads]

@[simp] theorem State.stage_outside (h_staged : W.staged = true) (s : State) (x : Staged) :
    (State.stage s x).outside W = s.outside W := by
  unfold State.stage; simp [h_staged]

@[simp] theorem State.sendCommand_outside (h_outbox : W.outbox = true) (h_pair : W.pair = true) (s : State) (idx sub : Nat) (v : Val) :
    (State.sendCommand s idx sub v).outside W = s.outside W := by
  unfold State.sendCommand; simp [h_outbox, h_pair]

@[simp] theorem State.writeEffect_outside (h_cans : W.cans = true) (h_carried : W.carried = true) (h_clock : W.clock = true) (h_crossings : W.crossings = true) (h_dsp : W.dsp = true) (h_field : W.field = true) (h_fuses : W.fuses = true) (h_hall : W.hall = true) (h_line : W.line = true) (h_loops : W.loops = true) (h_mode : W.mode = true) (h_net : W.net = true) (h_nvm : W.nvm = true) (h_outbox : W.outbox = true) (h_pair : W.pair = true) (h_params : W.params = true) (h_plans : W.plans = true) (h_recorder : W.recorder = true) (h_resyncs : W.resyncs = true) (h_staged : W.staged = true) (h_sup : W.sup = true) (h_tasks : W.tasks = true) (h_treads : W.treads = true) (s : State) (a : Asker) (r : Row) (x : WItem) :
    (State.writeEffect s a r x).outside W = s.outside W := by
  unfold State.writeEffect; simp [h_cans, h_carried, h_clock, h_crossings, h_dsp, h_field, h_fuses, h_hall, h_line, h_loops, h_mode, h_net, h_nvm, h_outbox, h_pair, h_params, h_plans, h_recorder, h_resyncs, h_staged, h_sup, h_tasks, h_treads]

@[simp] theorem State.writeOne_outside (h_cans : W.cans = true) (h_carried : W.carried = true) (h_clock : W.clock = true) (h_crossings : W.crossings = true) (h_dsp : W.dsp = true) (h_field : W.field = true) (h_fuses : W.fuses = true) (h_hall : W.hall = true) (h_line : W.line = true) (h_loops : W.loops = true) (h_mode : W.mode = true) (h_net : W.net = true) (h_nvm : W.nvm = true) (h_outbox : W.outbox = true) (h_pair : W.pair = true) (h_params : W.params = true) (h_plans : W.plans = true) (h_recorder : W.recorder = true) (h_resyncs : W.resyncs = true) (h_staged : W.staged = true) (h_sup : W.sup = true) (h_tasks : W.tasks = true) (h_treads : W.treads = true) (s : State) (a : Asker) (x : WItem) :
    (State.writeOne s a x).1.outside W = s.outside W := by
  unfold State.writeOne; ((try dsimp only); repeat' split) <;> simp [h_cans, h_carried, h_clock, h_crossings, h_dsp, h_field, h_fuses, h_hall, h_line, h_loops, h_mode, h_net, h_nvm, h_outbox, h_pair, h_params, h_plans, h_recorder, h_resyncs, h_staged, h_sup, h_tasks, h_treads]

@[simp] theorem State.writeMembers_outside (h_cans : W.cans = true) (h_carried : W.carried = true) (h_clock : W.clock = true) (h_crossings : W.crossings = true) (h_dsp : W.dsp = true) (h_field : W.field = true) (h_fuses : W.fuses = true) (h_hall : W.hall = true) (h_line : W.line = true) (h_loops : W.loops = true) (h_mode : W.mode = true) (h_net : W.net = true) (h_nvm : W.nvm = true) (h_outbox : W.outbox = true) (h_pair : W.pair = true) (h_params : W.params = true) (h_plans : W.plans = true) (h_recorder : W.recorder = true) (h_resyncs : W.resyncs = true) (h_staged : W.staged = true) (h_sup : W.sup = true) (h_tasks : W.tasks = true) (h_treads : W.treads = true) (s : State) (a : Asker) (x : WItem) (l : List Nat) :
    (State.writeMembers s a x l).1.outside W = s.outside W := by
  unfold State.writeMembers
  exact outside_foldl_fst l _ (fun t n => by simp only [State.writeOne_outside, h_cans, h_carried, h_clock, h_crossings, h_dsp, h_field, h_fuses, h_hall, h_line, h_loops, h_mode, h_net, h_nvm, h_outbox, h_pair, h_params, h_plans, h_recorder, h_resyncs, h_staged, h_sup, h_tasks, h_treads]) _

-- RET State.groupStatus Status
@[simp] theorem State.writeAs_outside (h_cans : W.cans = true) (h_carried : W.carried = true) (h_clock : W.clock = true) (h_crossings : W.crossings = true) (h_dsp : W.dsp = true) (h_field : W.field = true) (h_fuses : W.fuses = true) (h_hall : W.hall = true) (h_line : W.line = true) (h_loops : W.loops = true) (h_mode : W.mode = true) (h_net : W.net = true) (h_nvm : W.nvm = true) (h_outbox : W.outbox = true) (h_pair : W.pair = true) (h_params : W.params = true) (h_plans : W.plans = true) (h_recorder : W.recorder = true) (h_resyncs : W.resyncs = true) (h_staged : W.staged = true) (h_sup : W.sup = true) (h_tasks : W.tasks = true) (h_treads : W.treads = true) (s : State) (a : Asker) (x : WItem) :
    (State.writeAs s a x).1.outside W = s.outside W := by
  unfold State.writeAs; ((try dsimp only); repeat' split) <;> simp [h_cans, h_carried, h_clock, h_crossings, h_dsp, h_field, h_fuses, h_hall, h_line, h_loops, h_mode, h_net, h_nvm, h_outbox, h_pair, h_params, h_plans, h_recorder, h_resyncs, h_staged, h_sup, h_tasks, h_treads]

@[simp] theorem State.takeArming_outside (h_net : W.net = true) (s : State) (k idx sub : Nat) :
    (State.takeArming s k idx sub).1.outside W = s.outside W := by
  unfold State.takeArming; simp [h_net]

@[simp] theorem State.writeItem_outside (h_cans : W.cans = true) (h_carried : W.carried = true) (h_clock : W.clock = true) (h_crossings : W.crossings = true) (h_dsp : W.dsp = true) (h_field : W.field = true) (h_fuses : W.fuses = true) (h_hall : W.hall = true) (h_line : W.line = true) (h_loops : W.loops = true) (h_mode : W.mode = true) (h_net : W.net = true) (h_nvm : W.nvm = true) (h_outbox : W.outbox = true) (h_pair : W.pair = true) (h_params : W.params = true) (h_plans : W.plans = true) (h_recorder : W.recorder = true) (h_resyncs : W.resyncs = true) (h_staged : W.staged = true) (h_sup : W.sup = true) (h_tasks : W.tasks = true) (h_treads : W.treads = true) (s : State) (k : Nat) (wait : Option (Nat × Nat × Nat)) (bad : Nat) (x : WItem) :
    (State.writeItem s k wait bad x).1.outside W = s.outside W := by
  unfold State.writeItem; simp [h_cans, h_carried, h_clock, h_crossings, h_dsp, h_field, h_fuses, h_hall, h_line, h_loops, h_mode, h_net, h_nvm, h_outbox, h_pair, h_params, h_plans, h_recorder, h_resyncs, h_staged, h_sup, h_tasks, h_treads]

@[simp] theorem State.writeCmd_outside (h_cans : W.cans = true) (h_carried : W.carried = true) (h_clock : W.clock = true) (h_crossings : W.crossings = true) (h_dsp : W.dsp = true) (h_field : W.field = true) (h_fuses : W.fuses = true) (h_hall : W.hall = true) (h_line : W.line = true) (h_loops : W.loops = true) (h_mode : W.mode = true) (h_net : W.net = true) (h_nvm : W.nvm = true) (h_outbox : W.outbox = true) (h_pair : W.pair = true) (h_params : W.params = true) (h_plans : W.plans = true) (h_recorder : W.recorder = true) (h_resyncs : W.resyncs = true) (h_staged : W.staged = true) (h_sup : W.sup = true) (h_tasks : W.tasks = true) (h_treads : W.treads = true) (s : State) (o : Origin) (idx sub : Nat) (data : Bytes) (bad : Nat) :
    (State.writeCmd s o idx sub data bad).outside W = s.outside W := by
  unfold State.writeCmd; simp [h_cans, h_carried, h_clock, h_crossings, h_dsp, h_field, h_fuses, h_hall, h_line, h_loops, h_mode, h_net, h_nvm, h_outbox, h_pair, h_params, h_plans, h_recorder, h_resyncs, h_staged, h_sup, h_tasks, h_treads]

@[simp] theorem State.writeNum_outside (h_cans : W.cans = true) (h_carried : W.carried = true) (h_clock : W.clock = true) (h_crossings : W.crossings = true) (h_dsp : W.dsp = true) (h_field : W.field = true) (h_fuses : W.fuses = true) (h_hall : W.hall = true) (h_line : W.line = true) (h_loops : W.loops = true) (h_mode : W.mode = true) (h_net : W.net = true) (h_nvm : W.nvm = true) (h_outbox : W.outbox = true) (h_pair : W.pair = true) (h_params : W.params = true) (h_plans : W.plans = true) (h_recorder : W.recorder = true) (h_resyncs : W.resyncs = true) (h_staged : W.staged = true) (h_sup : W.sup = true) (h_tasks : W.tasks = true) (h_treads : W.treads = true) (s : State) (o : Origin) (idx sub n v bad : Nat) :
    (State.writeNum s o idx sub n v bad).outside W = s.outside W := by
  unfold State.writeNum; simp [h_cans, h_carried, h_clock, h_crossings, h_dsp, h_field, h_fuses, h_hall, h_line, h_loops, h_mode, h_net, h_nvm, h_outbox, h_pair, h_params, h_plans, h_recorder, h_resyncs, h_staged, h_sup, h_tasks, h_treads]

end Sys2Proof.Machine
end

