-- ==== Sys2Proof/Laws/DictWriteFrame.lean ====
section
/-! SUPPORT. What each operation of Machine/DictWrite.lean leaves as it was: everything outside the parts that its lemma names. -/
namespace Sys2Proof.Machine
set_option linter.unusedSimpArgs false
variable {W : Parts}

@[simp] theorem State.disarm_outside (h_net : W.net = true) (s : State) (k : Nat) :
    (State.disarm s k).outside W = s.outside W := by
  unfold State.disarm; simp [h_net]

@[simp] theorem State.answerRead_outside (h_cans : W.cans = true) (h_fresh : W.fresh = true) (h_hall : W.hall = true) (h_net : W.net = true) (h_nvm : W.nvm = true) (h_outbox : W.outbox = true) (h_recorder : W.recorder = true) (h_treads : W.treads = true) (s : State) (k seq idx sub : Nat) :
    (State.answerRead s k seq idx sub).outside W = s.outside W := by
  unfold State.answerRead; simp [h_cans, h_fresh, h_hall, h_net, h_nvm, h_outbox, h_recorder, h_treads]

end Sys2Proof.Machine
end

