-- ==== Sys2Proof/Laws/LockstepFrame.lean ====
section
/-! SUPPORT. What each operation of Machine/Lockstep.lean leaves as it was: everything outside the parts that its lemma names. -/
namespace Sys2Proof.Machine
set_option linter.unusedSimpArgs false
variable {W : Parts}

@[simp] theorem State.adoptFallback_outside (h_recorder : W.recorder = true) (h_tasks : W.tasks = true) (s : State) (f : Nat) :
    (State.adoptFallback s f).outside W = s.outside W := by
  unfold State.adoptFallback; simp [h_recorder, h_tasks]

@[simp] theorem State.swapAlong_outside (h_hall : W.hall = true) (h_mode : W.mode = true) (h_nvm : W.nvm = true) (h_plans : W.plans = true) (h_recorder : W.recorder = true) (h_sup : W.sup = true) (h_tasks : W.tasks = true) (s : State) (landing : Nat) :
    (State.swapAlong s landing).outside W = s.outside W := by
  unfold State.swapAlong; simp [h_hall, h_mode, h_nvm, h_plans, h_recorder, h_sup, h_tasks]

@[simp] theorem State.takeCommand_outside (h_cans : W.cans = true) (h_carried : W.carried = true) (h_clock : W.clock = true) (h_crossings : W.crossings = true) (h_dsp : W.dsp = true) (h_field : W.field = true) (h_fuses : W.fuses = true) (h_hall : W.hall = true) (h_line : W.line = true) (h_loops : W.loops = true) (h_mode : W.mode = true) (h_net : W.net = true) (h_nvm : W.nvm = true) (h_outbox : W.outbox = true) (h_pair : W.pair = true) (h_params : W.params = true) (h_plans : W.plans = true) (h_recorder : W.recorder = true) (h_resyncs : W.resyncs = true) (h_sup : W.sup = true) (h_tasks : W.tasks = true) (h_treads : W.treads = true) (s : State) (c : CmdRec) : (s.takeCommand c).outside W = s.outside W := by
  cases c <;> unfold State.takeCommand <;> (try split) <;> simp [*]

@[simp] theorem State.lagEntry_outside (h_cans : W.cans = true) (h_carried : W.carried = true) (h_clock : W.clock = true) (h_crossings : W.crossings = true) (h_dsp : W.dsp = true) (h_field : W.field = true) (h_fuses : W.fuses = true) (h_hall : W.hall = true) (h_line : W.line = true) (h_loops : W.loops = true) (h_mode : W.mode = true) (h_net : W.net = true) (h_now : W.now = true) (h_nvm : W.nvm = true) (h_outbox : W.outbox = true) (h_pair : W.pair = true) (h_params : W.params = true) (h_plans : W.plans = true) (h_recorder : W.recorder = true) (h_resyncs : W.resyncs = true) (h_sup : W.sup = true) (h_tasks : W.tasks = true) (h_treads : W.treads = true) (s : State) (e : Nat × LagItem) :
    (State.lagEntry s e).outside W = s.outside W := by
  unfold State.lagEntry; (repeat' split) <;> simp only [outside_ite, outside_fst_ite, ite_self, outside_when, outside_foldl, implies_true, forall_const, outside_cans, outside_carried, outside_clock, outside_crossings, outside_dsp, outside_field, outside_fuses, outside_hall, outside_line, outside_loops, outside_mode, outside_net, outside_now, outside_nvm, outside_outbox, outside_pair, outside_params, outside_plans, outside_recorder, outside_resyncs, outside_sup, outside_tasks, outside_treads, outside_crossings_resyncs, outside_treads_tasks, State.takeCommand_outside, State.takeItem_outside, h_cans, h_carried, h_clock, h_crossings, h_dsp, h_field, h_fuses, h_hall, h_line, h_loops, h_mode, h_net, h_now, h_nvm, h_outbox, h_pair, h_params, h_plans, h_recorder, h_resyncs, h_sup, h_tasks, h_treads]

@[simp] theorem State.drain_outside (h_cans : W.cans = true) (h_carried : W.carried = true) (h_clock : W.clock = true) (h_crossings : W.crossings = true) (h_dsp : W.dsp = true) (h_field : W.field = true) (h_fuses : W.fuses = true) (h_hall : W.hall = true) (h_line : W.line = true) (h_loops : W.loops = true) (h_mode : W.mode = true) (h_net : W.net = true) (h_now : W.now = true) (h_nvm : W.nvm = true) (h_outbox : W.outbox = true) (h_pair : W.pair = true) (h_params : W.params = true) (h_plans : W.plans = true) (h_recorder : W.recorder = true) (h_resyncs : W.resyncs = true) (h_sup : W.sup = true) (h_tasks : W.tasks = true) (h_treads : W.treads = true) (s : State) :
    (State.drain s).outside W = s.outside W := by
  unfold State.drain; simp [h_cans, h_carried, h_clock, h_crossings, h_dsp, h_field, h_fuses, h_hall, h_line, h_loops, h_mode, h_net, h_now, h_nvm, h_outbox, h_pair, h_params, h_plans, h_recorder, h_resyncs, h_sup, h_tasks, h_treads]

@[simp] theorem State.drainHot_outside (h_cans : W.cans = true) (h_carried : W.carried = true) (h_clock : W.clock = true) (h_crossings : W.crossings = true) (h_dsp : W.dsp = true) (h_field : W.field = true) (h_fuses : W.fuses = true) (h_hall : W.hall = true) (h_line : W.line = true) (h_loops : W.loops = true) (h_mode : W.mode = true) (h_net : W.net = true) (h_now : W.now = true) (h_nvm : W.nvm = true) (h_outbox : W.outbox = true) (h_pair : W.pair = true) (h_params : W.params = true) (h_plans : W.plans = true) (h_recorder : W.recorder = true) (h_resyncs : W.resyncs = true) (h_sup : W.sup = true) (h_tasks : W.tasks = true) (h_treads : W.treads = true) (s : State) :
    (State.drainHot s).outside W = s.outside W := by
  unfold State.drainHot; simp [h_cans, h_carried, h_clock, h_crossings, h_dsp, h_field, h_fuses, h_hall, h_line, h_loops, h_mode, h_net, h_now, h_nvm, h_outbox, h_pair, h_params, h_plans, h_recorder, h_resyncs, h_sup, h_tasks, h_treads]

@[simp] theorem State.loadLockstep_outside (h_field : W.field = true) (h_line : W.line = true) (h_loops : W.loops = true) (h_tasks : W.tasks = true) (h_treads : W.treads = true) (s : State) (x : Lockstep) :
    (State.loadLockstep s x).outside W = s.outside W := by
  unfold State.loadLockstep
  have h : ∀ a b c d, State.outside W { s with line := a, treads := b, loops := c, field := d } = s.outside W := by
    intros; simp only [State.outside, h_field, h_line, h_loops, h_tasks, h_treads, if_true]
  simp only [State.updTasks_outside, State.updGallery_outside, State.updTask_outside, outside_foldl, implies_true, h, h_field, h_line, h_loops, h_tasks, h_treads]

@[simp] theorem State.loadParams_outside (h_params : W.params = true) (s : State) (x : Lockstep) :
    (State.loadParams s x).outside W = s.outside W := by
  unfold State.loadParams; simp [h_params]

@[simp] theorem State.resumeFrom_outside (h_field : W.field = true) (h_line : W.line = true) (h_loops : W.loops = true) (h_pair : W.pair = true) (h_params : W.params = true) (h_sup : W.sup = true) (h_tasks : W.tasks = true) (h_treads : W.treads = true) (s : State) (x : Lockstep) :
    (State.resumeFrom s x).outside W = s.outside W := by
  unfold State.resumeFrom; simp [h_field, h_line, h_loops, h_pair, h_params, h_sup, h_tasks, h_treads]

@[simp] theorem State.swapFollow_outside (h_hall : W.hall = true) (h_mode : W.mode = true) (h_nvm : W.nvm = true) (h_plans : W.plans = true) (h_recorder : W.recorder = true) (h_sup : W.sup = true) (h_tasks : W.tasks = true) (s : State) (d : Delta) :
    (State.swapFollow s d).outside W = s.outside W := by
  unfold State.swapFollow; simp [h_hall, h_mode, h_nvm, h_plans, h_recorder, h_sup, h_tasks]

@[simp] theorem State.deltaHall_outside (h_hall : W.hall = true) (h_net : W.net = true) (s : State) (d : Delta) :
    (State.deltaHall s d).outside W = s.outside W := by
  simp only [State.deltaHall, State.outside, h_hall, h_net, if_true]

@[simp] theorem State.deltaHeads_outside (h_cans : W.cans = true) (s : State) (d : Delta) :
    (State.deltaHeads s d).outside W = s.outside W := by
  unfold State.deltaHeads; simp [h_cans]

@[simp] theorem State.deltaData_outside (h_cans : W.cans = true) (h_field : W.field = true) (h_hall : W.hall = true) (h_mode : W.mode = true) (h_net : W.net = true) (h_nvm : W.nvm = true) (h_outbox : W.outbox = true) (h_pair : W.pair = true) (h_plans : W.plans = true) (h_recorder : W.recorder = true) (h_sup : W.sup = true) (h_tasks : W.tasks = true) (s : State) (d : Delta) :
    (State.deltaData s d).outside W = s.outside W := by
  unfold State.deltaData; ((try dsimp only); repeat' split) <;> simp [h_cans, h_field, h_hall, h_mode, h_net, h_nvm, h_outbox, h_pair, h_plans, h_recorder, h_sup, h_tasks]

@[simp] theorem State.deltaMajor_outside (h_cans : W.cans = true) (h_carried : W.carried = true) (h_clock : W.clock = true) (h_crossings : W.crossings = true) (h_dsp : W.dsp = true) (h_field : W.field = true) (h_hall : W.hall = true) (h_line : W.line = true) (h_loops : W.loops = true) (h_net : W.net = true) (h_nvm : W.nvm = true) (h_outbox : W.outbox = true) (h_pair : W.pair = true) (h_params : W.params = true) (h_recorder : W.recorder = true) (h_resyncs : W.resyncs = true) (h_staged : W.staged = true) (h_sup : W.sup = true) (h_tasks : W.tasks = true) (h_treads : W.treads = true) (s : State) (d : Delta) :
    (State.deltaMajor s d).outside W = s.outside W := by
  unfold State.deltaMajor; (repeat' split) <;> simp only [outside_ite, outside_fst_ite, ite_self, outside_when, outside_foldl, implies_true, forall_const, outside_cans, outside_carried, outside_clock, outside_crossings, outside_dsp, outside_field, outside_hall, outside_line, outside_loops, outside_net, outside_nvm, outside_outbox, outside_pair, outside_params, outside_recorder, outside_resyncs, outside_staged, outside_sup, outside_tasks, outside_treads, outside_crossings_resyncs, outside_treads_tasks, State.applyStaged_outside, State.commitTrigger_outside, State.applied_outside, State.adoptFallback_outside, State.checkpointOf_outside, State.noteDirty_outside, State.psStage_outside, State.updPair_outside, h_cans, h_carried, h_clock, h_crossings, h_dsp, h_field, h_hall, h_line, h_loops, h_net, h_nvm, h_outbox, h_pair, h_params, h_recorder, h_resyncs, h_staged, h_sup, h_tasks, h_treads]

@[simp] theorem State.applyDelta_outside (h_cans : W.cans = true) (h_carried : W.carried = true) (h_clock : W.clock = true) (h_crossings : W.crossings = true) (h_dsp : W.dsp = true) (h_field : W.field = true) (h_hall : W.hall = true) (h_line : W.line = true) (h_loops : W.loops = true) (h_mode : W.mode = true) (h_net : W.net = true) (h_nvm : W.nvm = true) (h_outbox : W.outbox = true) (h_pair : W.pair = true) (h_params : W.params = true) (h_plans : W.plans = true) (h_recorder : W.recorder = true) (h_resyncs : W.resyncs = true) (h_staged : W.staged = true) (h_sup : W.sup = true) (h_tasks : W.tasks = true) (h_treads : W.treads = true) (s : State) (d : Delta) :
    (State.applyDelta s d).outside W = s.outside W := by
  unfold State.applyDelta; simp [h_cans, h_carried, h_clock, h_crossings, h_dsp, h_field, h_hall, h_line, h_loops, h_mode, h_net, h_nvm, h_outbox, h_pair, h_params, h_plans, h_recorder, h_resyncs, h_staged, h_sup, h_tasks, h_treads]

@[simp] theorem State.switchMarked_outside (h_outbox : W.outbox = true) (h_pair : W.pair = true) (s : State) (d : Delta) :
    (State.switchMarked s d).outside W = s.outside W := by
  unfold State.switchMarked; simp [h_outbox, h_pair]

@[simp] theorem State.joinCopy_outside (h_dsp : W.dsp = true) (h_hall : W.hall = true) (h_tasks : W.tasks = true) (s : State) (x : Snapshot) :
    (State.joinCopy s x).outside W = s.outside W := by
  simp only [State.joinCopy, State.outside, h_dsp, h_hall, h_tasks, if_true]

@[simp] theorem State.joinLoad_outside (h_cans : W.cans = true) (h_carried : W.carried = true) (h_clock : W.clock = true) (h_crossings : W.crossings = true) (h_dsp : W.dsp = true) (h_field : W.field = true) (h_fuses : W.fuses = true) (h_hall : W.hall = true) (h_line : W.line = true) (h_loops : W.loops = true) (h_mode : W.mode = true) (h_net : W.net = true) (h_now : W.now = true) (h_nvm : W.nvm = true) (h_outbox : W.outbox = true) (h_pair : W.pair = true) (h_params : W.params = true) (h_plans : W.plans = true) (h_recorder : W.recorder = true) (h_resyncs : W.resyncs = true) (h_staged : W.staged = true) (h_sup : W.sup = true) (h_tasks : W.tasks = true) (h_treads : W.treads = true) (s : State) (x : Snapshot) :
    (State.joinLoad s x).outside W = s.outside W := by
  unfold State.joinLoad; simp [h_cans, h_carried, h_clock, h_crossings, h_dsp, h_field, h_fuses, h_hall, h_line, h_loops, h_mode, h_net, h_now, h_nvm, h_outbox, h_pair, h_params, h_plans, h_recorder, h_resyncs, h_staged, h_sup, h_tasks, h_treads]

@[simp] theorem State.setRamping_outside (h_field : W.field = true) (s : State) (v : Bool) :
    (State.setRamping s v).outside W = s.outside W := by
  unfold State.setRamping; simp [h_field]

@[simp] theorem State.takeSessions_outside (h_net : W.net = true) (s : State) :
    (State.takeSessions s).outside W = s.outside W := by
  unfold State.takeSessions; ((try dsimp only); repeat' split) <;> simp [h_net]

@[simp] theorem State.announceIps_outside (h_net : W.net = true) (h_outbox : W.outbox = true) (s : State) :
    (State.announceIps s).outside W = s.outside W := by
  unfold State.announceIps; simp [h_net, h_outbox]

@[simp] theorem State.rampOuts_outside (h_outbox : W.outbox = true) (s : State) (up : Bool) :
    (State.rampOuts s up).outside W = s.outside W := by
  unfold State.rampOuts; simp [h_outbox]

@[simp] theorem State.catchTicks_outside (h_line : W.line = true) (h_now : W.now = true) (h_recorder : W.recorder = true) (s : State) :
    (State.catchTicks s).outside W = s.outside W := by
  unfold State.catchTicks
  refine outside_foldl _ _ (fun t i => outside_foldl _ _ (fun u j => ?_) t) s
  rw [outside_now h_now, State.estimatorTick_outside, outside_now h_now] <;> assumption

@[simp] theorem State.catchSamples_outside (h_fresh : W.fresh = true) (h_loops : W.loops = true) (h_recorder : W.recorder = true) (s : State) :
    (State.catchSamples s).outside W = s.outside W := by
  unfold State.catchSamples
  exact outside_foldl _ _ (fun t k => outside_foldl _ _ (fun u j => by simp [h_fresh, h_loops, h_recorder]) t) s

@[simp] theorem State.becomeActive_outside (h_cans : W.cans = true) (h_carried : W.carried = true) (h_clock : W.clock = true) (h_crossings : W.crossings = true) (h_dsp : W.dsp = true) (h_field : W.field = true) (h_fresh : W.fresh = true) (h_fuses : W.fuses = true) (h_hall : W.hall = true) (h_line : W.line = true) (h_loops : W.loops = true) (h_mode : W.mode = true) (h_net : W.net = true) (h_now : W.now = true) (h_nvm : W.nvm = true) (h_outbox : W.outbox = true) (h_pair : W.pair = true) (h_params : W.params = true) (h_plans : W.plans = true) (h_recorder : W.recorder = true) (h_resyncs : W.resyncs = true) (h_sup : W.sup = true) (h_tasks : W.tasks = true) (h_treads : W.treads = true) (s : State) (cause : Nat) :
    (State.becomeActive s cause).outside W = s.outside W := by
  unfold State.becomeActive; simp [h_cans, h_carried, h_clock, h_crossings, h_dsp, h_field, h_fresh, h_fuses, h_hall, h_line, h_loops, h_mode, h_net, h_now, h_nvm, h_outbox, h_pair, h_params, h_plans, h_recorder, h_resyncs, h_sup, h_tasks, h_treads]

@[simp] theorem State.takeover_outside (h_cans : W.cans = true) (h_carried : W.carried = true) (h_clock : W.clock = true) (h_crossings : W.crossings = true) (h_dsp : W.dsp = true) (h_field : W.field = true) (h_fresh : W.fresh = true) (h_fuses : W.fuses = true) (h_hall : W.hall = true) (h_line : W.line = true) (h_loops : W.loops = true) (h_mode : W.mode = true) (h_net : W.net = true) (h_now : W.now = true) (h_nvm : W.nvm = true) (h_outbox : W.outbox = true) (h_pair : W.pair = true) (h_params : W.params = true) (h_plans : W.plans = true) (h_recorder : W.recorder = true) (h_resyncs : W.resyncs = true) (h_sup : W.sup = true) (h_tasks : W.tasks = true) (h_treads : W.treads = true) (s : State) (evidence : Nat) :
    (State.takeover s evidence).outside W = s.outside W := by
  unfold State.takeover; simp [h_cans, h_carried, h_clock, h_crossings, h_dsp, h_field, h_fresh, h_fuses, h_hall, h_line, h_loops, h_mode, h_net, h_now, h_nvm, h_outbox, h_pair, h_params, h_plans, h_recorder, h_resyncs, h_sup, h_tasks, h_treads]

@[simp] theorem State.standbyStop_outside (h_dsp : W.dsp = true) (h_field : W.field = true) (h_hall : W.hall = true) (h_loops : W.loops = true) (h_mode : W.mode = true) (h_outbox : W.outbox = true) (h_pair : W.pair = true) (h_plans : W.plans = true) (h_recorder : W.recorder = true) (h_sup : W.sup = true) (h_tasks : W.tasks = true) (h_treads : W.treads = true) (s : State) (cause : Nat) :
    (State.standbyStop s cause).outside W = s.outside W := by
  unfold State.standbyStop; simp [h_dsp, h_field, h_hall, h_loops, h_mode, h_outbox, h_pair, h_plans, h_recorder, h_sup, h_tasks, h_treads]

@[simp] theorem State.lossDeclared_outside (h_cans : W.cans = true) (h_carried : W.carried = true) (h_clock : W.clock = true) (h_crossings : W.crossings = true) (h_dsp : W.dsp = true) (h_field : W.field = true) (h_fresh : W.fresh = true) (h_fuses : W.fuses = true) (h_hall : W.hall = true) (h_line : W.line = true) (h_loops : W.loops = true) (h_mode : W.mode = true) (h_net : W.net = true) (h_now : W.now = true) (h_nvm : W.nvm = true) (h_outbox : W.outbox = true) (h_pair : W.pair = true) (h_params : W.params = true) (h_plans : W.plans = true) (h_recorder : W.recorder = true) (h_resyncs : W.resyncs = true) (h_sup : W.sup = true) (h_tasks : W.tasks = true) (h_treads : W.treads = true) (s : State) (evidence cause : Nat) :
    (State.lossDeclared s evidence cause).outside W = s.outside W := by
  unfold State.lossDeclared; simp [h_cans, h_carried, h_clock, h_crossings, h_dsp, h_field, h_fresh, h_fuses, h_hall, h_line, h_loops, h_mode, h_net, h_now, h_nvm, h_outbox, h_pair, h_params, h_plans, h_recorder, h_resyncs, h_sup, h_tasks, h_treads]

-- RET State.quietClock Bool
end Sys2Proof.Machine
end

