-- ==== Sys2Proof/Laws/BootFrame.lean ====
section
/-! SUPPORT. What each operation of Machine/Boot.lean leaves as it was: everything outside the parts that its lemma names. -/
namespace Sys2Proof.Machine
set_option linter.unusedSimpArgs false
variable {W : Parts}

@[simp] theorem State.powerSave_outside (h_nvm : W.nvm = true) (h_recorder : W.recorder = true) (s : State) (cut us arch : Nat) :
    (State.powerSave s cut us arch).outside W = s.outside W := by
  unfold State.powerSave; simp [h_nvm, h_recorder]

@[simp] theorem State.bootCounts_outside (h_clock : W.clock = true) (h_nvm : W.nvm = true) (h_recorder : W.recorder = true) (h_sup : W.sup = true) (s : State) (power : Bool) :
    (State.bootCounts s power).outside W = s.outside W := by
  unfold State.bootCounts; simp [h_clock, h_nvm, h_recorder, h_sup]

@[simp] theorem State.bootFindings_outside (h_nvm : W.nvm = true) (h_recorder : W.recorder = true) (s : State) (b : BootIn) :
    (State.bootFindings s b).outside W = s.outside W := by
  unfold State.bootFindings; ((try dsimp only); repeat' split) <;> simp [h_nvm, h_recorder]

@[simp] theorem State.bootEvidence_outside (h_recorder : W.recorder = true) (h_sup : W.sup = true) (s : State) :
    (State.bootEvidence s).outside W = s.outside W := by
  unfold State.bootEvidence; simp [h_recorder, h_sup]

@[simp] theorem State.bootPlan_outside (h_hall : W.hall = true) (h_loops : W.loops = true) (h_nvm : W.nvm = true) (h_params : W.params = true) (h_plans : W.plans = true) (h_recorder : W.recorder = true) (h_sup : W.sup = true) (h_treads : W.treads = true) (s : State) :
    (State.bootPlan s).outside W = s.outside W := by
  unfold State.bootPlan; ((try dsimp only); repeat' split) <;> simp [h_hall, h_loops, h_nvm, h_params, h_plans, h_recorder, h_sup, h_treads]

@[simp] theorem State.restoreEntry_outside (h_cans : W.cans = true) (h_carried : W.carried = true) (h_clock : W.clock = true) (h_crossings : W.crossings = true) (h_dsp : W.dsp = true) (h_field : W.field = true) (h_fuses : W.fuses = true) (h_hall : W.hall = true) (h_line : W.line = true) (h_loops : W.loops = true) (h_mode : W.mode = true) (h_net : W.net = true) (h_nvm : W.nvm = true) (h_outbox : W.outbox = true) (h_pair : W.pair = true) (h_params : W.params = true) (h_plans : W.plans = true) (h_recorder : W.recorder = true) (h_resyncs : W.resyncs = true) (h_sup : W.sup = true) (h_tasks : W.tasks = true) (h_treads : W.treads = true) (s : State) (e : Nat × Nat × Nat) :
    (State.restoreEntry s e).outside W = s.outside W := by
  unfold State.restoreEntry; ((try dsimp only); repeat' split) <;> simp [h_cans, h_carried, h_clock, h_crossings, h_dsp, h_field, h_fuses, h_hall, h_line, h_loops, h_mode, h_net, h_nvm, h_outbox, h_pair, h_params, h_plans, h_recorder, h_resyncs, h_sup, h_tasks, h_treads]

@[simp] theorem State.bootEnc_outside (h_line : W.line = true) (h_outbox : W.outbox = true) (h_recorder : W.recorder = true) (s : State) (b : BootIn) (n : Nat) :
    (State.bootEnc s b n).outside W = s.outside W := by
  unfold State.bootEnc; ((try dsimp only); repeat' split) <;> simp [h_line, h_outbox, h_recorder]

@[simp] theorem State.bootSource_outside (h_line : W.line = true) (h_recorder : W.recorder = true) (s : State) (save : Option Bytes) (i : Nat) :
    (State.bootSource s save i).outside W = s.outside W := by
  unfold State.bootSource; ((try dsimp only); repeat' split) <;> simp [h_line, h_recorder]

@[simp] theorem State.bootSources_outside (h_line : W.line = true) (h_nvm : W.nvm = true) (h_outbox : W.outbox = true) (h_recorder : W.recorder = true) (s : State) (b : BootIn) :
    (State.bootSources s b).outside W = s.outside W := by
  unfold State.bootSources; simp [h_line, h_nvm, h_outbox, h_recorder]

@[simp] theorem State.bootIo_outside (h_cans : W.cans = true) (h_field : W.field = true) (h_outbox : W.outbox = true) (h_recorder : W.recorder = true) (h_treads : W.treads = true) (s : State) :
    (State.bootIo s).outside W = s.outside W := by
  unfold State.bootIo
  simp only [State.outputsSafe_outside, h_cans, h_field, h_outbox, h_recorder, h_treads]
  rw [outside_foldl _ _ (fun t n => by simp [h_cans, h_field, h_outbox, h_recorder, h_treads]), outside_foldl _ _ (fun t n => by simp [h_cans, h_field, h_outbox, h_recorder, h_treads])]

@[simp] theorem State.bootEnd_outside (h_cans : W.cans = true) (h_dsp : W.dsp = true) (h_field : W.field = true) (h_hall : W.hall = true) (h_loops : W.loops = true) (h_mode : W.mode = true) (h_nvm : W.nvm = true) (h_outbox : W.outbox = true) (h_pair : W.pair = true) (h_plans : W.plans = true) (h_recorder : W.recorder = true) (h_sup : W.sup = true) (h_tasks : W.tasks = true) (h_treads : W.treads = true) (s : State) (b : BootIn) :
    (State.bootEnd s b).outside W = s.outside W := by
  unfold State.bootEnd; simp [h_cans, h_dsp, h_field, h_hall, h_loops, h_mode, h_nvm, h_outbox, h_pair, h_plans, h_recorder, h_sup, h_tasks, h_treads]

end Sys2Proof.Machine
end

