-- ==== Sys2Proof/Laws/BamconFrame.lean ====
section
/-! SUPPORT. What each operation of Machine/Bamcon.lean leaves as it was: everything outside the parts that its lemma names. -/
namespace Sys2Proof.Machine
set_option linter.unusedSimpArgs false
variable {W : Parts}

@[simp] theorem State.authFailed_outside (h_net : W.net = true) (h_recorder : W.recorder = true) (s : State) (o : Origin) :
    (State.authFailed s o).outside W = s.outside W := by
  unfold State.authFailed; simp [h_net, h_recorder]

@[simp] theorem State.helloReply_outside (h_cans : W.cans = true) (h_net : W.net = true) (h_outbox : W.outbox = true) (s : State) (o : Origin) (k : Nat) (payload : Bytes) :
    (State.helloReply s o k payload).outside W = s.outside W := by
  unfold State.helloReply; simp [h_cans, h_net, h_outbox]

@[simp] theorem State.hello1_outside (h_cans : W.cans = true) (h_net : W.net = true) (h_outbox : W.outbox = true) (h_recorder : W.recorder = true) (s : State) (o : Origin) (x : BamMsg) :
    (State.hello1 s o x).outside W = s.outside W := by
  unfold State.hello1; ((try dsimp only); repeat' split) <;> simp [h_cans, h_net, h_outbox, h_recorder]

@[simp] theorem State.hello2_outside (h_cans : W.cans = true) (h_net : W.net = true) (h_outbox : W.outbox = true) (h_recorder : W.recorder = true) (s : State) (o : Origin) (x : BamMsg) :
    (State.hello2 s o x).outside W = s.outside W := by
  unfold State.hello2; ((try dsimp only); repeat' split) <;> simp [h_cans, h_net, h_outbox, h_recorder]

@[simp] theorem State.hello12_outside (h_cans : W.cans = true) (h_net : W.net = true) (h_outbox : W.outbox = true) (h_recorder : W.recorder = true) (s : State) (o : Origin) (x : BamMsg) :
    (State.hello12 s o x).outside W = s.outside W := by
  unfold State.hello12; ((try dsimp only); repeat' split) <;> simp [h_cans, h_net, h_outbox, h_recorder]

@[simp] theorem State.readMulti_outside (h_cans : W.cans = true) (h_fresh : W.fresh = true) (h_hall : W.hall = true) (h_net : W.net = true) (h_nvm : W.nvm = true) (h_outbox : W.outbox = true) (h_recorder : W.recorder = true) (h_treads : W.treads = true) (s : State) (k : Nat) (x : BamMsg) :
    (State.readMulti s k x).outside W = s.outside W := by
  unfold State.readMulti; simp [h_cans, h_fresh, h_hall, h_net, h_nvm, h_outbox, h_recorder, h_treads]

@[simp] theorem State.blockRead_outside (h_cans : W.cans = true) (h_fresh : W.fresh = true) (h_hall : W.hall = true) (h_net : W.net = true) (h_nvm : W.nvm = true) (h_outbox : W.outbox = true) (h_recorder : W.recorder = true) (h_treads : W.treads = true) (s : State) (k : Nat) (x : BamMsg) :
    (State.blockRead s k x).outside W = s.outside W := by
  unfold State.blockRead; simp [h_cans, h_fresh, h_hall, h_net, h_nvm, h_outbox, h_recorder, h_treads]

@[simp] theorem State.answerWrites_outside (h_cans : W.cans = true) (h_net : W.net = true) (h_outbox : W.outbox = true) (s : State) (k : Nat) (x : BamMsg) (l : List WriteResult) :
    (State.answerWrites s k x l).outside W = s.outside W := by
  unfold State.answerWrites; simp [h_cans, h_net, h_outbox]

@[simp] theorem State.writeItems_outside (h_cans : W.cans = true) (h_carried : W.carried = true) (h_clock : W.clock = true) (h_crossings : W.crossings = true) (h_dsp : W.dsp = true) (h_field : W.field = true) (h_fuses : W.fuses = true) (h_hall : W.hall = true) (h_line : W.line = true) (h_loops : W.loops = true) (h_mode : W.mode = true) (h_net : W.net = true) (h_nvm : W.nvm = true) (h_outbox : W.outbox = true) (h_pair : W.pair = true) (h_params : W.params = true) (h_plans : W.plans = true) (h_recorder : W.recorder = true) (h_resyncs : W.resyncs = true) (h_staged : W.staged = true) (h_sup : W.sup = true) (h_tasks : W.tasks = true) (h_treads : W.treads = true) (s : State) (k : Nat) (x : BamMsg) (bad : Nat) (l : List WItem) :
    (State.writeItems s k x bad l).1.outside W = s.outside W := by
  unfold State.writeItems
  exact outside_foldl_fst l.zipIdx _ (fun t n => by simp only [State.writeItem_outside, h_cans, h_carried, h_clock, h_crossings, h_dsp, h_field, h_fuses, h_hall, h_line, h_loops, h_mode, h_net, h_nvm, h_outbox, h_pair, h_params, h_plans, h_recorder, h_resyncs, h_staged, h_sup, h_tasks, h_treads]) _

@[simp] theorem State.writeMsg_outside (h_cans : W.cans = true) (h_carried : W.carried = true) (h_clock : W.clock = true) (h_crossings : W.crossings = true) (h_dsp : W.dsp = true) (h_field : W.field = true) (h_fuses : W.fuses = true) (h_hall : W.hall = true) (h_line : W.line = true) (h_loops : W.loops = true) (h_mode : W.mode = true) (h_net : W.net = true) (h_nvm : W.nvm = true) (h_outbox : W.outbox = true) (h_pair : W.pair = true) (h_params : W.params = true) (h_plans : W.plans = true) (h_recorder : W.recorder = true) (h_resyncs : W.resyncs = true) (h_staged : W.staged = true) (h_sup : W.sup = true) (h_tasks : W.tasks = true) (h_treads : W.treads = true) (s : State) (k : Nat) (x : BamMsg) (bad : Nat) :
    (State.writeMsg s k x bad).outside W = s.outside W := by
  unfold State.writeMsg; simp [h_cans, h_carried, h_clock, h_crossings, h_dsp, h_field, h_fuses, h_hall, h_line, h_loops, h_mode, h_net, h_nvm, h_outbox, h_pair, h_params, h_plans, h_recorder, h_resyncs, h_staged, h_sup, h_tasks, h_treads]

@[simp] theorem State.writeMulti_outside (h_cans : W.cans = true) (h_carried : W.carried = true) (h_clock : W.clock = true) (h_crossings : W.crossings = true) (h_dsp : W.dsp = true) (h_field : W.field = true) (h_fuses : W.fuses = true) (h_hall : W.hall = true) (h_line : W.line = true) (h_loops : W.loops = true) (h_mode : W.mode = true) (h_net : W.net = true) (h_nvm : W.nvm = true) (h_outbox : W.outbox = true) (h_pair : W.pair = true) (h_params : W.params = true) (h_plans : W.plans = true) (h_recorder : W.recorder = true) (h_resyncs : W.resyncs = true) (h_staged : W.staged = true) (h_sup : W.sup = true) (h_tasks : W.tasks = true) (h_treads : W.treads = true) (s : State) (k : Nat) (x : BamMsg) (bad : Nat) :
    (State.writeMulti s k x bad).outside W = s.outside W := by
  unfold State.writeMulti; ((try dsimp only); repeat' split) <;> simp [h_cans, h_carried, h_clock, h_crossings, h_dsp, h_field, h_fuses, h_hall, h_line, h_loops, h_mode, h_net, h_nvm, h_outbox, h_pair, h_params, h_plans, h_recorder, h_resyncs, h_staged, h_sup, h_tasks, h_treads]

@[simp] theorem State.imageTouched_outside (h_mode : W.mode = true) (h_plans : W.plans = true) (h_recorder : W.recorder = true) (h_sup : W.sup = true) (s : State) :
    (State.imageTouched s).outside W = s.outside W := by
  unfold State.imageTouched; simp [h_mode, h_plans, h_recorder, h_sup]

@[simp] theorem State.imageOpen_outside (h_mode : W.mode = true) (h_nvm : W.nvm = true) (h_plans : W.plans = true) (h_recorder : W.recorder = true) (h_sup : W.sup = true) (s : State) (target total : Nat) :
    (State.imageOpen s target total).1.outside W = s.outside W := by
  unfold State.imageOpen; simp [h_mode, h_nvm, h_plans, h_recorder, h_sup]

@[simp] theorem State.setTransfer_outside (h_net : W.net = true) (s : State) (x : Transfer) :
    (State.setTransfer s x).outside W = s.outside W := by
  unfold State.setTransfer; simp [h_net]

@[simp] theorem State.dropTransfer_outside (h_net : W.net = true) (s : State) (number : Nat) :
    (State.dropTransfer s number).outside W = s.outside W := by
  unfold State.dropTransfer; simp [h_net]

@[simp] theorem State.blockReply_outside (h_cans : W.cans = true) (h_net : W.net = true) (h_outbox : W.outbox = true) (s : State) (k seq : Nat) (st : Status) (idx sub number next : Nat) :
    (State.blockReply s k seq st idx sub number next).outside W = s.outside W := by
  unfold State.blockReply; simp [h_cans, h_net, h_outbox]

@[simp] theorem State.segment_outside (h_cans : W.cans = true) (h_carried : W.carried = true) (h_clock : W.clock = true) (h_crossings : W.crossings = true) (h_dsp : W.dsp = true) (h_field : W.field = true) (h_fuses : W.fuses = true) (h_hall : W.hall = true) (h_line : W.line = true) (h_loops : W.loops = true) (h_mode : W.mode = true) (h_net : W.net = true) (h_nvm : W.nvm = true) (h_outbox : W.outbox = true) (h_pair : W.pair = true) (h_params : W.params = true) (h_plans : W.plans = true) (h_recorder : W.recorder = true) (h_resyncs : W.resyncs = true) (h_staged : W.staged = true) (h_sup : W.sup = true) (h_tasks : W.tasks = true) (h_treads : W.treads = true) (s : State) (k seq bad off : Nat) (data : Bytes) (x : Transfer) :
    (State.segment s k seq bad off data x).outside W = s.outside W := by
  unfold State.segment; ((try dsimp only); repeat' split) <;> simp [h_cans, h_carried, h_clock, h_crossings, h_dsp, h_field, h_fuses, h_hall, h_line, h_loops, h_mode, h_net, h_nvm, h_outbox, h_pair, h_params, h_plans, h_recorder, h_resyncs, h_staged, h_sup, h_tasks, h_treads]

@[simp] theorem State.blockStart_outside (h_cans : W.cans = true) (h_carried : W.carried = true) (h_clock : W.clock = true) (h_crossings : W.crossings = true) (h_dsp : W.dsp = true) (h_field : W.field = true) (h_fuses : W.fuses = true) (h_hall : W.hall = true) (h_line : W.line = true) (h_loops : W.loops = true) (h_mode : W.mode = true) (h_net : W.net = true) (h_nvm : W.nvm = true) (h_outbox : W.outbox = true) (h_pair : W.pair = true) (h_params : W.params = true) (h_plans : W.plans = true) (h_recorder : W.recorder = true) (h_resyncs : W.resyncs = true) (h_staged : W.staged = true) (h_sup : W.sup = true) (h_tasks : W.tasks = true) (h_treads : W.treads = true) (s : State) (k seq bad idx sub off total : Nat) (data : Bytes) :
    (State.blockStart s k seq bad idx sub off total data).outside W = s.outside W := by
  unfold State.blockStart; ((try dsimp only); repeat' split) <;> simp [h_cans, h_carried, h_clock, h_crossings, h_dsp, h_field, h_fuses, h_hall, h_line, h_loops, h_mode, h_net, h_nvm, h_outbox, h_pair, h_params, h_plans, h_recorder, h_resyncs, h_staged, h_sup, h_tasks, h_treads]

@[simp] theorem State.blockWrite_outside (h_cans : W.cans = true) (h_carried : W.carried = true) (h_clock : W.clock = true) (h_crossings : W.crossings = true) (h_dsp : W.dsp = true) (h_field : W.field = true) (h_fuses : W.fuses = true) (h_hall : W.hall = true) (h_line : W.line = true) (h_loops : W.loops = true) (h_mode : W.mode = true) (h_net : W.net = true) (h_nvm : W.nvm = true) (h_outbox : W.outbox = true) (h_pair : W.pair = true) (h_params : W.params = true) (h_plans : W.plans = true) (h_recorder : W.recorder = true) (h_resyncs : W.resyncs = true) (h_staged : W.staged = true) (h_sup : W.sup = true) (h_tasks : W.tasks = true) (h_treads : W.treads = true) (s : State) (k : Nat) (x : BamMsg) (bad : Nat) :
    (State.blockWrite s k x bad).outside W = s.outside W := by
  unfold State.blockWrite; ((try dsimp only); repeat' split) <;> simp [h_cans, h_carried, h_clock, h_crossings, h_dsp, h_field, h_fuses, h_hall, h_line, h_loops, h_mode, h_net, h_nvm, h_outbox, h_pair, h_params, h_plans, h_recorder, h_resyncs, h_staged, h_sup, h_tasks, h_treads]

@[simp] theorem State.subscribe_outside (h_cans : W.cans = true) (h_fresh : W.fresh = true) (h_hall : W.hall = true) (h_net : W.net = true) (h_nvm : W.nvm = true) (h_outbox : W.outbox = true) (h_recorder : W.recorder = true) (h_treads : W.treads = true) (s : State) (k : Nat) (x : BamMsg) :
    (State.subscribe s k x).outside W = s.outside W := by
  unfold State.subscribe; ((try dsimp only); repeat' split) <;> simp [h_cans, h_fresh, h_hall, h_net, h_nvm, h_outbox, h_recorder, h_treads]

@[simp] theorem State.commitMsg_outside (h_cans : W.cans = true) (h_net : W.net = true) (h_nvm : W.nvm = true) (h_outbox : W.outbox = true) (s : State) (k : Nat) (x : BamMsg) :
    (State.commitMsg s k x).outside W = s.outside W := by
  unfold State.commitMsg; ((try dsimp only); repeat' split) <;> simp [h_cans, h_net, h_nvm, h_outbox]

end Sys2Proof.Machine
end

