-- ==== Sys2Proof/Laws/Bytes.lean ====
section
/-! SUPPORT. Little-endian bytes, and what a value that a command writes spells. -/
namespace Sys2Proof.Machine

@[simp] theorem leBytes_length (n v : Nat) : (leBytes n v).length = n := by
  induction n generalizing v with
  | zero => rfl
  | succ n ih => simp [leBytes, ih]

/-- Bytes of a number spell it, modulo what they can hold. -/
theorem leNat_leBytes (n v : Nat) : leNat (leBytes n v) = v % 256 ^ n := by
  induction n generalizing v with
  | zero => simp [leBytes, leNat, Nat.mod_one]
  | succ n ih =>
    show (BitVec.ofNat 8 v).toNat + 256 * leNat (leBytes n (v / 256)) = _
    rw [ih, BitVec.toNat_ofNat, show 256 ^ (n + 1) = 256 * 256 ^ n from by rw [Nat.pow_succ, Nat.mul_comm], Nat.mod_mul]

/-- The value of a write of an unsigned number that fits. -/
theorem valNat_leBytes {ty : Ty} {n v : Nat} (ht : tySize ty = some n) (h : v < 256 ^ n) : valNat (bytesVal ty (leBytes n v)) = v := by
  unfold bytesVal
  rw [ht]
  simp only [valNat, leNat_leBytes, Nat.mod_eq_of_lt h]

end Sys2Proof.Machine
end

