-- ==== Sys2Proof/Laws/CanBamconFrame.lean ====
section
/-! SUPPORT. What each operation of Machine/CanBamcon.lean leaves as it was: everything outside the parts that its lemma names. -/
namespace Sys2Proof.Machine
set_option linter.unusedSimpArgs false
variable {W : Parts}

@[simp] theorem State.canHeard_outside (h_cans : W.cans = true) (h_fresh : W.fresh = true) (s : State) (n : Nat) :
    (State.canHeard s n).outside W = s.outside W := by
  unfold State.canHeard; simp [h_cans, h_fresh]

@[simp] theorem State.canSetReasm_outside (h_cans : W.cans = true) (s : State) (n c : Nat) (l : List CanReasm) :
    (State.canSetReasm s n c l).outside W = s.outside W := by
  unfold State.canSetReasm; simp [h_cans]

@[simp] theorem State.canDiscard_outside (h_cans : W.cans = true) (h_recorder : W.recorder = true) (s : State) (n c cause : Nat) :
    (State.canDiscard s n c cause).outside W = s.outside W := by
  unfold State.canDiscard; simp [h_cans, h_recorder]

end Sys2Proof.Machine
end

