-- ==== Sys2Proof/Laws/Entries.lean ====
section
/-! SUPPORT. What an accepted write of each entry does, said once: `entryEffect` at each entry that a command names. -/
namespace Sys2Proof.Machine

theorem isSelector_false {idx : Nat} (sub : Nat)
    (h : idx ≠ 0x1510 ∧ idx ≠ 0x1520 ∧ idx ≠ 0x1600 ∧ idx ≠ 0x1610 ∧ idx ≠ 0x2340 ∧ idx ≠ 0x3EFF) : isSelector idx sub = false := by
  obtain ⟨h1, h2, h3, h4, h5, h6⟩ := h
  unfold isSelector
  split <;> first | rfl | (exact absurd rfl h1) | (exact absurd rfl h2) | (exact absurd rfl h3) | (exact absurd rfl h4) | (exact absurd rfl h5) | (exact absurd rfl h6)

variable (s : State) (a : Asker) (v : Val)

theorem entry_mode : s.entryEffect a 0x1100 4 v = s.modeCommand (valNat v) a.bad := rfl
theorem entry_restart : s.entryEffect a 0x1110 1 v = s.restartRequest (valNat v) a.bad := rfl
theorem entry_timeSet : s.entryEffect a 0x1210 0x12 v = s.timeWrite (valNat v) := rfl
theorem entry_roleKey (j : Nat) : s.entryEffect a 0x1221 j v = s.roleKey j (valRaw v) := rfl
theorem entry_keySeq : s.entryEffect a 0x1222 1 v = s.updSess a.slot fun x => { x with armed := some (valNat v, s.now, x.highSeq) } := rfl
theorem entry_pair : s.entryEffect a 0x1400 0x0D v = s.pairCommand (valNat v) := rfl
theorem entry_protect : s.entryEffect a 0x1500 7 v = s.protectWrite false (valNat v) := rfl
theorem entry_psClear : s.entryEffect a 0x1500 0x0B v = s.psClear := rfl
theorem entry_psData : s.entryEffect a 0x1510 2 v = s.psStage (s.selOf a.slot 0x1510 1) (valRaw v) := rfl
theorem entry_page : s.entryEffect a 0x1520 3 v = s.pageWrite (s.selOf a.slot 0x1520 1) (valRaw v) := rfl
theorem entry_rpProtect : s.entryEffect a 0x1520 4 v = s.protectWrite true (valNat v) := rfl
theorem entry_evidence : s.entryEffect a 0x1710 0x0E v =
    s.updSup fun x => { x with backup := { x.backup with evidence := { x.backup.evidence with valid := false } } } := rfl
theorem entry_rtc : s.entryEffect a 0x1720 2 v = s.rtcWrite (valNat v) := rfl
theorem entry_bkpLost : s.entryEffect a 0x1720 7 v = s.updSup fun x => { x with backup := { x.backup with lost := false } } := rfl
theorem entry_bkpBytes : s.entryEffect a 0x1721 1 v = s.updSup fun x => { x with backup := { x.backup with bytes := valRaw v, valid := true } } := rfl
theorem entry_winFuse : s.entryEffect a 0x1722 1 v = s.updFuses fun x => { x with win := fuseStart x.win (leBytes 1 (valNat v)) } := rfl
theorem entry_fwCmd : s.entryEffect a 0x1800 5 v =
    if valNat v = 1 then s.updSup fun x => { x with fw := { x.fw with stage := 2, verifyAt := s.now } } else s.fwDiscard := rfl
theorem entry_fwConfirm : s.entryEffect a 0x1801 5 v = s.updSup fun x => { x with fw := { x.fw with confirm := true } } := rfl
theorem entry_planCmd : s.entryEffect a 0x2401 4 v =
    if valNat v = 1 then s.planVerify else if valNat v = 2 then s.planDiscard else s.planActivate a.bad := rfl
theorem entry_swapAt : s.entryEffect a 0x2402 2 v = s.editArm (valNat v) := rfl
theorem entry_cancel : s.entryEffect a 0x2402 4 v = (s.cancelEdit 0).leaveEdit := rfl
theorem entry_pubKey : s.entryEffect a 0x2403 1 v = s.updPlans fun x => { x with pubKey := valRaw v } := rfl
theorem entry_keyConfirm : s.entryEffect a 0x2403 2 v = s.updFuses fun x => { x with key := fuseStart x.key s.plans.pubKey } := rfl
theorem entry_supDisable : s.entryEffect a 0x1700 0x0D v = s.supDisable := rfl
theorem entry_dspMode : s.entryEffect a 0x2800 1 v = s.dspMode (valNat v) := rfl

theorem entry_wdtLock {w : Nat} (h : w < 5) : s.entryEffect a (0x1700 + w) 5 v = s.updWdt w fun x => { x with lock := true } := by
  match w, h with
  | 0, _ => rfl
  | 1, _ => rfl
  | 2, _ => rfl
  | 3, _ => rfl
  | 4, _ => rfl

theorem entry_canCmd {n : Nat} (h : n < 4) : s.entryEffect a (0x1301 + 0x40 * n) 0x0F v = s.canState n 5 := by
  match n, h with
  | 0, _ => rfl
  | 1, _ => rfl
  | 2, _ => rfl
  | 3, _ => rfl

theorem entry_preset {i : Nat} (h : i < 4) : s.entryEffect a (0x2040 + i) 0x1E v = s.presetCmd i (valNat v) := by
  match i, h with
  | 0, _ => rfl
  | 1, _ => rfl
  | 2, _ => rfl
  | 3, _ => rfl

theorem entry_readmit {i : Nat} (h : i < 4) : s.entryEffect a (0x2040 + i) 0x1F v = s.readmitWrite i (valNat v) := by
  match i, h with
  | 0, _ => rfl
  | 1, _ => rfl
  | 2, _ => rfl
  | 3, _ => rfl

theorem entry_flCmd {f : Nat} (h : f < 256) : s.entryEffect a (0x218C + f / 128) (f % 128 + 1) v = s.flCmdWrite f (valNat v) := by
  have h2 : 0x218C + f / 128 = 0x218C ∨ 0x218C + f / 128 = 0x218D := by omega
  have h3 : flNumber (0x218C + f / 128) (f % 128 + 1) = f := by unfold flNumber; omega
  have hs : isSelector (0x218C + f / 128) (f % 128 + 1) = false := isSelector_false _ (by omega)
  have hc : isFlCmd (0x218C + f / 128) = true := by simp only [isFlCmd, Bool.or_eq_true, decide_eq_true_eq]; omega
  unfold State.entryEffect
  dsimp only
  rw [hs, if_neg (by simp), if_neg (by omega), if_neg (by omega), if_neg (by omega), hc, if_pos rfl, h3]

theorem entry_window {w : Nat} (h : w < 16) : s.entryEffect a (0x2310 + w) 5 v = s.windowWrite w (valRaw v) := by
  have hs : isSelector (0x2310 + w) 5 = false := isSelector_false _ (by omega)
  have hc : isFlCmd (0x2310 + w) = false := by simp only [isFlCmd, Bool.or_eq_false_iff, decide_eq_false_iff_not]; omega
  have hw : isWindow (0x2310 + w) = true := by simp only [isWindow, Bool.and_eq_true, decide_eq_true_eq]; omega
  unfold State.entryEffect
  dsimp only
  rw [hs, if_neg (by simp), if_neg (by omega), if_neg (by omega), if_neg (by omega), hc, if_neg (by simp), hw, if_pos rfl, if_pos rfl,
    Nat.add_sub_cancel_left]

theorem entry_dio {n : Nat} (h : n < 48) :
    s.entryEffect a (0x2600 + n) 0x13 v = if valNat v = 1 then s.dioReset n else s.dioZero n := by
  have hs : isSelector (0x2600 + n) 0x13 = false := isSelector_false _ (by omega)
  have hc : isFlCmd (0x2600 + n) = false := by simp only [isFlCmd, Bool.or_eq_false_iff, decide_eq_false_iff_not]; omega
  have hw : isWindow (0x2600 + n) = false := by simp only [isWindow, Bool.and_eq_false_iff, decide_eq_false_iff_not]; omega
  unfold State.entryEffect
  dsimp only
  rw [hs, if_neg (by simp), if_neg (by omega), if_neg (by omega), if_neg (by omega), hc, if_neg (by simp), hw, if_neg (by simp), if_pos (by omega),
    Nat.add_sub_cancel_left]

theorem entry_aio {n : Nat} (h : n < 8) :
    s.entryEffect a (0x2700 + n) 0x18 v = if valNat v = 1 then s.aioClear n else s.aioTrim n := by
  have hs : isSelector (0x2700 + n) 0x18 = false := isSelector_false _ (by omega)
  have hc : isFlCmd (0x2700 + n) = false := by simp only [isFlCmd, Bool.or_eq_false_iff, decide_eq_false_iff_not]; omega
  have hw : isWindow (0x2700 + n) = false := by simp only [isWindow, Bool.and_eq_false_iff, decide_eq_false_iff_not]; omega
  unfold State.entryEffect
  dsimp only
  rw [hs, if_neg (by simp), if_neg (by omega), if_neg (by omega), if_neg (by omega), hc, if_neg (by simp), hw, if_neg (by simp), if_neg (by omega),
    if_pos (by omega), Nat.add_sub_cancel_left]

theorem entry_loop {n : Nat} (h : n < 2048) (sub : Nat) :
    s.entryEffect a (0x4000 + n) sub v = if sub = 1 then s.enableLoop n (valNat v ≠ 0) else s.setVal (0x4000 + n) sub v := by
  have hs : isSelector (0x4000 + n) sub = false := isSelector_false _ (by omega)
  have hc : isFlCmd (0x4000 + n) = false := by simp only [isFlCmd, Bool.or_eq_false_iff, decide_eq_false_iff_not]; omega
  have hw : isWindow (0x4000 + n) = false := by simp only [isWindow, Bool.and_eq_false_iff, decide_eq_false_iff_not]; omega
  have hl : isLoop (0x4000 + n) = true := by simp only [isLoop, Bool.and_eq_true, decide_eq_true_eq]; omega
  unfold State.entryEffect
  dsimp only
  rw [hs, if_neg (by simp), if_neg (by omega), if_neg (by omega), if_neg (by omega), hc, if_neg (by simp), hw, if_neg (by simp), if_neg (by omega),
    if_neg (by omega), if_neg (by omega), hl, Nat.add_sub_cancel_left]
  simp only [true_and]

end Sys2Proof.Machine
end

