-- ==== Sys2Proof/Laws/Ops.lean ====
section
/-! SUPPORT. The shared frame of every command: what `perform`, `act` and `actUnit` can answer, and what `State.clear` rules out, said once. -/
namespace Sys2Proof.Machine

/-- A command over `act` always answers a next state. -/
theorem act_next (t : Nat) (f : State → State) (s : State) :
    act t f s = .next { f (s.upTo t) with now := max s.now t, pending := s.pending } := rfl

/-- A command for a unit that exists answers a next state. -/
theorem actUnit_next {n count : Nat} (h : n < count) (t : Nat) (what : String) (f : State → State) (s : State) :
    actUnit t what n count f s = .next { f (s.upTo t) with now := max s.now t, pending := s.pending } := by
  simp only [actUnit, perform, h, if_true, State.upTo]

/-- A command for a unit that does not exist faults. -/
theorem actUnit_fault {n count : Nat} (h : ¬ n < count) (t : Nat) (what : String) (f : State → State) (s : State) :
    actUnit t what n count f s = .fault (.noUnit what n) := by
  simp only [actUnit, perform, h, if_false]

/-- Everything that `perform` can answer. -/
theorem perform_next {t : Nat} {f : State → Outcome} {s s' : State} (h : perform t f s = .next s') :
    ∃ u, f (s.upTo t) = .next u ∧ s' = { u with now := max s.now t, pending := s.pending } := by
  unfold perform at h
  split at h
  · rename_i u e
    exact ⟨u, e, by injection h with h; exact h.symm⟩
  · cases h
  · cases h

@[simp] theorem State.when_true (s : State) (f : State → State) : s.when true f = f s := rfl
@[simp] theorem State.when_false (s : State) (f : State → State) : s.when false f = s := rfl
theorem State.when_pos {s : State} {c : Bool} (h : c = true) (f : State → State) : s.when c f = f s := by rw [h]; rfl
theorem State.when_neg {s : State} {c : Bool} (h : c = false) (f : State → State) : s.when c f = s := by rw [h]; rfl

/-! Nothing that waits coincides with a command given clear of it (log 137) -/

/-- What waits clear of `t` falls in another clock, for every clock of at most 250 µs. -/
theorem apart_of_clear {s : State} {t : Nat} (h : s.clear t) {c : Instr} (hc : c ∈ s.pending) {d : Nat} (hd : 0 < d) (hs : d ≤ 250000) :
    max (max s.now t) c.instant / d ≠ max s.now t / d := by
  intro e
  have h1 := h c hc
  have h2 : max s.now t + d ≤ max (max s.now t) c.instant := by omega
  have h3 := Nat.div_le_div_right (c := d) h2
  rw [Nat.add_div_right _ hd] at h3
  omega

/-- A clock of the module that `State.clear` keeps free: each is a whole number of ns. -/
theorem coming_of_clear {s : State} {t : Nat} (h : s.clear t) {clock : Nat → Nat} {d : Nat} (hk : ∀ n, clock n = n / d) (hd : 0 < d) (hs : d ≤ 250000)
    (p : Instr → Bool) : (s.upTo t).coming clock p = false := by
  unfold State.coming
  rw [List.any_eq_false]
  intro c hc
  have h1 := apart_of_clear h hc hd hs
  rw [hk, hk, Bool.and_eq_true, decide_eq_true_iff]
  exact fun e => h1 e.2

theorem coming_posClock {s : State} {t : Nat} (h : s.clear t) (p : Instr → Bool) : (s.upTo t).coming posClock p = false :=
  coming_of_clear h (d := 4) (fun _ => rfl) (by decide) (by decide) p
theorem coming_coreClock {s : State} {t : Nat} (h : s.clear t) (p : Instr → Bool) : (s.upTo t).coming coreClock p = false :=
  coming_of_clear h (d := 2) (fun _ => rfl) (by decide) (by decide) p

/-- No further reset of a crossing waits within the handshake that starts at `t`. -/
theorem restarts_of_clear {s : State} {t : Nat} (h : s.clear t) (n : Nat) : (s.upTo t).restarts n = false := by
  unfold State.restarts
  rw [List.any_eq_false]
  intro c hc
  have h1 := h c hc
  have h2 : handshakeNs n ≤ 250000 := by unfold handshakeNs; (repeat' split) <;> omega
  split
  · simp only [Instr.instant] at h1
    rw [Bool.and_eq_true, decide_eq_true_iff, decide_eq_true_iff]
    simp only [State.upTo]
    omega
  · exact Bool.false_ne_true

/-- No waiting count is taken ahead of its turn. -/
theorem takeCounts_of_clear {s : State} {t : Nat} (h : s.clear t) {clock : Nat → Nat} {d : Nat} (hk : ∀ n, clock n = n / d) (hd : 0 < d) (hs : d ≤ 250000)
    (mask : Nat) : (s.upTo t).takeCounts clock mask = s.upTo t := by
  unfold State.takeCounts
  rw [List.filter_eq_nil_iff.2]
  · rfl
  · intro c hc e
    rw [Bool.and_eq_true, decide_eq_true_iff, hk, hk] at e
    exact apart_of_clear h hc hd hs e.1

end Sys2Proof.Machine
end

