-- ==== Sys2Proof/Laws/State.lean ====
section
/-! SUPPORT. What two states that agree outside some parts share, and the parts that the shared operations leave as they were. -/
namespace Sys2Proof.Machine
variable {W : Parts}

/-! Agreement outside a set of parts gives each part not in the set. -/

theorem keep_pending {s t : State} (h : s.outside W = t.outside W) (n : W.pending = false) : s.pending = t.pending := by
  have := congrArg State.pending h; simpa [State.outside, n] using this
theorem keep_now {s t : State} (h : s.outside W = t.outside W) (n : W.now = false) : s.now = t.now := by
  have := congrArg State.now h; simpa [State.outside, n] using this
theorem keep_bootAt {s t : State} (h : s.outside W = t.outside W) (n : W.bootAt = false) : s.bootAt = t.bootAt := by
  have := congrArg State.bootAt h; simpa [State.outside, n] using this
theorem keep_fresh {s t : State} (h : s.outside W = t.outside W) (n : W.fresh = false) : s.fresh = t.fresh := by
  have := congrArg State.fresh h; simpa [State.outside, n] using this
theorem keep_outbox {s t : State} (h : s.outside W = t.outside W) (n : W.outbox = false) : s.outbox = t.outbox := by
  have := congrArg State.outbox h; simpa [State.outside, n] using this
theorem keep_mode {s t : State} (h : s.outside W = t.outside W) (n : W.mode = false) : s.mode = t.mode := by
  have := congrArg State.mode h; simpa [State.outside, n] using this
theorem keep_inReset {s t : State} (h : s.outside W = t.outside W) (n : W.inReset = false) : s.inReset = t.inReset := by
  have := congrArg State.inReset h; simpa [State.outside, n] using this
theorem keep_clock {s t : State} (h : s.outside W = t.outside W) (n : W.clock = false) : s.clock = t.clock := by
  have := congrArg State.clock h; simpa [State.outside, n] using this
theorem keep_params {s t : State} (h : s.outside W = t.outside W) (n : W.params = false) : s.params = t.params := by
  have := congrArg State.params h; simpa [State.outside, n] using this
theorem keep_staged {s t : State} (h : s.outside W = t.outside W) (n : W.staged = false) : s.staged = t.staged := by
  have := congrArg State.staged h; simpa [State.outside, n] using this
theorem keep_recorder {s t : State} (h : s.outside W = t.outside W) (n : W.recorder = false) : s.recorder = t.recorder := by
  have := congrArg State.recorder h; simpa [State.outside, n] using this
theorem keep_crossings {s t : State} (h : s.outside W = t.outside W) (n : W.crossings = false) : s.crossings = t.crossings := by
  have := congrArg State.crossings h; simpa [State.outside, n] using this
theorem keep_carried {s t : State} (h : s.outside W = t.outside W) (n : W.carried = false) : s.carried = t.carried := by
  have := congrArg State.carried h; simpa [State.outside, n] using this
theorem keep_resyncs {s t : State} (h : s.outside W = t.outside W) (n : W.resyncs = false) : s.resyncs = t.resyncs := by
  have := congrArg State.resyncs h; simpa [State.outside, n] using this
theorem keep_line {s t : State} (h : s.outside W = t.outside W) (n : W.line = false) : s.line = t.line := by
  have := congrArg State.line h; simpa [State.outside, n] using this
theorem keep_treads {s t : State} (h : s.outside W = t.outside W) (n : W.treads = false) : s.treads = t.treads := by
  have := congrArg State.treads h; simpa [State.outside, n] using this
theorem keep_hall {s t : State} (h : s.outside W = t.outside W) (n : W.hall = false) : s.hall = t.hall := by
  have := congrArg State.hall h; simpa [State.outside, n] using this
theorem keep_tasks {s t : State} (h : s.outside W = t.outside W) (n : W.tasks = false) : s.tasks = t.tasks := by
  have := congrArg State.tasks h; simpa [State.outside, n] using this
theorem keep_plans {s t : State} (h : s.outside W = t.outside W) (n : W.plans = false) : s.plans = t.plans := by
  have := congrArg State.plans h; simpa [State.outside, n] using this
theorem keep_loops {s t : State} (h : s.outside W = t.outside W) (n : W.loops = false) : s.loops = t.loops := by
  have := congrArg State.loops h; simpa [State.outside, n] using this
theorem keep_dsp {s t : State} (h : s.outside W = t.outside W) (n : W.dsp = false) : s.dsp = t.dsp := by
  have := congrArg State.dsp h; simpa [State.outside, n] using this
theorem keep_field {s t : State} (h : s.outside W = t.outside W) (n : W.field = false) : s.field = t.field := by
  have := congrArg State.field h; simpa [State.outside, n] using this
theorem keep_net {s t : State} (h : s.outside W = t.outside W) (n : W.net = false) : s.net = t.net := by
  have := congrArg State.net h; simpa [State.outside, n] using this
theorem keep_cans {s t : State} (h : s.outside W = t.outside W) (n : W.cans = false) : s.cans = t.cans := by
  have := congrArg State.cans h; simpa [State.outside, n] using this
theorem keep_pair {s t : State} (h : s.outside W = t.outside W) (n : W.pair = false) : s.pair = t.pair := by
  have := congrArg State.pair h; simpa [State.outside, n] using this
theorem keep_nvm {s t : State} (h : s.outside W = t.outside W) (n : W.nvm = false) : s.nvm = t.nvm := by
  have := congrArg State.nvm h; simpa [State.outside, n] using this
theorem keep_sup {s t : State} (h : s.outside W = t.outside W) (n : W.sup = false) : s.sup = t.sup := by
  have := congrArg State.sup h; simpa [State.outside, n] using this
theorem keep_fuses {s t : State} (h : s.outside W = t.outside W) (n : W.fuses = false) : s.fuses = t.fuses := by
  have := congrArg State.fuses h; simpa [State.outside, n] using this

/-! `upTo` -/

@[simp] theorem State.upTo_pending (s : State) (t : Nat) : (s.upTo t).pending = s.pending := rfl
@[simp] theorem State.upTo_bootAt (s : State) (t : Nat) : (s.upTo t).bootAt = s.bootAt := rfl
@[simp] theorem State.upTo_fresh (s : State) (t : Nat) : (s.upTo t).fresh = s.fresh := rfl
@[simp] theorem State.upTo_outbox (s : State) (t : Nat) : (s.upTo t).outbox = s.outbox := rfl
@[simp] theorem State.upTo_mode (s : State) (t : Nat) : (s.upTo t).mode = s.mode := rfl
@[simp] theorem State.upTo_inReset (s : State) (t : Nat) : (s.upTo t).inReset = s.inReset := rfl
@[simp] theorem State.upTo_clock (s : State) (t : Nat) : (s.upTo t).clock = s.clock := rfl
@[simp] theorem State.upTo_params (s : State) (t : Nat) : (s.upTo t).params = s.params := rfl
@[simp] theorem State.upTo_staged (s : State) (t : Nat) : (s.upTo t).staged = s.staged := rfl
@[simp] theorem State.upTo_recorder (s : State) (t : Nat) : (s.upTo t).recorder = s.recorder := rfl
@[simp] theorem State.upTo_crossings (s : State) (t : Nat) : (s.upTo t).crossings = s.crossings := rfl
@[simp] theorem State.upTo_carried (s : State) (t : Nat) : (s.upTo t).carried = s.carried := rfl
@[simp] theorem State.upTo_resyncs (s : State) (t : Nat) : (s.upTo t).resyncs = s.resyncs := rfl
@[simp] theorem State.upTo_line (s : State) (t : Nat) : (s.upTo t).line = s.line := rfl
@[simp] theorem State.upTo_treads (s : State) (t : Nat) : (s.upTo t).treads = s.treads := rfl
@[simp] theorem State.upTo_hall (s : State) (t : Nat) : (s.upTo t).hall = s.hall := rfl
@[simp] theorem State.upTo_tasks (s : State) (t : Nat) : (s.upTo t).tasks = s.tasks := rfl
@[simp] theorem State.upTo_plans (s : State) (t : Nat) : (s.upTo t).plans = s.plans := rfl
@[simp] theorem State.upTo_loops (s : State) (t : Nat) : (s.upTo t).loops = s.loops := rfl
@[simp] theorem State.upTo_dsp (s : State) (t : Nat) : (s.upTo t).dsp = s.dsp := rfl
@[simp] theorem State.upTo_field (s : State) (t : Nat) : (s.upTo t).field = s.field := rfl
@[simp] theorem State.upTo_net (s : State) (t : Nat) : (s.upTo t).net = s.net := rfl
@[simp] theorem State.upTo_cans (s : State) (t : Nat) : (s.upTo t).cans = s.cans := rfl
@[simp] theorem State.upTo_pair (s : State) (t : Nat) : (s.upTo t).pair = s.pair := rfl
@[simp] theorem State.upTo_nvm (s : State) (t : Nat) : (s.upTo t).nvm = s.nvm := rfl
@[simp] theorem State.upTo_sup (s : State) (t : Nat) : (s.upTo t).sup = s.sup := rfl
@[simp] theorem State.upTo_fuses (s : State) (t : Nat) : (s.upTo t).fuses = s.fuses := rfl

/-! `ev` -/

@[simp] theorem State.ev_pending (s : State) (c : Nat) (d : Bytes) : (s.ev c d).pending = s.pending :=
  keep_pending (W := { recorder := true }) (State.ev_outside rfl ..) rfl
@[simp] theorem State.ev_now (s : State) (c : Nat) (d : Bytes) : (s.ev c d).now = s.now :=
  keep_now (W := { recorder := true }) (State.ev_outside rfl ..) rfl
@[simp] theorem State.ev_bootAt (s : State) (c : Nat) (d : Bytes) : (s.ev c d).bootAt = s.bootAt :=
  keep_bootAt (W := { recorder := true }) (State.ev_outside rfl ..) rfl
@[simp] theorem State.ev_fresh (s : State) (c : Nat) (d : Bytes) : (s.ev c d).fresh = s.fresh :=
  keep_fresh (W := { recorder := true }) (State.ev_outside rfl ..) rfl
@[simp] theorem State.ev_outbox (s : State) (c : Nat) (d : Bytes) : (s.ev c d).outbox = s.outbox :=
  keep_outbox (W := { recorder := true }) (State.ev_outside rfl ..) rfl
@[simp] theorem State.ev_mode (s : State) (c : Nat) (d : Bytes) : (s.ev c d).mode = s.mode :=
  keep_mode (W := { recorder := true }) (State.ev_outside rfl ..) rfl
@[simp] theorem State.ev_inReset (s : State) (c : Nat) (d : Bytes) : (s.ev c d).inReset = s.inReset :=
  keep_inReset (W := { recorder := true }) (State.ev_outside rfl ..) rfl
@[simp] theorem State.ev_clock (s : State) (c : Nat) (d : Bytes) : (s.ev c d).clock = s.clock :=
  keep_clock (W := { recorder := true }) (State.ev_outside rfl ..) rfl
@[simp] theorem State.ev_params (s : State) (c : Nat) (d : Bytes) : (s.ev c d).params = s.params :=
  keep_params (W := { recorder := true }) (State.ev_outside rfl ..) rfl
@[simp] theorem State.ev_staged (s : State) (c : Nat) (d : Bytes) : (s.ev c d).staged = s.staged :=
  keep_staged (W := { recorder := true }) (State.ev_outside rfl ..) rfl
@[simp] theorem State.ev_crossings (s : State) (c : Nat) (d : Bytes) : (s.ev c d).crossings = s.crossings :=
  keep_crossings (W := { recorder := true }) (State.ev_outside rfl ..) rfl
@[simp] theorem State.ev_carried (s : State) (c : Nat) (d : Bytes) : (s.ev c d).carried = s.carried :=
  keep_carried (W := { recorder := true }) (State.ev_outside rfl ..) rfl
@[simp] theorem State.ev_resyncs (s : State) (c : Nat) (d : Bytes) : (s.ev c d).resyncs = s.resyncs :=
  keep_resyncs (W := { recorder := true }) (State.ev_outside rfl ..) rfl
@[simp] theorem State.ev_line (s : State) (c : Nat) (d : Bytes) : (s.ev c d).line = s.line :=
  keep_line (W := { recorder := true }) (State.ev_outside rfl ..) rfl
@[simp] theorem State.ev_treads (s : State) (c : Nat) (d : Bytes) : (s.ev c d).treads = s.treads :=
  keep_treads (W := { recorder := true }) (State.ev_outside rfl ..) rfl
@[simp] theorem State.ev_hall (s : State) (c : Nat) (d : Bytes) : (s.ev c d).hall = s.hall :=
  keep_hall (W := { recorder := true }) (State.ev_outside rfl ..) rfl
@[simp] theorem State.ev_tasks (s : State) (c : Nat) (d : Bytes) : (s.ev c d).tasks = s.tasks :=
  keep_tasks (W := { recorder := true }) (State.ev_outside rfl ..) rfl
@[simp] theorem State.ev_plans (s : State) (c : Nat) (d : Bytes) : (s.ev c d).plans = s.plans :=
  keep_plans (W := { recorder := true }) (State.ev_outside rfl ..) rfl
@[simp] theorem State.ev_loops (s : State) (c : Nat) (d : Bytes) : (s.ev c d).loops = s.loops :=
  keep_loops (W := { recorder := true }) (State.ev_outside rfl ..) rfl
@[simp] theorem State.ev_dsp (s : State) (c : Nat) (d : Bytes) : (s.ev c d).dsp = s.dsp :=
  keep_dsp (W := { recorder := true }) (State.ev_outside rfl ..) rfl
@[simp] theorem State.ev_field (s : State) (c : Nat) (d : Bytes) : (s.ev c d).field = s.field :=
  keep_field (W := { recorder := true }) (State.ev_outside rfl ..) rfl
@[simp] theorem State.ev_net (s : State) (c : Nat) (d : Bytes) : (s.ev c d).net = s.net :=
  keep_net (W := { recorder := true }) (State.ev_outside rfl ..) rfl
@[simp] theorem State.ev_cans (s : State) (c : Nat) (d : Bytes) : (s.ev c d).cans = s.cans :=
  keep_cans (W := { recorder := true }) (State.ev_outside rfl ..) rfl
@[simp] theorem State.ev_pair (s : State) (c : Nat) (d : Bytes) : (s.ev c d).pair = s.pair :=
  keep_pair (W := { recorder := true }) (State.ev_outside rfl ..) rfl
@[simp] theorem State.ev_nvm (s : State) (c : Nat) (d : Bytes) : (s.ev c d).nvm = s.nvm :=
  keep_nvm (W := { recorder := true }) (State.ev_outside rfl ..) rfl
@[simp] theorem State.ev_sup (s : State) (c : Nat) (d : Bytes) : (s.ev c d).sup = s.sup :=
  keep_sup (W := { recorder := true }) (State.ev_outside rfl ..) rfl
@[simp] theorem State.ev_fuses (s : State) (c : Nat) (d : Bytes) : (s.ev c d).fuses = s.fuses :=
  keep_fuses (W := { recorder := true }) (State.ev_outside rfl ..) rfl

/-! `emit` -/

@[simp] theorem State.emit_pending (s : State) (e : Emission) : (s.emit e).pending = s.pending :=
  keep_pending (W := { outbox := true }) (State.emit_outside rfl ..) rfl
@[simp] theorem State.emit_now (s : State) (e : Emission) : (s.emit e).now = s.now :=
  keep_now (W := { outbox := true }) (State.emit_outside rfl ..) rfl
@[simp] theorem State.emit_bootAt (s : State) (e : Emission) : (s.emit e).bootAt = s.bootAt :=
  keep_bootAt (W := { outbox := true }) (State.emit_outside rfl ..) rfl
@[simp] theorem State.emit_fresh (s : State) (e : Emission) : (s.emit e).fresh = s.fresh :=
  keep_fresh (W := { outbox := true }) (State.emit_outside rfl ..) rfl
@[simp] theorem State.emit_mode (s : State) (e : Emission) : (s.emit e).mode = s.mode :=
  keep_mode (W := { outbox := true }) (State.emit_outside rfl ..) rfl
@[simp] theorem State.emit_inReset (s : State) (e : Emission) : (s.emit e).inReset = s.inReset :=
  keep_inReset (W := { outbox := true }) (State.emit_outside rfl ..) rfl
@[simp] theorem State.emit_clock (s : State) (e : Emission) : (s.emit e).clock = s.clock :=
  keep_clock (W := { outbox := true }) (State.emit_outside rfl ..) rfl
@[simp] theorem State.emit_params (s : State) (e : Emission) : (s.emit e).params = s.params :=
  keep_params (W := { outbox := true }) (State.emit_outside rfl ..) rfl
@[simp] theorem State.emit_staged (s : State) (e : Emission) : (s.emit e).staged = s.staged :=
  keep_staged (W := { outbox := true }) (State.emit_outside rfl ..) rfl
@[simp] theorem State.emit_recorder (s : State) (e : Emission) : (s.emit e).recorder = s.recorder :=
  keep_recorder (W := { outbox := true }) (State.emit_outside rfl ..) rfl
@[simp] theorem State.emit_crossings (s : State) (e : Emission) : (s.emit e).crossings = s.crossings :=
  keep_crossings (W := { outbox := true }) (State.emit_outside rfl ..) rfl
@[simp] theorem State.emit_carried (s : State) (e : Emission) : (s.emit e).carried = s.carried :=
  keep_carried (W := { outbox := true }) (State.emit_outside rfl ..) rfl
@[simp] theorem State.emit_resyncs (s : State) (e : Emission) : (s.emit e).resyncs = s.resyncs :=
  keep_resyncs (W := { outbox := true }) (State.emit_outside rfl ..) rfl
@[simp] theorem State.emit_line (s : State) (e : Emission) : (s.emit e).line = s.line :=
  keep_line (W := { outbox := true }) (State.emit_outside rfl ..) rfl
@[simp] theorem State.emit_treads (s : State) (e : Emission) : (s.emit e).treads = s.treads :=
  keep_treads (W := { outbox := true }) (State.emit_outside rfl ..) rfl
@[simp] theorem State.emit_hall (s : State) (e : Emission) : (s.emit e).hall = s.hall :=
  keep_hall (W := { outbox := true }) (State.emit_outside rfl ..) rfl
@[simp] theorem State.emit_tasks (s : State) (e : Emission) : (s.emit e).tasks = s.tasks :=
  keep_tasks (W := { outbox := true }) (State.emit_outside rfl ..) rfl
@[simp] theorem State.emit_plans (s : State) (e : Emission) : (s.emit e).plans = s.plans :=
  keep_plans (W := { outbox := true }) (State.emit_outside rfl ..) rfl
@[simp] theorem State.emit_loops (s : State) (e : Emission) : (s.emit e).loops = s.loops :=
  keep_loops (W := { outbox := true }) (State.emit_outside rfl ..) rfl
@[simp] theorem State.emit_dsp (s : State) (e : Emission) : (s.emit e).dsp = s.dsp :=
  keep_dsp (W := { outbox := true }) (State.emit_outside rfl ..) rfl
@[simp] theorem State.emit_field (s : State) (e : Emission) : (s.emit e).field = s.field :=
  keep_field (W := { outbox := true }) (State.emit_outside rfl ..) rfl
@[simp] theorem State.emit_net (s : State) (e : Emission) : (s.emit e).net = s.net :=
  keep_net (W := { outbox := true }) (State.emit_outside rfl ..) rfl
@[simp] theorem State.emit_cans (s : State) (e : Emission) : (s.emit e).cans = s.cans :=
  keep_cans (W := { outbox := true }) (State.emit_outside rfl ..) rfl
@[simp] theorem State.emit_pair (s : State) (e : Emission) : (s.emit e).pair = s.pair :=
  keep_pair (W := { outbox := true }) (State.emit_outside rfl ..) rfl
@[simp] theorem State.emit_nvm (s : State) (e : Emission) : (s.emit e).nvm = s.nvm :=
  keep_nvm (W := { outbox := true }) (State.emit_outside rfl ..) rfl
@[simp] theorem State.emit_sup (s : State) (e : Emission) : (s.emit e).sup = s.sup :=
  keep_sup (W := { outbox := true }) (State.emit_outside rfl ..) rfl
@[simp] theorem State.emit_fuses (s : State) (e : Emission) : (s.emit e).fuses = s.fuses :=
  keep_fuses (W := { outbox := true }) (State.emit_outside rfl ..) rfl

/-! `spend` -/

@[simp] theorem State.spend_pending (s : State) : s.spend.pending = s.pending :=
  keep_pending (W := { fresh := true }) (State.spend_outside rfl ..) rfl
@[simp] theorem State.spend_now (s : State) : s.spend.now = s.now :=
  keep_now (W := { fresh := true }) (State.spend_outside rfl ..) rfl
@[simp] theorem State.spend_bootAt (s : State) : s.spend.bootAt = s.bootAt :=
  keep_bootAt (W := { fresh := true }) (State.spend_outside rfl ..) rfl
@[simp] theorem State.spend_outbox (s : State) : s.spend.outbox = s.outbox :=
  keep_outbox (W := { fresh := true }) (State.spend_outside rfl ..) rfl
@[simp] theorem State.spend_mode (s : State) : s.spend.mode = s.mode :=
  keep_mode (W := { fresh := true }) (State.spend_outside rfl ..) rfl
@[simp] theorem State.spend_inReset (s : State) : s.spend.inReset = s.inReset :=
  keep_inReset (W := { fresh := true }) (State.spend_outside rfl ..) rfl
@[simp] theorem State.spend_clock (s : State) : s.spend.clock = s.clock :=
  keep_clock (W := { fresh := true }) (State.spend_outside rfl ..) rfl
@[simp] theorem State.spend_params (s : State) : s.spend.params = s.params :=
  keep_params (W := { fresh := true }) (State.spend_outside rfl ..) rfl
@[simp] theorem State.spend_staged (s : State) : s.spend.staged = s.staged :=
  keep_staged (W := { fresh := true }) (State.spend_outside rfl ..) rfl
@[simp] theorem State.spend_recorder (s : State) : s.spend.recorder = s.recorder :=
  keep_recorder (W := { fresh := true }) (State.spend_outside rfl ..) rfl
@[simp] theorem State.spend_crossings (s : State) : s.spend.crossings = s.crossings :=
  keep_crossings (W := { fresh := true }) (State.spend_outside rfl ..) rfl
@[simp] theorem State.spend_carried (s : State) : s.spend.carried = s.carried :=
  keep_carried (W := { fresh := true }) (State.spend_outside rfl ..) rfl
@[simp] theorem State.spend_resyncs (s : State) : s.spend.resyncs = s.resyncs :=
  keep_resyncs (W := { fresh := true }) (State.spend_outside rfl ..) rfl
@[simp] theorem State.spend_line (s : State) : s.spend.line = s.line :=
  keep_line (W := { fresh := true }) (State.spend_outside rfl ..) rfl
@[simp] theorem State.spend_treads (s : State) : s.spend.treads = s.treads :=
  keep_treads (W := { fresh := true }) (State.spend_outside rfl ..) rfl
@[simp] theorem State.spend_hall (s : State) : s.spend.hall = s.hall :=
  keep_hall (W := { fresh := true }) (State.spend_outside rfl ..) rfl
@[simp] theorem State.spend_tasks (s : State) : s.spend.tasks = s.tasks :=
  keep_tasks (W := { fresh := true }) (State.spend_outside rfl ..) rfl
@[simp] theorem State.spend_plans (s : State) : s.spend.plans = s.plans :=
  keep_plans (W := { fresh := true }) (State.spend_outside rfl ..) rfl
@[simp] theorem State.spend_loops (s : State) : s.spend.loops = s.loops :=
  keep_loops (W := { fresh := true }) (State.spend_outside rfl ..) rfl
@[simp] theorem State.spend_dsp (s : State) : s.spend.dsp = s.dsp :=
  keep_dsp (W := { fresh := true }) (State.spend_outside rfl ..) rfl
@[simp] theorem State.spend_field (s : State) : s.spend.field = s.field :=
  keep_field (W := { fresh := true }) (State.spend_outside rfl ..) rfl
@[simp] theorem State.spend_net (s : State) : s.spend.net = s.net :=
  keep_net (W := { fresh := true }) (State.spend_outside rfl ..) rfl
@[simp] theorem State.spend_cans (s : State) : s.spend.cans = s.cans :=
  keep_cans (W := { fresh := true }) (State.spend_outside rfl ..) rfl
@[simp] theorem State.spend_pair (s : State) : s.spend.pair = s.pair :=
  keep_pair (W := { fresh := true }) (State.spend_outside rfl ..) rfl
@[simp] theorem State.spend_nvm (s : State) : s.spend.nvm = s.nvm :=
  keep_nvm (W := { fresh := true }) (State.spend_outside rfl ..) rfl
@[simp] theorem State.spend_sup (s : State) : s.spend.sup = s.sup :=
  keep_sup (W := { fresh := true }) (State.spend_outside rfl ..) rfl
@[simp] theorem State.spend_fuses (s : State) : s.spend.fuses = s.fuses :=
  keep_fuses (W := { fresh := true }) (State.spend_outside rfl ..) rfl

/-! `send` -/

@[simp] theorem State.send_pending (s : State) (c : Nat) (m : CorMsg) : (s.send c m).pending = s.pending :=
  keep_pending (W := { pair := true, outbox := true }) (State.send_outside rfl rfl ..) rfl
@[simp] theorem State.send_now (s : State) (c : Nat) (m : CorMsg) : (s.send c m).now = s.now :=
  keep_now (W := { pair := true, outbox := true }) (State.send_outside rfl rfl ..) rfl
@[simp] theorem State.send_bootAt (s : State) (c : Nat) (m : CorMsg) : (s.send c m).bootAt = s.bootAt :=
  keep_bootAt (W := { pair := true, outbox := true }) (State.send_outside rfl rfl ..) rfl
@[simp] theorem State.send_fresh (s : State) (c : Nat) (m : CorMsg) : (s.send c m).fresh = s.fresh :=
  keep_fresh (W := { pair := true, outbox := true }) (State.send_outside rfl rfl ..) rfl
@[simp] theorem State.send_mode (s : State) (c : Nat) (m : CorMsg) : (s.send c m).mode = s.mode :=
  keep_mode (W := { pair := true, outbox := true }) (State.send_outside rfl rfl ..) rfl
@[simp] theorem State.send_inReset (s : State) (c : Nat) (m : CorMsg) : (s.send c m).inReset = s.inReset :=
  keep_inReset (W := { pair := true, outbox := true }) (State.send_outside rfl rfl ..) rfl
@[simp] theorem State.send_clock (s : State) (c : Nat) (m : CorMsg) : (s.send c m).clock = s.clock :=
  keep_clock (W := { pair := true, outbox := true }) (State.send_outside rfl rfl ..) rfl
@[simp] theorem State.send_params (s : State) (c : Nat) (m : CorMsg) : (s.send c m).params = s.params :=
  keep_params (W := { pair := true, outbox := true }) (State.send_outside rfl rfl ..) rfl
@[simp] theorem State.send_staged (s : State) (c : Nat) (m : CorMsg) : (s.send c m).staged = s.staged :=
  keep_staged (W := { pair := true, outbox := true }) (State.send_outside rfl rfl ..) rfl
@[simp] theorem State.send_recorder (s : State) (c : Nat) (m : CorMsg) : (s.send c m).recorder = s.recorder :=
  keep_recorder (W := { pair := true, outbox := true }) (State.send_outside rfl rfl ..) rfl
@[simp] theorem State.send_crossings (s : State) (c : Nat) (m : CorMsg) : (s.send c m).crossings = s.crossings :=
  keep_crossings (W := { pair := true, outbox := true }) (State.send_outside rfl rfl ..) rfl
@[simp] theorem State.send_carried (s : State) (c : Nat) (m : CorMsg) : (s.send c m).carried = s.carried :=
  keep_carried (W := { pair := true, outbox := true }) (State.send_outside rfl rfl ..) rfl
@[simp] theorem State.send_resyncs (s : State) (c : Nat) (m : CorMsg) : (s.send c m).resyncs = s.resyncs :=
  keep_resyncs (W := { pair := true, outbox := true }) (State.send_outside rfl rfl ..) rfl
@[simp] theorem State.send_line (s : State) (c : Nat) (m : CorMsg) : (s.send c m).line = s.line :=
  keep_line (W := { pair := true, outbox := true }) (State.send_outside rfl rfl ..) rfl
@[simp] theorem State.send_treads (s : State) (c : Nat) (m : CorMsg) : (s.send c m).treads = s.treads :=
  keep_treads (W := { pair := true, outbox := true }) (State.send_outside rfl rfl ..) rfl
@[simp] theorem State.send_hall (s : State) (c : Nat) (m : CorMsg) : (s.send c m).hall = s.hall :=
  keep_hall (W := { pair := true, outbox := true }) (State.send_outside rfl rfl ..) rfl
@[simp] theorem State.send_tasks (s : State) (c : Nat) (m : CorMsg) : (s.send c m).tasks = s.tasks :=
  keep_tasks (W := { pair := true, outbox := true }) (State.send_outside rfl rfl ..) rfl
@[simp] theorem State.send_plans (s : State) (c : Nat) (m : CorMsg) : (s.send c m).plans = s.plans :=
  keep_plans (W := { pair := true, outbox := true }) (State.send_outside rfl rfl ..) rfl
@[simp] theorem State.send_loops (s : State) (c : Nat) (m : CorMsg) : (s.send c m).loops = s.loops :=
  keep_loops (W := { pair := true, outbox := true }) (State.send_outside rfl rfl ..) rfl
@[simp] theorem State.send_dsp (s : State) (c : Nat) (m : CorMsg) : (s.send c m).dsp = s.dsp :=
  keep_dsp (W := { pair := true, outbox := true }) (State.send_outside rfl rfl ..) rfl
@[simp] theorem State.send_field (s : State) (c : Nat) (m : CorMsg) : (s.send c m).field = s.field :=
  keep_field (W := { pair := true, outbox := true }) (State.send_outside rfl rfl ..) rfl
@[simp] theorem State.send_net (s : State) (c : Nat) (m : CorMsg) : (s.send c m).net = s.net :=
  keep_net (W := { pair := true, outbox := true }) (State.send_outside rfl rfl ..) rfl
@[simp] theorem State.send_cans (s : State) (c : Nat) (m : CorMsg) : (s.send c m).cans = s.cans :=
  keep_cans (W := { pair := true, outbox := true }) (State.send_outside rfl rfl ..) rfl
@[simp] theorem State.send_nvm (s : State) (c : Nat) (m : CorMsg) : (s.send c m).nvm = s.nvm :=
  keep_nvm (W := { pair := true, outbox := true }) (State.send_outside rfl rfl ..) rfl
@[simp] theorem State.send_sup (s : State) (c : Nat) (m : CorMsg) : (s.send c m).sup = s.sup :=
  keep_sup (W := { pair := true, outbox := true }) (State.send_outside rfl rfl ..) rfl
@[simp] theorem State.send_fuses (s : State) (c : Nat) (m : CorMsg) : (s.send c m).fuses = s.fuses :=
  keep_fuses (W := { pair := true, outbox := true }) (State.send_outside rfl rfl ..) rfl

/-! `forward` -/

@[simp] theorem State.forward_pending (s : State) (i : FwdItem) : (s.forward i).pending = s.pending :=
  keep_pending (W := { pair := true, outbox := true }) (State.forward_outside rfl rfl ..) rfl
@[simp] theorem State.forward_now (s : State) (i : FwdItem) : (s.forward i).now = s.now :=
  keep_now (W := { pair := true, outbox := true }) (State.forward_outside rfl rfl ..) rfl
@[simp] theorem State.forward_bootAt (s : State) (i : FwdItem) : (s.forward i).bootAt = s.bootAt :=
  keep_bootAt (W := { pair := true, outbox := true }) (State.forward_outside rfl rfl ..) rfl
@[simp] theorem State.forward_fresh (s : State) (i : FwdItem) : (s.forward i).fresh = s.fresh :=
  keep_fresh (W := { pair := true, outbox := true }) (State.forward_outside rfl rfl ..) rfl
@[simp] theorem State.forward_mode (s : State) (i : FwdItem) : (s.forward i).mode = s.mode :=
  keep_mode (W := { pair := true, outbox := true }) (State.forward_outside rfl rfl ..) rfl
@[simp] theorem State.forward_inReset (s : State) (i : FwdItem) : (s.forward i).inReset = s.inReset :=
  keep_inReset (W := { pair := true, outbox := true }) (State.forward_outside rfl rfl ..) rfl
@[simp] theorem State.forward_clock (s : State) (i : FwdItem) : (s.forward i).clock = s.clock :=
  keep_clock (W := { pair := true, outbox := true }) (State.forward_outside rfl rfl ..) rfl
@[simp] theorem State.forward_params (s : State) (i : FwdItem) : (s.forward i).params = s.params :=
  keep_params (W := { pair := true, outbox := true }) (State.forward_outside rfl rfl ..) rfl
@[simp] theorem State.forward_staged (s : State) (i : FwdItem) : (s.forward i).staged = s.staged :=
  keep_staged (W := { pair := true, outbox := true }) (State.forward_outside rfl rfl ..) rfl
@[simp] theorem State.forward_recorder (s : State) (i : FwdItem) : (s.forward i).recorder = s.recorder :=
  keep_recorder (W := { pair := true, outbox := true }) (State.forward_outside rfl rfl ..) rfl
@[simp] theorem State.forward_crossings (s : State) (i : FwdItem) : (s.forward i).crossings = s.crossings :=
  keep_crossings (W := { pair := true, outbox := true }) (State.forward_outside rfl rfl ..) rfl
@[simp] theorem State.forward_carried (s : State) (i : FwdItem) : (s.forward i).carried = s.carried :=
  keep_carried (W := { pair := true, outbox := true }) (State.forward_outside rfl rfl ..) rfl
@[simp] theorem State.forward_resyncs (s : State) (i : FwdItem) : (s.forward i).resyncs = s.resyncs :=
  keep_resyncs (W := { pair := true, outbox := true }) (State.forward_outside rfl rfl ..) rfl
@[simp] theorem State.forward_line (s : State) (i : FwdItem) : (s.forward i).line = s.line :=
  keep_line (W := { pair := true, outbox := true }) (State.forward_outside rfl rfl ..) rfl
@[simp] theorem State.forward_treads (s : State) (i : FwdItem) : (s.forward i).treads = s.treads :=
  keep_treads (W := { pair := true, outbox := true }) (State.forward_outside rfl rfl ..) rfl
@[simp] theorem State.forward_hall (s : State) (i : FwdItem) : (s.forward i).hall = s.hall :=
  keep_hall (W := { pair := true, outbox := true }) (State.forward_outside rfl rfl ..) rfl
@[simp] theorem State.forward_tasks (s : State) (i : FwdItem) : (s.forward i).tasks = s.tasks :=
  keep_tasks (W := { pair := true, outbox := true }) (State.forward_outside rfl rfl ..) rfl
@[simp] theorem State.forward_plans (s : State) (i : FwdItem) : (s.forward i).plans = s.plans :=
  keep_plans (W := { pair := true, outbox := true }) (State.forward_outside rfl rfl ..) rfl
@[simp] theorem State.forward_loops (s : State) (i : FwdItem) : (s.forward i).loops = s.loops :=
  keep_loops (W := { pair := true, outbox := true }) (State.forward_outside rfl rfl ..) rfl
@[simp] theorem State.forward_dsp (s : State) (i : FwdItem) : (s.forward i).dsp = s.dsp :=
  keep_dsp (W := { pair := true, outbox := true }) (State.forward_outside rfl rfl ..) rfl
@[simp] theorem State.forward_field (s : State) (i : FwdItem) : (s.forward i).field = s.field :=
  keep_field (W := { pair := true, outbox := true }) (State.forward_outside rfl rfl ..) rfl
@[simp] theorem State.forward_net (s : State) (i : FwdItem) : (s.forward i).net = s.net :=
  keep_net (W := { pair := true, outbox := true }) (State.forward_outside rfl rfl ..) rfl
@[simp] theorem State.forward_cans (s : State) (i : FwdItem) : (s.forward i).cans = s.cans :=
  keep_cans (W := { pair := true, outbox := true }) (State.forward_outside rfl rfl ..) rfl
@[simp] theorem State.forward_nvm (s : State) (i : FwdItem) : (s.forward i).nvm = s.nvm :=
  keep_nvm (W := { pair := true, outbox := true }) (State.forward_outside rfl rfl ..) rfl
@[simp] theorem State.forward_sup (s : State) (i : FwdItem) : (s.forward i).sup = s.sup :=
  keep_sup (W := { pair := true, outbox := true }) (State.forward_outside rfl rfl ..) rfl
@[simp] theorem State.forward_fuses (s : State) (i : FwdItem) : (s.forward i).fuses = s.fuses :=
  keep_fuses (W := { pair := true, outbox := true }) (State.forward_outside rfl rfl ..) rfl

/-! `result` -/

@[simp] theorem State.result_pending (s : State) (c : Nat) (b : Bytes) : (s.result c b).pending = s.pending :=
  keep_pending (W := { pair := true }) (State.result_outside rfl ..) rfl
@[simp] theorem State.result_now (s : State) (c : Nat) (b : Bytes) : (s.result c b).now = s.now :=
  keep_now (W := { pair := true }) (State.result_outside rfl ..) rfl
@[simp] theorem State.result_bootAt (s : State) (c : Nat) (b : Bytes) : (s.result c b).bootAt = s.bootAt :=
  keep_bootAt (W := { pair := true }) (State.result_outside rfl ..) rfl
@[simp] theorem State.result_fresh (s : State) (c : Nat) (b : Bytes) : (s.result c b).fresh = s.fresh :=
  keep_fresh (W := { pair := true }) (State.result_outside rfl ..) rfl
@[simp] theorem State.result_outbox (s : State) (c : Nat) (b : Bytes) : (s.result c b).outbox = s.outbox :=
  keep_outbox (W := { pair := true }) (State.result_outside rfl ..) rfl
@[simp] theorem State.result_mode (s : State) (c : Nat) (b : Bytes) : (s.result c b).mode = s.mode :=
  keep_mode (W := { pair := true }) (State.result_outside rfl ..) rfl
@[simp] theorem State.result_inReset (s : State) (c : Nat) (b : Bytes) : (s.result c b).inReset = s.inReset :=
  keep_inReset (W := { pair := true }) (State.result_outside rfl ..) rfl
@[simp] theorem State.result_clock (s : State) (c : Nat) (b : Bytes) : (s.result c b).clock = s.clock :=
  keep_clock (W := { pair := true }) (State.result_outside rfl ..) rfl
@[simp] theorem State.result_params (s : State) (c : Nat) (b : Bytes) : (s.result c b).params = s.params :=
  keep_params (W := { pair := true }) (State.result_outside rfl ..) rfl
@[simp] theorem State.result_staged (s : State) (c : Nat) (b : Bytes) : (s.result c b).staged = s.staged :=
  keep_staged (W := { pair := true }) (State.result_outside rfl ..) rfl
@[simp] theorem State.result_recorder (s : State) (c : Nat) (b : Bytes) : (s.result c b).recorder = s.recorder :=
  keep_recorder (W := { pair := true }) (State.result_outside rfl ..) rfl
@[simp] theorem State.result_crossings (s : State) (c : Nat) (b : Bytes) : (s.result c b).crossings = s.crossings :=
  keep_crossings (W := { pair := true }) (State.result_outside rfl ..) rfl
@[simp] theorem State.result_carried (s : State) (c : Nat) (b : Bytes) : (s.result c b).carried = s.carried :=
  keep_carried (W := { pair := true }) (State.result_outside rfl ..) rfl
@[simp] theorem State.result_resyncs (s : State) (c : Nat) (b : Bytes) : (s.result c b).resyncs = s.resyncs :=
  keep_resyncs (W := { pair := true }) (State.result_outside rfl ..) rfl
@[simp] theorem State.result_line (s : State) (c : Nat) (b : Bytes) : (s.result c b).line = s.line :=
  keep_line (W := { pair := true }) (State.result_outside rfl ..) rfl
@[simp] theorem State.result_treads (s : State) (c : Nat) (b : Bytes) : (s.result c b).treads = s.treads :=
  keep_treads (W := { pair := true }) (State.result_outside rfl ..) rfl
@[simp] theorem State.result_hall (s : State) (c : Nat) (b : Bytes) : (s.result c b).hall = s.hall :=
  keep_hall (W := { pair := true }) (State.result_outside rfl ..) rfl
@[simp] theorem State.result_tasks (s : State) (c : Nat) (b : Bytes) : (s.result c b).tasks = s.tasks :=
  keep_tasks (W := { pair := true }) (State.result_outside rfl ..) rfl
@[simp] theorem State.result_plans (s : State) (c : Nat) (b : Bytes) : (s.result c b).plans = s.plans :=
  keep_plans (W := { pair := true }) (State.result_outside rfl ..) rfl
@[simp] theorem State.result_loops (s : State) (c : Nat) (b : Bytes) : (s.result c b).loops = s.loops :=
  keep_loops (W := { pair := true }) (State.result_outside rfl ..) rfl
@[simp] theorem State.result_dsp (s : State) (c : Nat) (b : Bytes) : (s.result c b).dsp = s.dsp :=
  keep_dsp (W := { pair := true }) (State.result_outside rfl ..) rfl
@[simp] theorem State.result_field (s : State) (c : Nat) (b : Bytes) : (s.result c b).field = s.field :=
  keep_field (W := { pair := true }) (State.result_outside rfl ..) rfl
@[simp] theorem State.result_net (s : State) (c : Nat) (b : Bytes) : (s.result c b).net = s.net :=
  keep_net (W := { pair := true }) (State.result_outside rfl ..) rfl
@[simp] theorem State.result_cans (s : State) (c : Nat) (b : Bytes) : (s.result c b).cans = s.cans :=
  keep_cans (W := { pair := true }) (State.result_outside rfl ..) rfl
@[simp] theorem State.result_nvm (s : State) (c : Nat) (b : Bytes) : (s.result c b).nvm = s.nvm :=
  keep_nvm (W := { pair := true }) (State.result_outside rfl ..) rfl
@[simp] theorem State.result_sup (s : State) (c : Nat) (b : Bytes) : (s.result c b).sup = s.sup :=
  keep_sup (W := { pair := true }) (State.result_outside rfl ..) rfl
@[simp] theorem State.result_fuses (s : State) (c : Nat) (b : Bytes) : (s.result c b).fuses = s.fuses :=
  keep_fuses (W := { pair := true }) (State.result_outside rfl ..) rfl

/-! `shadow` -/

@[simp] theorem State.shadow_pending (s : State) (i : FwdItem) : (s.shadow i).pending = s.pending :=
  keep_pending (W := { pair := true }) (State.shadow_outside rfl ..) rfl
@[simp] theorem State.shadow_now (s : State) (i : FwdItem) : (s.shadow i).now = s.now :=
  keep_now (W := { pair := true }) (State.shadow_outside rfl ..) rfl
@[simp] theorem State.shadow_bootAt (s : State) (i : FwdItem) : (s.shadow i).bootAt = s.bootAt :=
  keep_bootAt (W := { pair := true }) (State.shadow_outside rfl ..) rfl
@[simp] theorem State.shadow_fresh (s : State) (i : FwdItem) : (s.shadow i).fresh = s.fresh :=
  keep_fresh (W := { pair := true }) (State.shadow_outside rfl ..) rfl
@[simp] theorem State.shadow_outbox (s : State) (i : FwdItem) : (s.shadow i).outbox = s.outbox :=
  keep_outbox (W := { pair := true }) (State.shadow_outside rfl ..) rfl
@[simp] theorem State.shadow_mode (s : State) (i : FwdItem) : (s.shadow i).mode = s.mode :=
  keep_mode (W := { pair := true }) (State.shadow_outside rfl ..) rfl
@[simp] theorem State.shadow_inReset (s : State) (i : FwdItem) : (s.shadow i).inReset = s.inReset :=
  keep_inReset (W := { pair := true }) (State.shadow_outside rfl ..) rfl
@[simp] theorem State.shadow_clock (s : State) (i : FwdItem) : (s.shadow i).clock = s.clock :=
  keep_clock (W := { pair := true }) (State.shadow_outside rfl ..) rfl
@[simp] theorem State.shadow_params (s : State) (i : FwdItem) : (s.shadow i).params = s.params :=
  keep_params (W := { pair := true }) (State.shadow_outside rfl ..) rfl
@[simp] theorem State.shadow_staged (s : State) (i : FwdItem) : (s.shadow i).staged = s.staged :=
  keep_staged (W := { pair := true }) (State.shadow_outside rfl ..) rfl
@[simp] theorem State.shadow_recorder (s : State) (i : FwdItem) : (s.shadow i).recorder = s.recorder :=
  keep_recorder (W := { pair := true }) (State.shadow_outside rfl ..) rfl
@[simp] theorem State.shadow_crossings (s : State) (i : FwdItem) : (s.shadow i).crossings = s.crossings :=
  keep_crossings (W := { pair := true }) (State.shadow_outside rfl ..) rfl
@[simp] theorem State.shadow_carried (s : State) (i : FwdItem) : (s.shadow i).carried = s.carried :=
  keep_carried (W := { pair := true }) (State.shadow_outside rfl ..) rfl
@[simp] theorem State.shadow_resyncs (s : State) (i : FwdItem) : (s.shadow i).resyncs = s.resyncs :=
  keep_resyncs (W := { pair := true }) (State.shadow_outside rfl ..) rfl
@[simp] theorem State.shadow_line (s : State) (i : FwdItem) : (s.shadow i).line = s.line :=
  keep_line (W := { pair := true }) (State.shadow_outside rfl ..) rfl
@[simp] theorem State.shadow_treads (s : State) (i : FwdItem) : (s.shadow i).treads = s.treads :=
  keep_treads (W := { pair := true }) (State.shadow_outside rfl ..) rfl
@[simp] theorem State.shadow_hall (s : State) (i : FwdItem) : (s.shadow i).hall = s.hall :=
  keep_hall (W := { pair := true }) (State.shadow_outside rfl ..) rfl
@[simp] theorem State.shadow_tasks (s : State) (i : FwdItem) : (s.shadow i).tasks = s.tasks :=
  keep_tasks (W := { pair := true }) (State.shadow_outside rfl ..) rfl
@[simp] theorem State.shadow_plans (s : State) (i : FwdItem) : (s.shadow i).plans = s.plans :=
  keep_plans (W := { pair := true }) (State.shadow_outside rfl ..) rfl
@[simp] theorem State.shadow_loops (s : State) (i : FwdItem) : (s.shadow i).loops = s.loops :=
  keep_loops (W := { pair := true }) (State.shadow_outside rfl ..) rfl
@[simp] theorem State.shadow_dsp (s : State) (i : FwdItem) : (s.shadow i).dsp = s.dsp :=
  keep_dsp (W := { pair := true }) (State.shadow_outside rfl ..) rfl
@[simp] theorem State.shadow_field (s : State) (i : FwdItem) : (s.shadow i).field = s.field :=
  keep_field (W := { pair := true }) (State.shadow_outside rfl ..) rfl
@[simp] theorem State.shadow_net (s : State) (i : FwdItem) : (s.shadow i).net = s.net :=
  keep_net (W := { pair := true }) (State.shadow_outside rfl ..) rfl
@[simp] theorem State.shadow_cans (s : State) (i : FwdItem) : (s.shadow i).cans = s.cans :=
  keep_cans (W := { pair := true }) (State.shadow_outside rfl ..) rfl
@[simp] theorem State.shadow_nvm (s : State) (i : FwdItem) : (s.shadow i).nvm = s.nvm :=
  keep_nvm (W := { pair := true }) (State.shadow_outside rfl ..) rfl
@[simp] theorem State.shadow_sup (s : State) (i : FwdItem) : (s.shadow i).sup = s.sup :=
  keep_sup (W := { pair := true }) (State.shadow_outside rfl ..) rfl
@[simp] theorem State.shadow_fuses (s : State) (i : FwdItem) : (s.shadow i).fuses = s.fuses :=
  keep_fuses (W := { pair := true }) (State.shadow_outside rfl ..) rfl

/-! `resync` -/

@[simp] theorem State.resync_pending (s : State) (n k : Nat) : (s.resync n k).pending = s.pending :=
  keep_pending (W := { carried := true, crossings := true, recorder := true, resyncs := true }) (State.resync_outside rfl rfl rfl rfl ..) rfl
@[simp] theorem State.resync_now (s : State) (n k : Nat) : (s.resync n k).now = s.now :=
  keep_now (W := { carried := true, crossings := true, recorder := true, resyncs := true }) (State.resync_outside rfl rfl rfl rfl ..) rfl
@[simp] theorem State.resync_bootAt (s : State) (n k : Nat) : (s.resync n k).bootAt = s.bootAt :=
  keep_bootAt (W := { carried := true, crossings := true, recorder := true, resyncs := true }) (State.resync_outside rfl rfl rfl rfl ..) rfl
@[simp] theorem State.resync_fresh (s : State) (n k : Nat) : (s.resync n k).fresh = s.fresh :=
  keep_fresh (W := { carried := true, crossings := true, recorder := true, resyncs := true }) (State.resync_outside rfl rfl rfl rfl ..) rfl
@[simp] theorem State.resync_outbox (s : State) (n k : Nat) : (s.resync n k).outbox = s.outbox :=
  keep_outbox (W := { carried := true, crossings := true, recorder := true, resyncs := true }) (State.resync_outside rfl rfl rfl rfl ..) rfl
@[simp] theorem State.resync_mode (s : State) (n k : Nat) : (s.resync n k).mode = s.mode :=
  keep_mode (W := { carried := true, crossings := true, recorder := true, resyncs := true }) (State.resync_outside rfl rfl rfl rfl ..) rfl
@[simp] theorem State.resync_inReset (s : State) (n k : Nat) : (s.resync n k).inReset = s.inReset :=
  keep_inReset (W := { carried := true, crossings := true, recorder := true, resyncs := true }) (State.resync_outside rfl rfl rfl rfl ..) rfl
@[simp] theorem State.resync_clock (s : State) (n k : Nat) : (s.resync n k).clock = s.clock :=
  keep_clock (W := { carried := true, crossings := true, recorder := true, resyncs := true }) (State.resync_outside rfl rfl rfl rfl ..) rfl
@[simp] theorem State.resync_params (s : State) (n k : Nat) : (s.resync n k).params = s.params :=
  keep_params (W := { carried := true, crossings := true, recorder := true, resyncs := true }) (State.resync_outside rfl rfl rfl rfl ..) rfl
@[simp] theorem State.resync_staged (s : State) (n k : Nat) : (s.resync n k).staged = s.staged :=
  keep_staged (W := { carried := true, crossings := true, recorder := true, resyncs := true }) (State.resync_outside rfl rfl rfl rfl ..) rfl
@[simp] theorem State.resync_line (s : State) (n k : Nat) : (s.resync n k).line = s.line :=
  keep_line (W := { carried := true, crossings := true, recorder := true, resyncs := true }) (State.resync_outside rfl rfl rfl rfl ..) rfl
@[simp] theorem State.resync_treads (s : State) (n k : Nat) : (s.resync n k).treads = s.treads :=
  keep_treads (W := { carried := true, crossings := true, recorder := true, resyncs := true }) (State.resync_outside rfl rfl rfl rfl ..) rfl
@[simp] theorem State.resync_hall (s : State) (n k : Nat) : (s.resync n k).hall = s.hall :=
  keep_hall (W := { carried := true, crossings := true, recorder := true, resyncs := true }) (State.resync_outside rfl rfl rfl rfl ..) rfl
@[simp] theorem State.resync_tasks (s : State) (n k : Nat) : (s.resync n k).tasks = s.tasks :=
  keep_tasks (W := { carried := true, crossings := true, recorder := true, resyncs := true }) (State.resync_outside rfl rfl rfl rfl ..) rfl
@[simp] theorem State.resync_plans (s : State) (n k : Nat) : (s.resync n k).plans = s.plans :=
  keep_plans (W := { carried := true, crossings := true, recorder := true, resyncs := true }) (State.resync_outside rfl rfl rfl rfl ..) rfl
@[simp] theorem State.resync_loops (s : State) (n k : Nat) : (s.resync n k).loops = s.loops :=
  keep_loops (W := { carried := true, crossings := true, recorder := true, resyncs := true }) (State.resync_outside rfl rfl rfl rfl ..) rfl
@[simp] theorem State.resync_dsp (s : State) (n k : Nat) : (s.resync n k).dsp = s.dsp :=
  keep_dsp (W := { carried := true, crossings := true, recorder := true, resyncs := true }) (State.resync_outside rfl rfl rfl rfl ..) rfl
@[simp] theorem State.resync_field (s : State) (n k : Nat) : (s.resync n k).field = s.field :=
  keep_field (W := { carried := true, crossings := true, recorder := true, resyncs := true }) (State.resync_outside rfl rfl rfl rfl ..) rfl
@[simp] theorem State.resync_net (s : State) (n k : Nat) : (s.resync n k).net = s.net :=
  keep_net (W := { carried := true, crossings := true, recorder := true, resyncs := true }) (State.resync_outside rfl rfl rfl rfl ..) rfl
@[simp] theorem State.resync_cans (s : State) (n k : Nat) : (s.resync n k).cans = s.cans :=
  keep_cans (W := { carried := true, crossings := true, recorder := true, resyncs := true }) (State.resync_outside rfl rfl rfl rfl ..) rfl
@[simp] theorem State.resync_pair (s : State) (n k : Nat) : (s.resync n k).pair = s.pair :=
  keep_pair (W := { carried := true, crossings := true, recorder := true, resyncs := true }) (State.resync_outside rfl rfl rfl rfl ..) rfl
@[simp] theorem State.resync_nvm (s : State) (n k : Nat) : (s.resync n k).nvm = s.nvm :=
  keep_nvm (W := { carried := true, crossings := true, recorder := true, resyncs := true }) (State.resync_outside rfl rfl rfl rfl ..) rfl
@[simp] theorem State.resync_sup (s : State) (n k : Nat) : (s.resync n k).sup = s.sup :=
  keep_sup (W := { carried := true, crossings := true, recorder := true, resyncs := true }) (State.resync_outside rfl rfl rfl rfl ..) rfl
@[simp] theorem State.resync_fuses (s : State) (n k : Nat) : (s.resync n k).fuses = s.fuses :=
  keep_fuses (W := { carried := true, crossings := true, recorder := true, resyncs := true }) (State.resync_outside rfl rfl rfl rfl ..) rfl

/-! `setVal` -/

@[simp] theorem State.setVal_pending (s : State) (idx sub : Nat) (v : Val) : (s.setVal idx sub v).pending = s.pending :=
  keep_pending (W := { params := true }) (State.setVal_outside rfl ..) rfl
@[simp] theorem State.setVal_now (s : State) (idx sub : Nat) (v : Val) : (s.setVal idx sub v).now = s.now :=
  keep_now (W := { params := true }) (State.setVal_outside rfl ..) rfl
@[simp] theorem State.setVal_bootAt (s : State) (idx sub : Nat) (v : Val) : (s.setVal idx sub v).bootAt = s.bootAt :=
  keep_bootAt (W := { params := true }) (State.setVal_outside rfl ..) rfl
@[simp] theorem State.setVal_fresh (s : State) (idx sub : Nat) (v : Val) : (s.setVal idx sub v).fresh = s.fresh :=
  keep_fresh (W := { params := true }) (State.setVal_outside rfl ..) rfl
@[simp] theorem State.setVal_outbox (s : State) (idx sub : Nat) (v : Val) : (s.setVal idx sub v).outbox = s.outbox :=
  keep_outbox (W := { params := true }) (State.setVal_outside rfl ..) rfl
@[simp] theorem State.setVal_mode (s : State) (idx sub : Nat) (v : Val) : (s.setVal idx sub v).mode = s.mode :=
  keep_mode (W := { params := true }) (State.setVal_outside rfl ..) rfl
@[simp] theorem State.setVal_inReset (s : State) (idx sub : Nat) (v : Val) : (s.setVal idx sub v).inReset = s.inReset :=
  keep_inReset (W := { params := true }) (State.setVal_outside rfl ..) rfl
@[simp] theorem State.setVal_clock (s : State) (idx sub : Nat) (v : Val) : (s.setVal idx sub v).clock = s.clock :=
  keep_clock (W := { params := true }) (State.setVal_outside rfl ..) rfl
@[simp] theorem State.setVal_staged (s : State) (idx sub : Nat) (v : Val) : (s.setVal idx sub v).staged = s.staged :=
  keep_staged (W := { params := true }) (State.setVal_outside rfl ..) rfl
@[simp] theorem State.setVal_recorder (s : State) (idx sub : Nat) (v : Val) : (s.setVal idx sub v).recorder = s.recorder :=
  keep_recorder (W := { params := true }) (State.setVal_outside rfl ..) rfl
@[simp] theorem State.setVal_crossings (s : State) (idx sub : Nat) (v : Val) : (s.setVal idx sub v).crossings = s.crossings :=
  keep_crossings (W := { params := true }) (State.setVal_outside rfl ..) rfl
@[simp] theorem State.setVal_carried (s : State) (idx sub : Nat) (v : Val) : (s.setVal idx sub v).carried = s.carried :=
  keep_carried (W := { params := true }) (State.setVal_outside rfl ..) rfl
@[simp] theorem State.setVal_resyncs (s : State) (idx sub : Nat) (v : Val) : (s.setVal idx sub v).resyncs = s.resyncs :=
  keep_resyncs (W := { params := true }) (State.setVal_outside rfl ..) rfl
@[simp] theorem State.setVal_line (s : State) (idx sub : Nat) (v : Val) : (s.setVal idx sub v).line = s.line :=
  keep_line (W := { params := true }) (State.setVal_outside rfl ..) rfl
@[simp] theorem State.setVal_treads (s : State) (idx sub : Nat) (v : Val) : (s.setVal idx sub v).treads = s.treads :=
  keep_treads (W := { params := true }) (State.setVal_outside rfl ..) rfl
@[simp] theorem State.setVal_hall (s : State) (idx sub : Nat) (v : Val) : (s.setVal idx sub v).hall = s.hall :=
  keep_hall (W := { params := true }) (State.setVal_outside rfl ..) rfl
@[simp] theorem State.setVal_tasks (s : State) (idx sub : Nat) (v : Val) : (s.setVal idx sub v).tasks = s.tasks :=
  keep_tasks (W := { params := true }) (State.setVal_outside rfl ..) rfl
@[simp] theorem State.setVal_plans (s : State) (idx sub : Nat) (v : Val) : (s.setVal idx sub v).plans = s.plans :=
  keep_plans (W := { params := true }) (State.setVal_outside rfl ..) rfl
@[simp] theorem State.setVal_loops (s : State) (idx sub : Nat) (v : Val) : (s.setVal idx sub v).loops = s.loops :=
  keep_loops (W := { params := true }) (State.setVal_outside rfl ..) rfl
@[simp] theorem State.setVal_dsp (s : State) (idx sub : Nat) (v : Val) : (s.setVal idx sub v).dsp = s.dsp :=
  keep_dsp (W := { params := true }) (State.setVal_outside rfl ..) rfl
@[simp] theorem State.setVal_field (s : State) (idx sub : Nat) (v : Val) : (s.setVal idx sub v).field = s.field :=
  keep_field (W := { params := true }) (State.setVal_outside rfl ..) rfl
@[simp] theorem State.setVal_net (s : State) (idx sub : Nat) (v : Val) : (s.setVal idx sub v).net = s.net :=
  keep_net (W := { params := true }) (State.setVal_outside rfl ..) rfl
@[simp] theorem State.setVal_cans (s : State) (idx sub : Nat) (v : Val) : (s.setVal idx sub v).cans = s.cans :=
  keep_cans (W := { params := true }) (State.setVal_outside rfl ..) rfl
@[simp] theorem State.setVal_pair (s : State) (idx sub : Nat) (v : Val) : (s.setVal idx sub v).pair = s.pair :=
  keep_pair (W := { params := true }) (State.setVal_outside rfl ..) rfl
@[simp] theorem State.setVal_nvm (s : State) (idx sub : Nat) (v : Val) : (s.setVal idx sub v).nvm = s.nvm :=
  keep_nvm (W := { params := true }) (State.setVal_outside rfl ..) rfl
@[simp] theorem State.setVal_sup (s : State) (idx sub : Nat) (v : Val) : (s.setVal idx sub v).sup = s.sup :=
  keep_sup (W := { params := true }) (State.setVal_outside rfl ..) rfl
@[simp] theorem State.setVal_fuses (s : State) (idx sub : Nat) (v : Val) : (s.setVal idx sub v).fuses = s.fuses :=
  keep_fuses (W := { params := true }) (State.setVal_outside rfl ..) rfl

@[simp] theorem State.upTo_now (s : State) (t : Nat) : (s.upTo t).now = max s.now t := rfl

end Sys2Proof.Machine
end

