-- ==== Sys2Proof/Laws/Requests.lean ====
section
/-! SUPPORT. An authenticated write that is granted: what it does, said once (10 R504, R507, R508). -/
namespace Sys2Proof.Machine

theorem State.slotOf_received (s : State) (o : Origin) (p : Nat) : (s.received p).slotOf o = s.slotOf o := rfl

/-- A request that is accepted reaches its session and is acted on. -/
theorem State.request_accepted {s : State} {o : Origin} {k : Nat} (h : s.accepts o = some k) (type_ : Nat) (f : Nat → State → State) :
    s.request o type_ f =
      f k ((s.received o.link).updSess k fun x => { x with highSeq := o.seq, validAt := s.now, open_ := x.open_ ++ [o.seq] }) := by
  unfold State.accepts at h
  split at h
  · rename_i hs
    split at h
    · rename_i k' hk
      split at h
      · rename_i hq
        cases h
        simp only [Bool.and_eq_true, decide_eq_true_eq] at hq
        unfold State.request
        simp only [hs, Bool.not_true, Bool.false_eq_true, if_false, State.slotOf_received, hk]
        unfold State.admitReq
        have h1 : ((s.received o.link).sess k).highSeq < o.seq := hq.1
        have h2 : ¬ 4 ≤ ((s.received o.link).sess k).open_.length := Nat.not_le.mpr hq.2
        simp only [h1, h2, if_true, if_false]
        rfl
      · cases h
    · cases h
  · cases h

/-- The checks of a write do not look at what a self-test would find. -/
theorem State.writeStatus_bad (s : State) (a : Asker) (bad : Nat) (r : Row) (x : WItem) :
    s.writeStatus { a with bad := bad } r x = s.writeStatus a r x := rfl

/-- A write of one entry that passes every check takes effect. -/
theorem State.writeOne_ok {s : State} {a : Asker} {x : WItem} {r : Row} (hl : lookup x.idx x.sub = (.ok, r))
    (hst : s.writeStatus a r x = .ok) : s.writeOne a x = (s.writeEffect a r x, .ok) := by
  unfold State.writeOne
  rw [hl]
  dsimp only
  split <;> simp_all

/-- A write that is granted takes the request, acts on the entry and answers OK. -/
theorem State.writeCmd_granted {s : State} {o : Origin} {k idx sub : Nat} {data : Bytes} (h : s.granted o k idx sub data = true) (bad : Nat) :
    s.writeCmd o idx sub data bad =
      ((s.asked o k).writeEffect (s.asker o k idx sub bad) (lookup idx sub).2 (writeOf idx sub data)).reply k 3 o.seq .ok
        (resultBytes ⟨idx, sub, .ok, 1, 0xFFFF⟩) := by
  unfold State.granted at h
  simp only [Bool.and_eq_true, decide_eq_true_eq] at h
  obtain ⟨⟨⟨hk, hl⟩, hg⟩, hw⟩ := h
  unfold State.writeCmd
  rw [State.request_accepted hk]
  have hrole : ((((s.received o.link).updSess k fun x =>
      { x with highSeq := o.seq, validAt := s.now, open_ := x.open_ ++ [o.seq] }).updSess k fun x => { x with armed := none }).sess k).role
      = (s.sess k).role := by
    simp only [State.sess, State.updSess, State.updBam, State.bam, State.received, State.updPort, upd, List.getD_eq_getElem?_getD,
      List.getElem?_modify, if_true]
    cases s.net.bamcon.sessions[k]? <;> rfl
  have hask : (⟨k, (((((s.received o.link).updSess k fun x =>
      { x with highSeq := o.seq, validAt := s.now, open_ := x.open_ ++ [o.seq] }).takeArming k idx sub).1).sess k).role,
      (((s.received o.link).updSess k fun x =>
      { x with highSeq := o.seq, validAt := s.now, open_ := x.open_ ++ [o.seq] }).takeArming k idx sub).2, none, bad⟩ : Asker) =
      s.asker o k idx sub bad := by
    unfold State.asker; congr 1
  unfold State.writeItem
  dsimp only
  have h1 : (((s.received o.link).updSess k fun x =>
      { x with highSeq := o.seq, validAt := s.now, open_ := x.open_ ++ [o.seq] }).takeArming k idx sub).1 = s.asked o k := rfl
  rw [hask, h1]
  have hst : (s.asked o k).writeStatus (s.asker o k idx sub bad) (lookup idx sub).2 ⟨idx, sub, tyCode (lookup idx sub).2.ty, data⟩ = .ok := hw
  unfold State.writeAs
  dsimp only
  rw [if_neg (by simp only [Bool.not_eq_true'] at hg; simp [hg])]
  have hll : lookup idx sub = (.ok, (lookup idx sub).2) := by rw [← hl]
  rw [State.writeOne_ok (x := ⟨idx, sub, tyCode (lookup idx sub).2.ty, data⟩) hll hst]
  simp [writeOf, ofBool]

end Sys2Proof.Machine
end

