-- ==== Sys2Proof/Laws/Commands.lean ====
section
/-! SUPPORT. What every command leaves as it was: the frames of `perform`, `act` and `actUnit`, of a dictionary write, and of a Bamcon message by its TYPE. -/
namespace Sys2Proof.Machine
variable {W : Parts}

theorem upTo_outside (h : W.now = true) (s : State) (t) : (s.upTo t).outside W = s.outside W := by simp [State.upTo, State.outside, h]
theorem perform_outside (hn : W.now = true) {t f} {s s' : State} (h : perform t f s = .next s')
    (hf : ∀ s s', f s = .next s' → s'.outside W = s.outside W) : s'.outside W = s.outside W := by
  obtain ⟨u, hu, rfl⟩ := perform_next h
  have := hf _ _ hu
  rw [upTo_outside hn] at this
  rw [← this]
  have hq : u.outside W = u.outside W := rfl
  have hp : (u.outside W).pending = (s.outside W).pending := by rw [this]
  simp only [State.outside] at hp ⊢
  simp only [hn, if_true]
  congr 1
  exact hp.symm
theorem act_outside (hn : W.now = true) {t f} {s s' : State} (h : act t f s = .next s')
    (hf : ∀ s, (f s).outside W = s.outside W) : s'.outside W = s.outside W :=
  perform_outside hn h fun s s' e => by injection e with e; rw [← e]; exact hf s
theorem actUnit_outside (hn : W.now = true) {t what n c f} {s s' : State} (h : actUnit t what n c f s = .next s')
    (hf : ∀ s, (f s).outside W = s.outside W) : s'.outside W = s.outside W :=
  perform_outside hn h fun s s' e => by
    split at e
    · injection e with e; rw [← e]; exact hf s
    · cases e

/-! Dictionary writes -/

/-- A write of the entry is staged, and acts at an apply point (01 R25). -/
def stages (idx sub : Nat) : Bool := idx = 0x1120 || (lookup idx sub).2.acc = .rwa

theorem writeEffect_foot (hn : W.net = true) (ho : W.outbox = true) (hv : W.nvm = true) {idx sub : Nat} {r : Row} {d : Bytes} {dt : Nat}
    (hr : lookup idx sub = (.ok, r))
    (hs : stages idx sub = true → W.staged = true) (hl : lockstepEntry idx sub = true → W.pair = true)
    (a : Asker) (he : stages idx sub = false → ∀ s, (State.entryEffect s a idx sub (bytesVal (lookup idx sub).2.ty d)).outside W = s.outside W) (s : State) :
    (s.writeEffect a r ⟨idx, sub, dt, d⟩).outside W = s.outside W := by
  unfold State.writeEffect
  dsimp only
  have h2 : (lookup idx sub).2 = r := by rw [hr]
  rw [h2] at he
  split
  · exact State.stage_outside (hs (by simp [stages, *])) _ _
  · split
    · exact State.stage_outside (hs (by simp [stages, *])) _ _
    · have he := he (by simp [stages, *])
      rw [outside_when _ _ _ (fun t => State.persist_outside hv _ _ _ _)]
      unfold State.sendCommand
      rw [outside_when_at]
      · rw [he, outside_when _ _ _ (fun t => State.bumpVersion_outside hn _ _ _)]
      · intro hc
        simp only [Bool.and_eq_true] at hc
        exact State.send_outside ho (hl hc.2) _ _ _

theorem writeOne_foot (hn : W.net = true) (ho : W.outbox = true) (hv : W.nvm = true) {idx sub : Nat} {d : Bytes} {dt : Nat}
    (hs : stages idx sub = true → W.staged = true) (hl : lockstepEntry idx sub = true → W.pair = true)
    (a : Asker) (he : stages idx sub = false → ∀ s, (State.entryEffect s a idx sub (bytesVal (lookup idx sub).2.ty d)).outside W = s.outside W) (s : State) :
    (s.writeOne a ⟨idx, sub, dt, d⟩).1.outside W = s.outside W := by
  unfold State.writeOne
  dsimp only
  split
  · rename_i r hr
    split
    · exact writeEffect_foot hn ho hv hr hs hl a he s
    · exact outside_when _ _ _ (fun t => by simp [hv])
    · rfl
  · rfl


theorem writeCmd_foot (hn : W.net = true) (hc : W.cans = true) (ho : W.outbox = true) (hv : W.nvm = true) {idx sub : Nat} {d : Bytes} 
    (hg : (isGroup idx && sub ≤ 0x0D) = false)
    (hs : stages idx sub = true → W.staged = true) (hl : lockstepEntry idx sub = true → W.pair = true)
    (he : stages idx sub = false → ∀ s a, (State.entryEffect s a idx sub (bytesVal (lookup idx sub).2.ty d)).outside W = s.outside W) (o bad) (s : State) :
    (s.writeCmd o idx sub d bad).outside W = s.outside W := by
  unfold State.writeCmd
  refine State.request_outside hc hn ho _ _ _ _ fun k t => ?_
  dsimp only
  rw [State.reply_outside hc hn ho]
  unfold State.writeItem
  dsimp only
  unfold State.writeAs
  dsimp only
  rw [if_neg (by simp [hg])]
  rw [writeOne_foot hn ho hv hs hl _ (fun h s => he h s _), State.takeArming_outside hn]

theorem writeMembers_foot (hn : W.net = true) (ho : W.outbox = true) (hv : W.nvm = true) {idx sub : Nat} {d : Bytes} {dt : Nat}
    (hs : W.staged = true) (hl : W.pair = true) (l : List Nat)
    (a : Asker) (he : ∀ n ∈ l, stages (0x4000 + n) sub = false → ∀ s, (State.entryEffect s a (0x4000 + n) sub (bytesVal (lookup (0x4000 + n) sub).2.ty d)).outside W = s.outside W) (s : State) :
    (s.writeMembers a ⟨idx, sub, dt, d⟩ l).1.outside W = s.outside W := by
  unfold State.writeMembers
  generalize (⟨idx, sub, .ok, 0, 0xFFFF⟩ : WriteResult) = r
  induction l generalizing s r with
  | nil => rfl
  | cons n l ih =>
    rw [List.foldl_cons, ih (fun m hm => he m (List.mem_cons_of_mem _ hm))]
    dsimp only
    exact writeOne_foot hn ho hv (fun _ => hs) (fun _ => hl) a (he n List.mem_cons_self) s

theorem findRow_mem {l : List Row} {sub : Nat} {r : Row} (h : findRow l sub = some r) : r ∈ l := by
  induction l with
  | nil => cases h
  | cons x l ih =>
    unfold findRow at h
    split at h
    · cases h; exact List.mem_cons_self
    · exact List.mem_cons_of_mem _ (ih h)

theorem lookup_rwa {idx sub : Nat} (h : (lookup idx sub).2.acc = .rwa) : ∃ f, famOf idx = some f ∧ ∃ r ∈ f.rows, r.acc = .rwa := by
  unfold lookup at h
  cases hf : famOf idx with
  | none => rw [hf] at h; cases h
  | some f =>
    rw [hf] at h; dsimp only at h
    cases hr : findRow f.rows sub with
    | none => rw [hr] at h; cases h
    | some r =>
      rw [hr] at h; dsimp only at h
      split at h
      · cases h
      · exact ⟨f, rfl, r, findRow_mem hr, h⟩

/-- What a granted write of an entry that acts at once does: its effect, outside the parts that every request touches (10 R507). -/
theorem writeCmd_effect (hn : W.net = true) (hc : W.cans = true) (ho : W.outbox = true) (hv : W.nvm = true) {s : State} {o : Origin}
    {k idx sub : Nat} {data : Bytes} (h : s.granted o k idx sub data = true) (bad : Nat) (hs : stages idx sub = false)
    (hl : lockstepEntry idx sub = true → W.pair = true) :
    (s.writeCmd o idx sub data bad).outside W =
      (State.entryEffect ((s.asked o k).when ((tySize (lookup idx sub).2.ty).isNone) fun s => s.bumpVersion idx sub)
        (s.asker o k idx sub bad) idx sub (bytesVal (lookup idx sub).2.ty data)).outside W := by
  rw [State.writeCmd_granted h bad, State.reply_outside hc hn ho]
  have h1 : idx ≠ 0x1120 ∧ (lookup idx sub).2.acc ≠ .rwa := by simpa [stages] using hs
  unfold State.writeEffect writeOf
  dsimp only
  rw [if_neg h1.1, if_neg h1.2]
  rw [outside_when _ _ _ (fun t => State.persist_outside hv _ _ _ _)]
  unfold State.sendCommand
  rw [outside_when_at]
  intro hcnd
  simp only [Bool.and_eq_true] at hcnd
  exact State.send_outside ho (hl hcnd.2) _ _ _

/-- A request that is taken touches its links and sessions alone. -/
theorem State.asked_outside (hn : W.net = true) (s : State) (o : Origin) (k : Nat) : (s.asked o k).outside W = s.outside W := by
  unfold State.asked; simp only [State.updSess_outside, State.received_outside, hn]

@[simp] theorem State.asked_pending (s : State) (o : Origin) (k : Nat) : (s.asked o k).pending = s.pending :=
  keep_pending (W := { net := true }) (State.asked_outside rfl _ _ _) rfl
@[simp] theorem State.asked_now (s : State) (o : Origin) (k : Nat) : (s.asked o k).now = s.now :=
  keep_now (W := { net := true }) (State.asked_outside rfl _ _ _) rfl
@[simp] theorem State.asked_bootAt (s : State) (o : Origin) (k : Nat) : (s.asked o k).bootAt = s.bootAt :=
  keep_bootAt (W := { net := true }) (State.asked_outside rfl _ _ _) rfl
@[simp] theorem State.asked_fresh (s : State) (o : Origin) (k : Nat) : (s.asked o k).fresh = s.fresh :=
  keep_fresh (W := { net := true }) (State.asked_outside rfl _ _ _) rfl
@[simp] theorem State.asked_outbox (s : State) (o : Origin) (k : Nat) : (s.asked o k).outbox = s.outbox :=
  keep_outbox (W := { net := true }) (State.asked_outside rfl _ _ _) rfl
@[simp] theorem State.asked_mode (s : State) (o : Origin) (k : Nat) : (s.asked o k).mode = s.mode :=
  keep_mode (W := { net := true }) (State.asked_outside rfl _ _ _) rfl
@[simp] theorem State.asked_inReset (s : State) (o : Origin) (k : Nat) : (s.asked o k).inReset = s.inReset :=
  keep_inReset (W := { net := true }) (State.asked_outside rfl _ _ _) rfl
@[simp] theorem State.asked_clock (s : State) (o : Origin) (k : Nat) : (s.asked o k).clock = s.clock :=
  keep_clock (W := { net := true }) (State.asked_outside rfl _ _ _) rfl
@[simp] theorem State.asked_params (s : State) (o : Origin) (k : Nat) : (s.asked o k).params = s.params :=
  keep_params (W := { net := true }) (State.asked_outside rfl _ _ _) rfl
@[simp] theorem State.asked_staged (s : State) (o : Origin) (k : Nat) : (s.asked o k).staged = s.staged :=
  keep_staged (W := { net := true }) (State.asked_outside rfl _ _ _) rfl
@[simp] theorem State.asked_recorder (s : State) (o : Origin) (k : Nat) : (s.asked o k).recorder = s.recorder :=
  keep_recorder (W := { net := true }) (State.asked_outside rfl _ _ _) rfl
@[simp] theorem State.asked_crossings (s : State) (o : Origin) (k : Nat) : (s.asked o k).crossings = s.crossings :=
  keep_crossings (W := { net := true }) (State.asked_outside rfl _ _ _) rfl
@[simp] theorem State.asked_resyncs (s : State) (o : Origin) (k : Nat) : (s.asked o k).resyncs = s.resyncs :=
  keep_resyncs (W := { net := true }) (State.asked_outside rfl _ _ _) rfl
@[simp] theorem State.asked_line (s : State) (o : Origin) (k : Nat) : (s.asked o k).line = s.line :=
  keep_line (W := { net := true }) (State.asked_outside rfl _ _ _) rfl
@[simp] theorem State.asked_treads (s : State) (o : Origin) (k : Nat) : (s.asked o k).treads = s.treads :=
  keep_treads (W := { net := true }) (State.asked_outside rfl _ _ _) rfl
@[simp] theorem State.asked_hall (s : State) (o : Origin) (k : Nat) : (s.asked o k).hall = s.hall :=
  keep_hall (W := { net := true }) (State.asked_outside rfl _ _ _) rfl
@[simp] theorem State.asked_tasks (s : State) (o : Origin) (k : Nat) : (s.asked o k).tasks = s.tasks :=
  keep_tasks (W := { net := true }) (State.asked_outside rfl _ _ _) rfl
@[simp] theorem State.asked_plans (s : State) (o : Origin) (k : Nat) : (s.asked o k).plans = s.plans :=
  keep_plans (W := { net := true }) (State.asked_outside rfl _ _ _) rfl
@[simp] theorem State.asked_loops (s : State) (o : Origin) (k : Nat) : (s.asked o k).loops = s.loops :=
  keep_loops (W := { net := true }) (State.asked_outside rfl _ _ _) rfl
@[simp] theorem State.asked_dsp (s : State) (o : Origin) (k : Nat) : (s.asked o k).dsp = s.dsp :=
  keep_dsp (W := { net := true }) (State.asked_outside rfl _ _ _) rfl
@[simp] theorem State.asked_field (s : State) (o : Origin) (k : Nat) : (s.asked o k).field = s.field :=
  keep_field (W := { net := true }) (State.asked_outside rfl _ _ _) rfl
@[simp] theorem State.asked_cans (s : State) (o : Origin) (k : Nat) : (s.asked o k).cans = s.cans :=
  keep_cans (W := { net := true }) (State.asked_outside rfl _ _ _) rfl
@[simp] theorem State.asked_pair (s : State) (o : Origin) (k : Nat) : (s.asked o k).pair = s.pair :=
  keep_pair (W := { net := true }) (State.asked_outside rfl _ _ _) rfl
@[simp] theorem State.asked_nvm (s : State) (o : Origin) (k : Nat) : (s.asked o k).nvm = s.nvm :=
  keep_nvm (W := { net := true }) (State.asked_outside rfl _ _ _) rfl
@[simp] theorem State.asked_sup (s : State) (o : Origin) (k : Nat) : (s.asked o k).sup = s.sup :=
  keep_sup (W := { net := true }) (State.asked_outside rfl _ _ _) rfl
@[simp] theorem State.asked_fuses (s : State) (o : Origin) (k : Nat) : (s.asked o k).fuses = s.fuses :=
  keep_fuses (W := { net := true }) (State.asked_outside rfl _ _ _) rfl

/-- The same where the entry has a fixed size: no VERSION is counted. -/
theorem writeCmd_sized (hn : W.net = true) (hc : W.cans = true) (ho : W.outbox = true) (hv : W.nvm = true) {s : State} {o : Origin}
    {k idx sub : Nat} {data : Bytes} (h : s.granted o k idx sub data = true) (bad : Nat) (hs : stages idx sub = false)
    (hl : lockstepEntry idx sub = true → W.pair = true) {n : Nat} (ht : tySize (lookup idx sub).2.ty = some n) :
    (s.writeCmd o idx sub data bad).outside W =
      ((s.asked o k).entryEffect (s.asker o k idx sub bad) idx sub (bytesVal (lookup idx sub).2.ty data)).outside W := by
  rw [writeCmd_effect hn hc ho hv h bad hs hl, ht]; rfl

/-! Commands over `perform`, and Bamcon messages -/

theorem all_outside {W : Parts} (h : W = allParts) {t f} {s s' : State} (e : perform t f s = .next s') : s'.outside W = s.outside W := by
  obtain ⟨u, _, rfl⟩ := perform_next e
  subst h; rfl

theorem pending_kept {t f} {s s' : State} (e : perform t f s = .next s') : s'.pending = s.pending := by
  obtain ⟨u, _, rfl⟩ := perform_next e
  rfl

section
variable (h_now : W.now = true) (h_outbox : W.outbox = true) (h_recorder : W.recorder = true) (h_net : W.net = true) (h_cans : W.cans = true)
include h_now h_outbox h_recorder h_net h_cans

theorem hello_outside (t p ip port phase msg) (s s' : State) (h : helloCmd t p ip port phase msg s = .next s') : s'.outside W = s.outside W := by
  unfold helloCmd at h
  refine actUnit_outside h_now h fun s => ?_
  split
  · rfl
  · rename_i x hx
    refine outside_when_at _ _ _ fun hc => ?_
    simp only [Bool.and_eq_true, decide_eq_true_eq] at hc
    obtain ⟨⟨_, ht⟩, hp⟩ := hc
    unfold State.bamMessage
    simp only [hx]
    repeat' split
    all_goals first
    | (exfalso; rename_i h1; exact h1 ht)
    | simp only [State.hello12_outside, State.replyBare_outside, State.replayed_outside, State.closeSession_outside, State.received_outside, h_net, h_cans, h_outbox, h_recorder]

theorem bam_outside (t p ip port ty bad b msg)
    (hb : ∀ (s : State) k x, ty x.type_ = true → x.type_ ≠ 1 → (s.bamRequest k x bad b).outside W = s.outside W) (h1 : ty 1 = false)
    (s s' : State) (h : bamCmd t p ip port ty bad b msg s = .next s') : s'.outside W = s.outside W := by
  unfold bamCmd at h
  refine actUnit_outside h_now h fun s => ?_
  split
  · split
    · simp only [State.discarded_outside, State.received_outside, h_net]
    · rfl
  · rename_i x hx
    refine outside_when_at _ _ _ fun hc => ?_
    simp only [Bool.and_eq_true, decide_eq_true_eq] at hc
    obtain ⟨_, ht⟩ := hc
    have hne : x.type_ ≠ 1 := fun e => by rw [e, h1] at ht; cases ht
    unfold State.bamMessage
    simp only [hx]
    repeat' split
    all_goals first
    | (exfalso; rename_i h1 _ _ _; exact hne h1)
    | (exfalso; rename_i h1; exact hne h1)
    | (exfalso; rename_i h1; simp [hne] at h1; done)
    | simp only [State.replyBare_outside, State.replayed_outside, State.received_outside, h_net, h_cans, h_outbox]
    | rw [State.admitReq_outside h_cans h_net h_outbox _ _ _ _ _ (fun t => hb t _ x ht hne), State.received_outside h_net]
end

end Sys2Proof.Machine
end

