-- ==== Sys2Proof/Laws/Line.lean ====
section
/-! SUPPORT. Encoder inputs and position sources: which operation changes which of them (02). -/
namespace Sys2Proof.Machine

theorem upd_same {α : Type} (l : List α) (n : Nat) (f : α → α) : (upd l n f)[n]? = l[n]?.map f := by
  unfold upd; rw [List.getElem?_modify]; simp
theorem upd_other {α : Type} (l : List α) {n j : Nat} (f : α → α) (h : j ≠ n) : (upd l n f)[j]? = l[j]? := by
  unfold upd; rw [List.getElem?_modify]; simp [Ne.symm h]
@[simp] theorem upd_length {α : Type} (l : List α) (n : Nat) (f : α → α) : (upd l n f).length = l.length := by simp [upd]

theorem foldl_keeps {α β : Type} (g : State → β) (l : List α) (f : State → α → State) (h : ∀ t a, g (f t a) = g t) (s : State) :
    g (l.foldl f s) = g s := by
  induction l generalizing s with
  | nil => rfl
  | cons a l ih => simp [ih, h]

theorem enc_of {s : State} {n : Nat} {e : Enc} (h : s.line.encs[n]? = some e) : s.enc n = e := by
  simp [State.enc, List.getD_eq_getElem?_getD, h]
theorem src_of {s : State} {i : Nat} {r : Src} (h : s.line.srcs[i]? = some r) : s.src i = r := by
  simp [State.src, List.getD_eq_getElem?_getD, h]

/-! The encoder records -/

@[simp] theorem State.updSrc_encs (s : State) (i : Nat) (f) : (s.updSrc i f).line.encs = s.line.encs := rfl
@[simp] theorem State.updEnc_encs (s : State) (n : Nat) (f) : (s.updEnc n f).line.encs = upd s.line.encs n f := rfl
@[simp] theorem State.loseSource_encs (s : State) (i : Nat) : (s.loseSource i).line.encs = s.line.encs := by simp [State.loseSource]
@[simp] theorem State.recoverSource_encs (s : State) (i n : Nat) : (s.recoverSource i n).line.encs = s.line.encs := by simp [State.recoverSource]
@[simp] theorem State.refreshSource_encs (s : State) (i : Nat) : (s.refreshSource i).line.encs = s.line.encs := by
  unfold State.refreshSource; dsimp only; repeat' split
  all_goals simp
@[simp] theorem State.refreshSources_encs (s : State) : s.refreshSources.line.encs = s.line.encs := by simp [State.refreshSources]
@[simp] theorem State.faultEnc_encs (s : State) (n : Nat) :
    (s.faultEnc n).line.encs = upd s.line.encs n fun e => { e with faulted := true, faultAt := s.now, zRef := none } := by simp [State.faultEnc]
@[simp] theorem State.checkSlip_encs (s : State) (i : Nat) : (s.checkSlip i).line.encs = s.line.encs := by
  unfold State.checkSlip; dsimp only; repeat' split
  all_goals simp
@[simp] theorem State.moveLpc_encs (s : State) (i : Nat) (d : Int) : (s.moveLpc i d).line.encs = s.line.encs := by
  unfold State.moveLpc; dsimp only; repeat' split
  all_goals simp
@[simp] theorem State.fuse_encs (s : State) (i n : Nat) (c : Int) (p : Nat) : (s.fuse i n c p).line.encs = s.line.encs := by
  simp [State.fuse]
theorem State.countStep_encs (s : State) (n : Nat) (c : Int) (pin : Nat) : (s.countStep n c pin).line.encs =
    upd s.line.encs n fun e => addRate s.rateSlotNow c { e with
      raw := signed 64 (pattern 64 (e.raw + c))
      rem := (((s.enc n).rem + c * (s.encCfg n 5 : Int)) % (s.encCfg n 6 : Int)).toNat } := by
  unfold State.countStep; dsimp only
  rw [foldl_keeps (fun t => t.line.encs) _ _ (fun t a => by split <;> simp)]
  simp
theorem State.presetLpc_encs (s : State) (i : Nat) (v : Dword) (h : s.takeCounts posClock (s.srcCfg i 2) = s) :
    (s.presetLpc i v).line.encs = s.line.encs := by
  unfold State.presetLpc; dsimp only
  rw [keep_line (State.shiftFlights_outside (W := { recorder := true, treads := true, tasks := true }) rfl rfl rfl ..) rfl]
  simp [h]
@[simp] theorem addRate_raw (k c e) : (addRate k c e).raw = e.raw := by unfold addRate; split <;> rfl
@[simp] theorem addRate_a (k c e) : (addRate k c e).a = e.a := by unfold addRate; split <;> rfl
@[simp] theorem addRate_b (k c e) : (addRate k c e).b = e.b := by unfold addRate; split <;> rfl
@[simp] theorem addRate_quadErr (k c e) : (addRate k c e).quadErr = e.quadErr := by unfold addRate; split <;> rfl
@[simp] theorem addRate_rem (k c e) : (addRate k c e).rem = e.rem := by unfold addRate; split <;> rfl
@[simp] theorem addRate_ssiPrev (k c e) : (addRate k c e).ssiPrev = e.ssiPrev := by unfold addRate; split <;> rfl
@[simp] theorem addRate_ssiErr (k c e) : (addRate k c e).ssiErr = e.ssiErr := by unfold addRate; split <;> rfl
@[simp] theorem addRate_faulted (k c e) : (addRate k c e).faulted = e.faulted := by unfold addRate; split <;> rfl

/-! The source records -/

@[simp] theorem State.updEnc_srcs (s : State) (n : Nat) (f) : (s.updEnc n f).line.srcs = s.line.srcs := rfl
@[simp] theorem State.updSrc_srcs (s : State) (i : Nat) (f) : (s.updSrc i f).line.srcs = upd s.line.srcs i f := rfl

/-- Refreshing the sources changes no source but the one named. -/
theorem State.refreshSource_other (s : State) {i j : Nat} (h : j ≠ i) : (s.refreshSource i).line.srcs[j]? = s.line.srcs[j]? := by
  unfold State.refreshSource State.loseSource State.recoverSource; dsimp only; repeat' split
  all_goals simp [upd_other _ _ h]

end Sys2Proof.Machine
end

