-- ==== Sys2Proof/Laws/Store.lean ====
section
/-! SUPPORT. The canonical form of sparse stores: every operation over memory keeps it, and a write is read back and touches no other key. -/
namespace Sys2Proof.Machine
universe u v
variable {α : Type u} [DecidableEq α] {d : α}

/-- Canonical: keys rise strictly, and no entry holds what an unlisted key reads. -/
theorem swf_iff (m : List (Nat × α)) : swf d m = true ↔ m.Pairwise (fun a b => a.1 < b.1) ∧ ∀ e ∈ m, e.2 ≠ d := by
  induction m with
  | nil => simp [swf]
  | cons e m ih =>
    obtain ⟨j, x⟩ := e
    cases m with
    | nil => simp [swf]
    | cons f m =>
      obtain ⟨k, y⟩ := f
      rw [swf, Bool.and_eq_true, Bool.and_eq_true, ih]
      simp only [decide_eq_true_eq, List.pairwise_cons, List.mem_cons, forall_eq_or_imp]
      constructor
      · rintro ⟨⟨hx, hjk⟩, ⟨h1, h2⟩, h3, h4⟩
        exact ⟨⟨⟨hjk, fun e he => Nat.lt_trans hjk (h1 e he)⟩, h1, h2⟩, hx, h3, h4⟩
      · rintro ⟨⟨⟨hjk, -⟩, h1, h2⟩, hx, h3, h4⟩
        exact ⟨⟨hx, hjk⟩, ⟨h1, h2⟩, h3, h4⟩

theorem swf_nil : swf d ([] : List (Nat × α)) = true := rfl

omit [DecidableEq α] in
theorem sget_of_notMem (m : List (Nat × α)) (k : Nat) (h : ∀ e ∈ m, e.1 ≠ k) : sget d m k = d := by
  induction m with
  | nil => rfl
  | cons e m ih =>
    obtain ⟨j, x⟩ := e
    have hj : j ≠ k := h (j, x) (by simp)
    rw [sget, if_neg hj]
    exact ih fun e he => h e (by simp [he])

omit [DecidableEq α] in
theorem mem_sdel (m : List (Nat × α)) (k : Nat) (e : Nat × α) (h : e ∈ sdel m k) : e ∈ m := by
  induction m with
  | nil => simp [sdel] at h
  | cons f m ih =>
    obtain ⟨j, x⟩ := f
    rw [sdel] at h
    split at h
    · exact List.mem_cons_of_mem _ h
    · split at h
      · rcases List.mem_cons.1 h with h | h
        · simp [h]
        · exact List.mem_cons_of_mem _ (ih h)
      · exact h

omit [DecidableEq α] in
theorem mem_sins (m : List (Nat × α)) (k : Nat) (v : α) (e : Nat × α) (h : e ∈ sins m k v) : e = (k, v) ∨ e ∈ m := by
  induction m with
  | nil => simpa [sins] using h
  | cons f m ih =>
    obtain ⟨j, x⟩ := f
    rw [sins] at h
    split at h
    · rcases List.mem_cons.1 h with h | h
      · simp [h]
      · rcases ih h with h | h
        · exact .inl h
        · exact .inr (List.mem_cons_of_mem _ h)
    · split at h
      · rcases List.mem_cons.1 h with h | h
        · exact .inl h
        · exact .inr (List.mem_cons_of_mem _ h)
      · rcases List.mem_cons.1 h with h | h
        · exact .inl h
        · exact .inr h

theorem swf_sdel (m : List (Nat × α)) (k : Nat) (h : swf d m = true) : swf d (sdel m k) = true := by
  rw [swf_iff] at h ⊢
  refine ⟨?_, fun e he => h.2 e (mem_sdel m k e he)⟩
  obtain ⟨h, -⟩ := h
  induction m with
  | nil => exact h
  | cons f m ih =>
    obtain ⟨j, x⟩ := f
    obtain ⟨h1, h2⟩ := List.pairwise_cons.1 h
    rw [sdel]
    split
    · exact h2
    · split
      · exact List.pairwise_cons.2 ⟨fun e he => h1 e (mem_sdel m k e he), ih h2⟩
      · exact h

theorem swf_sins (m : List (Nat × α)) (k : Nat) (v : α) (hv : v ≠ d) (h : swf d m = true) : swf d (sins m k v) = true := by
  rw [swf_iff] at h ⊢
  refine ⟨?_, fun e he => (mem_sins m k v e he).elim (fun g => g ▸ hv) (h.2 e)⟩
  obtain ⟨h, -⟩ := h
  induction m with
  | nil => simp [sins]
  | cons f m ih =>
    obtain ⟨j, x⟩ := f
    obtain ⟨h1, h2⟩ := List.pairwise_cons.1 h
    rw [sins]
    split
    · rename_i hj
      exact List.pairwise_cons.2 ⟨fun e he => (mem_sins m k v e he).elim (fun g => g ▸ hj) (h1 e), ih h2⟩
    · split
      · rename_i hj
        subst hj
        exact List.pairwise_cons.2 ⟨h1, h2⟩
      · rename_i hj hk
        have hlt : k < j := by omega
        exact List.pairwise_cons.2 ⟨fun e he => (List.mem_cons.1 he).elim (fun g => g ▸ hlt) (fun g => Nat.lt_trans hlt (h1 e g)), h⟩

/-- A write keeps the canonical form. -/
theorem swf_sput (m : List (Nat × α)) (k : Nat) (v : α) (h : swf d m = true) : swf d (sput d m k v) = true := by
  unfold sput
  split
  · exact swf_sdel m k h
  · exact swf_sins m k v ‹_› h

theorem swf_sputs (l : List α) (m : List (Nat × α)) (k : Nat) (h : swf d m = true) : swf d (sputs d m k l) = true := by
  induction l generalizing m k with
  | nil => exact h
  | cons v l ih => exact ih _ _ (swf_sput m k v h)

theorem swf_foldl {β : Type v} (f : List (Nat × α) → β → List (Nat × α)) (hf : ∀ m b, swf d m = true → swf d (f m b) = true) (l : List β)
    (m : List (Nat × α)) (h : swf d m = true) : swf d (l.foldl f m) = true := by
  induction l generalizing m with
  | nil => exact h
  | cons b l ih => exact ih _ (hf m b h)

theorem swf_soverlay (m above : List (Nat × α)) (f : α → Nat → α → α) (h : swf d m = true) : swf d (soverlay d m above f) = true :=
  swf_foldl _ (fun m _ h => swf_sput m _ _ h) above m h

theorem swf_snorm (m : List (Nat × α)) : swf d (snorm d m) = true := by
  induction m with
  | nil => rfl
  | cons e m ih => exact swf_sput _ _ _ ih

/-- A block copy keeps the canonical form. -/
theorem swf_sblit (into src : List (Nat × α)) (dst s n : Nat) (h : swf d into = true) (g : swf d src = true) : swf d (sblit into src dst s n) = true := by
  rw [swf_iff] at h g ⊢
  unfold sblit
  constructor
  · rw [List.pairwise_append, List.pairwise_append]
    refine ⟨⟨h.1.filter _, ?_, ?_⟩, h.1.filter _, ?_⟩
    · rw [List.pairwise_map]
      refine List.Pairwise.imp_of_mem ?_ (g.1.filter _)
      intro a b ha hb hab
      have := (List.mem_filter.1 ha).2
      have := (List.mem_filter.1 hb).2
      simp only [Bool.and_eq_true, decide_eq_true_eq] at *
      omega
    · intro a ha b hb
      obtain ⟨e, he, rfl⟩ := List.mem_map.1 hb
      have := (List.mem_filter.1 ha).2
      have := (List.mem_filter.1 he).2
      simp only [Bool.and_eq_true, decide_eq_true_eq] at *
      omega
    · intro a ha b hb
      have := (List.mem_filter.1 hb).2
      simp only [decide_eq_true_eq] at this
      rcases List.mem_append.1 ha with ha | ha
      · have := (List.mem_filter.1 ha).2
        simp only [decide_eq_true_eq] at this
        omega
      · obtain ⟨e, he, rfl⟩ := List.mem_map.1 ha
        have := (List.mem_filter.1 he).2
        simp only [Bool.and_eq_true, decide_eq_true_eq] at this
        omega
  · intro e he
    rcases List.mem_append.1 he with he | he
    · rcases List.mem_append.1 he with he | he
      · exact h.2 e (List.mem_filter.1 he).1
      · obtain ⟨f, hf, rfl⟩ := List.mem_map.1 he
        exact g.2 f (List.mem_filter.1 hf).1
    · exact h.2 e (List.mem_filter.1 he).1

/-! Reading -/

theorem sget_sdel (m : List (Nat × α)) (k j : Nat) (h : swf d m = true) : sget d (sdel m k) j = if j = k then d else sget d m j := by
  rw [swf_iff] at h
  obtain ⟨h, -⟩ := h
  induction m with
  | nil => simp [sdel, sget]
  | cons f m ih =>
    obtain ⟨i, x⟩ := f
    obtain ⟨h1, h2⟩ := List.pairwise_cons.1 h
    rw [sdel]
    split
    · rename_i hi
      subst hi
      by_cases hj : j = i
      · subst hj
        rw [if_pos rfl]
        exact sget_of_notMem m j fun e he => Nat.ne_of_gt (h1 e he)
      · rw [if_neg hj, sget, if_neg (Ne.symm hj)]
    · split
      · rw [sget]
        split
        · rename_i hik _ hij
          rw [if_neg (by omega), sget, if_pos hij]
        · rename_i hij
          rw [ih h2, sget, if_neg hij]
      · split
        · rename_i hik hlt hj
          exact sget_of_notMem _ _ fun e he => (List.mem_cons.1 he).elim (fun g => by rw [g, hj]; exact hik)
            (fun g => by have := h1 e g; omega)
        · rfl

omit [DecidableEq α] in
theorem sget_sins (m : List (Nat × α)) (k j : Nat) (v : α) : sget d (sins m k v) j = if j = k then v else sget d m j := by
  induction m with
  | nil => simp [sins, sget, eq_comm]
  | cons f m ih =>
    obtain ⟨i, x⟩ := f
    rw [sins]
    split
    · rw [sget]
      split
      · rename_i h1 h2
        rw [if_neg (by omega), sget, if_pos h2]
      · rename_i h1 h2
        rw [ih]
        by_cases hj : j = k
        · rw [if_pos hj, if_pos hj]
        · rw [if_neg hj, if_neg hj, sget, if_neg h2]
    · split
      · rename_i hik
        subst hik
        by_cases hj : j = i
        · simp [sget, hj]
        · rw [if_neg hj, sget, if_neg (Ne.symm hj), sget, if_neg (Ne.symm hj)]
      · by_cases hj : j = k
        · simp [sget, hj]
        · rw [if_neg hj, sget, if_neg (Ne.symm hj)]

/-- A write is read back, and touches no other key. -/
theorem sget_sput (m : List (Nat × α)) (k j : Nat) (v : α) (h : swf d m = true) : sget d (sput d m k v) j = if j = k then v else sget d m j := by
  unfold sput
  split
  · rename_i hv
    rw [sget_sdel m k j h, hv]
  · exact sget_sins m k j v

theorem sget_sput_self (m : List (Nat × α)) (k : Nat) (v : α) (h : swf d m = true) : sget d (sput d m k v) k = v := by
  rw [sget_sput m k k v h, if_pos rfl]

theorem sget_sput_other (m : List (Nat × α)) {k j : Nat} (v : α) (h : swf d m = true) (hj : j ≠ k) : sget d (sput d m k v) j = sget d m j := by
  rw [sget_sput m k j v h, if_neg hj]

/-- The canonical store reads as the list did. -/
theorem sget_snorm (m : List (Nat × α)) (k : Nat) : sget d (snorm d m) k = sget d m k := by
  induction m with
  | nil => rfl
  | cons e m ih =>
    show sget d (sput d (snorm d m) e.1 e.2) k = _
    rw [sget_sput _ _ _ _ (swf_snorm m), ih]
    obtain ⟨j, x⟩ := e
    rw [sget]
    by_cases h : k = j
    · rw [if_pos h, if_pos h.symm]
    · rw [if_neg h, if_neg (Ne.symm h)]

/-- Canonical stores that read alike are equal. -/
theorem swf_ext (m n : List (Nat × α)) (hm : swf d m = true) (hn : swf d n = true) (h : ∀ k, sget d m k = sget d n k) : m = n := by
  rw [swf_iff] at hm hn
  obtain ⟨hm, hm'⟩ := hm
  obtain ⟨hn, hn'⟩ := hn
  induction m generalizing n with
  | nil =>
    cases n with
    | nil => rfl
    | cons f n =>
      obtain ⟨k, y⟩ := f
      have := h k
      simp only [sget, if_true] at this
      exact absurd this.symm (hn' (k, y) (by simp))
  | cons e m ih =>
    obtain ⟨j, x⟩ := e
    obtain ⟨h1, h2⟩ := List.pairwise_cons.1 hm
    cases n with
    | nil =>
      have := h j
      simp only [sget, if_true] at this
      exact absurd this (hm' (j, x) (by simp))
    | cons f n =>
      obtain ⟨k, y⟩ := f
      obtain ⟨g1, g2⟩ := List.pairwise_cons.1 hn
      have hjk : j = k := by
        rcases Nat.lt_trichotomy j k with hlt | heq | hlt
        · have := h j
          rw [sget, if_pos rfl, sget, if_neg (by omega), sget_of_notMem n j fun e he => by have := g1 e he; simp only at this; omega] at this
          exact absurd this (hm' (j, x) (by simp))
        · exact heq
        · have := h k
          rw [sget, if_neg (by omega), sget_of_notMem m k fun e he => by have := h1 e he; simp only at this; omega, sget, if_pos rfl] at this
          exact absurd this.symm (hn' (k, y) (by simp))
      subst hjk
      have hx := h j
      rw [sget, if_pos rfl, sget, if_pos rfl] at hx
      subst hx
      congr 1
      refine ih n ?_ h2 (fun e he => hm' e (List.mem_cons_of_mem _ he)) g2 fun e he => hn' e (List.mem_cons_of_mem _ he)
      intro i
      by_cases hi : j = i
      · subst hi
        rw [sget_of_notMem m j fun e he => Nat.ne_of_gt (h1 e he), sget_of_notMem n j fun e he => Nat.ne_of_gt (g1 e he)]
      · have := h i
        rwa [sget, if_neg hi, sget, if_neg hi] at this

/-! The Hall and the task images -/

theorem hallWf_iff (h : Hall) : hallWf h = true ↔ swf false h.bits = true ∧ swf 0 h.words = true ∧ swf false h.maskBits = true ∧ swf false h.valueBits = true
    ∧ swf 0 h.maskWords = true ∧ swf 0 h.valueWords = true ∧ swf false h.wasBits = true ∧ swf 0 h.wasWords = true := by
  simp [hallWf, and_assoc]

/-- After reset the memory is canonical: nothing is listed. -/
theorem memWf_reset : State.reset.memWf = true := by decide

theorem hallWf_beforeWrite (s : State) (h : hallWf s.hall = true) : hallWf s.beforeWrite.hall = true := by
  unfold State.beforeWrite
  split
  · exact h
  · rw [hallWf_iff] at *
    exact ⟨h.1, h.2.1, h.2.2.1, h.2.2.2.1, h.2.2.2.2.1, h.2.2.2.2.2.1, h.1, h.2.1⟩

theorem hallWf_putBit (s : State) (a : Nat) (v : Bool) (h : hallWf s.hall = true) : hallWf (s.putBit a v).hall = true := by
  have g := (hallWf_iff _).1 (hallWf_beforeWrite s h)
  exact (hallWf_iff _).2 ⟨swf_sput _ _ _ g.1, g.2⟩

theorem hallWf_putWord (s : State) (a : Nat) (v : Word) (h : hallWf s.hall = true) : hallWf (s.putWord a v).hall = true := by
  have g := (hallWf_iff _).1 (hallWf_beforeWrite s h)
  exact (hallWf_iff _).2 ⟨g.1, swf_sput _ _ _ g.2.1, g.2.2⟩

theorem hallWf_foldl {β : Type v} (f : State → β → State) (hf : ∀ s b, hallWf s.hall = true → hallWf (f s b).hall = true) (l : List β) (s : State)
    (h : hallWf s.hall = true) : hallWf (l.foldl f s).hall = true := by
  induction l generalizing s with
  | nil => exact h
  | cons b l ih => exact ih _ (hf s b h)

theorem hallWf_putRange (s : State) (r : Range) (b : Bytes) (h : hallWf s.hall = true) : hallWf (s.putRange r b).hall = true := by
  unfold State.putRange
  split
  · exact hallWf_foldl _ (fun s _ => hallWf_putBit s _ _) _ s h
  · exact hallWf_foldl _ (fun s _ => hallWf_putWord s _ _) _ s h

theorem hallWf_emptyForces (s : State) (h : hallWf s.hall = true) : hallWf s.emptyForces.hall = true := by
  rw [hallWf_iff] at *
  exact ⟨h.1, h.2.1, swf_nil, swf_nil, swf_nil, swf_nil, h.2.2.2.2.2.2⟩

theorem hallWf_forceChange (s : State) (c : ForceChange) (h : hallWf s.hall = true) : hallWf (s.forceChange c).hall = true := by
  cases c with
  | clear => exact hallWf_emptyForces s h
  | mask sp off b =>
    rw [hallWf_iff] at h
    unfold State.forceChange
    simp only
    split <;> rw [hallWf_iff]
    · exact ⟨h.1, h.2.1, swf_sputs _ _ _ h.2.2.1, h.2.2.2⟩
    · exact ⟨h.1, h.2.1, h.2.2.1, h.2.2.2.1, swf_sputs _ _ _ h.2.2.2.2.1, h.2.2.2.2.2⟩
  | value sp off b =>
    rw [hallWf_iff] at h
    unfold State.forceChange
    simp only
    split <;> rw [hallWf_iff]
    · exact ⟨h.1, h.2.1, h.2.2.1, swf_sputs _ _ _ h.2.2.2.1, h.2.2.2.2⟩
    · exact ⟨h.1, h.2.1, h.2.2.1, h.2.2.2.1, h.2.2.2.2.1, swf_sputs _ _ _ h.2.2.2.2.2.1, h.2.2.2.2.2.2⟩

theorem swf_copiedBits (s : State) (h : hallWf s.hall = true) : swf false s.copiedBits = true := by
  have g := (hallWf_iff _).1 h
  unfold State.copiedBits
  split
  · exact swf_foldl _ (fun m _ hm => swf_sblit _ _ _ _ _ hm g.1) _ _ g.2.2.2.2.2.2.1
  · exact g.1
theorem swf_copiedWords (s : State) (h : hallWf s.hall = true) : swf 0 s.copiedWords = true := by
  have g := (hallWf_iff _).1 h
  unfold State.copiedWords
  split
  · exact swf_foldl _ (fun m _ hm => swf_sblit _ _ _ _ _ hm g.2.1) _ _ g.2.2.2.2.2.2.2
  · exact g.2.1
theorem swf_viewBits (s : State) (h : hallWf s.hall = true) : swf false s.viewBits = true := swf_soverlay _ _ _ (swf_copiedBits s h)
theorem swf_viewWords (s : State) (h : hallWf s.hall = true) : swf 0 s.viewWords = true := swf_soverlay _ _ _ (swf_copiedWords s h)

/-- A copy-in keeps a task's image canonical. -/
theorem imageWf_copySections (s : State) (hs : Nat → Word) (l : List Section) (x : TaskSt) (h : hallWf s.hall = true) (hx : imageWf x = true) :
    imageWf (s.copySections hs l x) = true := by
  unfold State.copySections
  induction l generalizing x with
  | nil => exact hx
  | cons e l ih =>
    refine ih _ ?_
    rw [imageWf, Bool.and_eq_true] at hx ⊢
    have hb := swf_sblit x.bits s.viewBits e.img (spaceBase e.space + e.off) e.len hx.1 (swf_viewBits s h)
    have hw := swf_sblit x.words s.viewWords e.img (spaceBase e.space + e.off) e.len hx.2 (swf_viewWords s h)
    obtain ⟨sp, off, len, img⟩ := e
    cases sp
    · exact ⟨hb, hx.2⟩
    · exact ⟨hb, hx.2⟩
    · exact ⟨hb, hx.2⟩
    · exact ⟨hx.1, hw⟩
    · exact ⟨hx.1, hw⟩
    · exact ⟨hx.1, hw⟩
    · exact ⟨hx.1, swf_sputs _ _ _ hx.2⟩

theorem hallWf_foldHall {β : Type v} (f : Hall → β → Hall) (hf : ∀ g b, hallWf g = true → hallWf (f g b) = true) (l : List β) (g : Hall) (h : hallWf g = true) :
    hallWf (l.foldl f g) = true := by
  induction l generalizing g with
  | nil => exact h
  | cons b l ih => exact ih _ (hf g b h)

/-- A copy-back keeps the Hall canonical. -/
theorem hallWf_copyBack (s : State) (l : List Section) (x : TaskSt) (h : hallWf s.hall = true) (hx : imageWf x = true) : hallWf (s.copyBack l x).hall = true := by
  rw [imageWf, Bool.and_eq_true] at hx
  have g := (hallWf_iff _).1 (hallWf_foldHall (fun (h : Hall) (e : Section) =>
      if spaceIsBit e.space then { h with bits := sblit h.bits x.bits (spaceBase e.space + e.off) e.img e.len }
      else { h with words := sblit h.words x.words (spaceBase e.space + e.off) e.img e.len }) (fun g e hg => by
        rw [hallWf_iff] at hg
        show hallWf (if spaceIsBit e.space = true then _ else _) = true
        by_cases hb : spaceIsBit e.space = true
        · rw [if_pos hb, hallWf_iff]
          exact ⟨swf_sblit _ _ _ _ _ hg.1 hx.1, hg.2⟩
        · rw [if_neg hb, hallWf_iff]
          exact ⟨hg.1, swf_sblit _ _ _ _ _ hg.2.1 hx.2, hg.2.2⟩) l s.beforeWrite.hall (hallWf_beforeWrite s h))
  unfold State.copyBack
  rw [hallWf_iff]
  refine ⟨?_, ?_, g.2.2⟩
  · dsimp only
    exact swf_soverlay _ _ _ g.1
  · dsimp only
    exact swf_soverlay _ _ _ g.2.1

theorem hallWf_canonHall (h : Hall) : hallWf (canonHall h) = true := by
  rw [hallWf_iff]
  exact ⟨swf_snorm _, swf_snorm _, swf_snorm _, swf_snorm _, swf_snorm _, swf_snorm _, swf_snorm _, swf_snorm _⟩

theorem imageWf_canonTask (x : TaskSt) : imageWf (canonTask x) = true := by
  rw [imageWf, Bool.and_eq_true]
  exact ⟨swf_snorm _, swf_snorm _⟩

/-- Plan initial values are canonical. -/
theorem swf_initBits (p : Plan) : swf false (initBits p) = true := swf_foldl _ (fun m _ h => swf_sput m _ _ h) _ _ swf_nil
theorem swf_initWords (p : Plan) : swf 0 (initWords p) = true := swf_foldl _ (fun m _ h => swf_sput m _ _ h) _ _ swf_nil
theorem imageWf_freshTask (p : Plan) (k : Nat) : imageWf (freshTask p k) = true := by
  rw [imageWf, Bool.and_eq_true]
  exact ⟨swf_foldl _ (fun m _ h => swf_sput m _ _ h) _ _ swf_nil, swf_foldl _ (fun m _ h => swf_sput m _ _ h) _ _ swf_nil⟩

end Sys2Proof.Machine
end

