-- ==== Sys2Proof/Tests/Samples.lean ====
section
/-! SUPPORT. Small states and commands that the tests share. -/
set_option Elab.async false
namespace Sys2Proof.Tests.Samples
open Sys2Proof.Machine

/-- The instant of the command of a test: 100 ns after the sample state. -/
def t0 : Nat := 10000000100
/-- A module in Run, 10 s after its start, with its first record written. -/
def live : State := { State.reset with inReset := false, mode := .run, now := 10000000000, recorder := { State.reset.recorder with next := 1 } }
/-- Parameters set to numbers. -/
def cf (s : State) (l : List (Nat × Nat × Nat)) : State := l.foldl (fun s e => s.setVal e.1 e.2.1 (.num e.2.2)) s
/-- A parameter set to bytes. -/
def cfb (s : State) (i sub : Nat) (b : Bytes) : State := s.setVal i sub (.bytes b)
/-- Encoder `n` changed. -/
def encs (s : State) (n : Nat) (f : Enc → Enc) : State := s.updEnc n f
/-- Encoder `n`. -/
def enc (s : State) (n : Nat) : Enc := s.line.encs.getD n default
/-- Source `n`. -/
def src (s : State) (n : Nat) : Src := s.line.srcs.getD n default
/-- Encoder input 1 decodes a quadrature signal for Source 1. -/
def quad : State := cf live [(0x2000,1,1),(0x2010,1,1)]
/-- An open Maintainer session. -/
def sess : Session :=
  { (default : Session) with state := 2, number := 7, role := 4, minor := 3, link := 0, peerIp := 0xC0A80002, peerPort := 99, key := List.replicate 32 1#8 }
/-- The Maintainer session open in slot 0 over port 0, with a live link. -/
def onl (s : State) : State :=
  let s := { s with net := { s.net with ports := upd s.net.ports 0 fun p => { p with link := 2, ip := 0xC0A80001, arp := [] } } }
  { s with net := { s.net with bamcon := { s.net.bamcon with sessions := upd s.net.bamcon.sessions 0 fun _ => sess, keyFactory := false } } }
/-- A request of that session. -/
def o1 : Origin := ⟨0, 0xC0A80002, 99, 7, 5⟩
/-- An entry armed by that session. -/
def arm (s : State) (idx sub : Nat) : State := s.updSess 0 fun y => { y with armed := some (idx * 256 + sub, s.now, 4) }
/-- A Plan with one free-running task on G0. -/
def plan0 : Plan := { (default : Plan) with
  schema := 5
  code := [[0],[],[],[]]
  tasks := [{ (default : TaskDecl) with kind := 1, gallery := 0, period := 1000000, wcet := 100, finish := 500000, bitSize := 64, wordSize := 64 }] }
/-- The Plan in force. -/
def withPlan (s : State) (p : Plan) : State := { s with plans := { s.plans with active := some p } }
/-- Task `k` changed. -/
def tk (s : State) (k : Nat) (f : TaskSt → TaskSt) : State := { s with tasks := { s.tasks with tasks := upd s.tasks.tasks k f } }
/-- Gallery `g` changed. -/
def gal (s : State) (g : Nat) (f : Gallery → Gallery) : State := { s with tasks := { s.tasks with galleries := upd s.tasks.galleries g f } }
/-- Port 0 with a live link. -/
def net (s : State) : State := { s with net := { s.net with ports := upd s.net.ports 0 fun p => { p with link := 2, ip := 0xC0A80001, arp := [] } } }
/-- PTP time valid. -/
def ptpV (s : State) : State := { s with clock := { s.clock with ptpValid := true } }
/-- A request of session 7 with its TAG. -/
def req (ty seq : Nat) (pl : Bytes) : Bytes :=
  let b := bamHeader 0x13 ty 0 0 7 seq pl.length ++ pl
  b ++ bamTag (List.replicate 32 1#8) b
/-- A message without a TAG. -/
def bare (ty session : Nat) (pl : Bytes) : Bytes := bamHeader 0x13 ty 0 0 session 5 pl.length ++ pl
/-- The parsed message. -/
def pm (b : Bytes) : BamMsg := (parseMsg b).getD ⟨0,0,0,0,0,[],[],[]⟩
end Sys2Proof.Tests.Samples
end

