-- ==== Sys2Proof/Tests/Can.lean ====
section
/-! SUPPORT. Witnesses for the statements on CAN: for each clause of a statement, a state and operands that meet its hypotheses together. -/
set_option Elab.async false
namespace Sys2Proof.Tests.Can
open Sys2Proof.Machine Sys2Proof.Tests.Samples

def cs (s : State) (f : Can → Can) : State := cf { s with cans := upd s.cans 0 f } [(0x1300,1,1),(0x1304,1,1),(0x1304,2,0x400)]
def c0 (s : State) : Can := s.can 0
def fx : CanTx := { (default : CanTx) with id := 5, at_ := 10000000000, data := [1,2] }
def q (f : Can → Can) : State := cs live fun x => f { x with state := 2, queue := [fx, { fx with id := 6 }], tec := 3, rec_ := 2 }
def q1 := q id
def arg0 := [{ fx with id := 6 }]
def q2 := q fun x => { x with tec := 250 }
def qb (st : Nat) := onl (q fun x => { x with state := st, queue := [], tec := 7 })
def rf : CanFrame := { (default : CanFrame) with id := 5, data := [1,2] }
def qr := cf q1 [(0x1303,9,1)]
def qo := cf (q fun x => { x with rxq1 := List.replicate 64 default }) [(0x1303,9,1)]
def qs (l : List CanReasm) : State := cs (onl live) fun x => { x with state := 2, reasm := l }
def sf (b : BitVec 8) : CanFrame := { (default : CanFrame) with id := 0x400 + 4 * 3, data := [b,2,3,4] }
def y0 : CanReasm := ⟨3,[9],4,9999000000⟩
def y1 : CanReasm := ⟨3,[9],4,5⟩
def qd : State := cf (cs live fun x => { x with state := 2, rxq1 := [rf] }) [(0x1303,0x0B,3),(0x1313,1,4),(0x1313,2,8),(0x1313,3,100),(0x1313,5,0)]
def ql (q : Nat) : State :=
  cs (cf (cfb live 0x1303 0x0A (leBytes 4 0 ++ leBytes 4 0x7FF ++ leBytes 4 (1 + 256 * q))) [(0x1313,1,4),(0x1313,2,8),(0x1313,3,100)]) fun x => { x with state := 2, rxq0 := [rf] }
def qt : State := cs (onl live) fun x => { x with state := 2, segs := [⟨3,[[1,2],[3]],none⟩] }
def qf : State := cf (qd.updCan 0 fun x => { x with boxes := upd x.boxes 3 fun b => { b with head := 4 } }) []
def qt1 : State := cs (onl live) fun x => { x with state := 2, segs := [⟨3,[[1,2]],some (7,1)⟩] }

/-- The clauses of CanStatesFollowTheirCounters. -/
theorem witness_CanStatesFollowTheirCounters :
    (0 < 4 ∧ q1.cans[0]? = some (c0 q1) ∧ q1.canOn 0 = true ∧ q1.canListen 0 = false ∧ (c0 q1).queue = fx :: arg0 ∧ (c0 q1).tec ≤ 256
          ∧ (∀ (g : CanTx), arg0.head? = some g → g.tried = true ∨ (q1.upTo t0).canExpired 0 g = false))
    ∧ (0 < 4 ∧ q1.cans[0]? = some (c0 q1) ∧ q1.canOn 0 = true ∧ q1.canListen 0 = false ∧ (c0 q1).queue = fx :: arg0
          ∧ (q1.upTo t0).canExpired 0 fx = false ∧ q1.canCfg 0 14 = 0)
    ∧ (0 < 4 ∧ (cf q1 [(4864, 14, 1)]).cans[0]? = some (c0 q1) ∧ (cf q1 [(4864, 14, 1)]).canOn 0 = true ∧ (cf q1 [(4864, 14, 1)]).canListen 0 = false
          ∧ (c0 q1).queue = fx :: arg0 ∧ ((cf q1 [(4864, 14, 1)]).upTo t0).canExpired 0 fx = false ∧ (cf q1 [(4864, 14, 1)]).canCfg 0 14 ≠ 0
          ∧ (∀ (g : CanTx), arg0.head? = some g → g.tried = true ∨ ((cf q1 [(4864, 14, 1)]).upTo t0).canExpired 0 g = false))
    ∧ (0 < 4 ∧ q1.cans[0]? = some (c0 q1) ∧ q1.canOn 0 = true ∧ q1.canListen 0 = false ∧ (c0 q1).queue = fx :: arg0 ∧ 1 ≤ 3 ∧ 3 < 7
          ∧ ((c0 q1).tec + if false = true then 0 else 8) ≤ 255 ∧ (c0 q1).rec_ ≤ 255 ∧ (q1.upTo t0).canExpired 0 fx = false ∧ q1.canCfg 0 14 = 0)
    ∧ (0 < 4 ∧ q1.cans[0]? = some (c0 q1) ∧ q1.canOn 0 = true ∧ q1.canListen 0 = false ∧ (c0 q1).queue = fx :: arg0 ∧ 1 ≤ 3 ∧ 3 < 7
          ∧ ((c0 q1).tec + if true = true then 0 else 8) ≤ 255 ∧ (c0 q1).rec_ ≤ 255 ∧ (q1.upTo t0).canExpired 0 fx = false ∧ q1.canCfg 0 14 = 0)
    ∧ (0 < 4 ∧ q2.cans[0]? = some (c0 q2) ∧ q2.canOn 0 = true ∧ q2.canListen 0 = false ∧ (c0 q2).queue = fx :: arg0 ∧ 1 ≤ 3 ∧ 3 < 7
          ∧ 255 < (c0 q2).tec + if false = true then 0 else 8) :=
  by refine ⟨?_, ?_, ?_, ?_, ?_, ?_⟩ <;> decide +kernel

/-- The clauses of CanStatesFollowTheirCounters, continued. -/
theorem witness_CanStatesFollowTheirCounters_2 :
    (0 < 4 ∧ q2.cans[0]? = some (c0 q2) ∧ q2.canOn 0 = true ∧ 1 ≤ 3 ∧ 3 < 7 ∧ (c0 q2).tec ≤ 255)
    ∧ (0 < 4 ∧ (cf (qb 4) [(4864, 16, 0)]).cans[0]? = some (c0 (qb 4)) ∧ (cf (qb 4) [(4864, 16, 0)]).canPowered 0 = true ∧ (c0 (qb 4)).state = 4
          ∧ ((cf (qb 4) [(4864, 16, 0)]).upTo t0).granted o1 0 (4865 + 64 * 0) 15 (leBytes 1 1) = true)
    ∧ (0 < 4 ∧ (cf (qb 4) [(4864, 16, 1)]).cans[0]? = some (c0 (qb 4)) ∧ (cf (qb 4) [(4864, 16, 1)]).canPowered 0 = true ∧ (c0 (qb 4)).state = 4
          ∧ (cf (qb 4) [(4864, 16, 1)]).canCfg 0 16 = 1
          ∧ (c0 (qb 4)).busOffAt + 1000000 * (cf (qb 4) [(4864, 16, 1)]).canCfg 0 17 ≤ max (cf (qb 4) [(4864, 16, 1)]).now t0)
    ∧ (0 < 4 ∧ (qb 5).cans[0]? = some (c0 (qb 5)) ∧ (qb 5).canPowered 0 = true ∧ (c0 (qb 5)).state = 5)
    ∧ (0 < 4 ∧ (qb 1).cans[0]? = some (c0 (qb 1)) ∧ (qb 1).canPowered 0 = true ∧ (c0 (qb 1)).state = 1 ∧ (c0 (qb 1)).tec ≤ 255) :=
  by refine ⟨?_, ?_, ?_, ?_, ?_⟩ <;> decide +kernel

/-- The clauses of CanFramesFindTheirReaders. -/
theorem witness_CanFramesFindTheirReaders :
    (0 < 4 ∧ q1.cans[0]? = some (c0 q1) ∧ q1.canHears 0 rf = true ∧ (c0 q1).tec ≤ 255 ∧ (c0 q1).rec_ ≤ 127 ∧ q1.canInRange 0 rf = false
          ∧ q1.base ≠ Mode.standby)
    ∧ (0 < 4 ∧ qr.cans[0]? = some (c0 q1) ∧ qr.canHears 0 rf = true ∧ (c0 q1).tec ≤ 255 ∧ (c0 q1).rec_ ≤ 127 ∧ qr.canInRange 0 rf = false
          ∧ qr.base ≠ Mode.standby)
    ∧ (0 < 4 ∧ qo.cans[0]? = some (c0 qo) ∧ qo.canHears 0 rf = true ∧ (c0 qo).tec ≤ 255 ∧ (c0 qo).rec_ ≤ 127 ∧ qo.canInRange 0 rf = false
          ∧ qo.base ≠ Mode.standby ∧ (qo.canRoute 0 rf.id rf.ide = 0 ∧ 64 ≤ (c0 qo).rxq0.length ∨ qo.canRoute 0 rf.id rf.ide = 1
          ∧ 64 ≤ (c0 qo).rxq1.length))
    ∧ (0 < 4 ∧ (qs []).cans[0]? = some (c0 (qs [])) ∧ (qs []).canHears 0 (sf 128) = true ∧ (c0 (qs [])).tec ≤ 255 ∧ (c0 (qs [])).rec_ ≤ 127
          ∧ (qs []).canInRange 0 (sf 128) = true ∧ (sf 128).rtr = false ∧ (qs []).canClient 0 (sf 128) = some 3
          ∧ bitAt (BitVec.toNat (List.headD (sf 128).data 0)) 7 = true ∧ BitVec.toNat (List.headD (sf 128).data 0) % 64 = 0
          ∧ bitAt (BitVec.toNat (List.headD (sf 128).data 0)) 6 = false ∧ List.find? (fun y => decide (y.client = 3)) (c0 (qs [])).reasm = none) :=
  by refine ⟨?_, ?_, ?_, ?_⟩ <;> decide +kernel

/-- The clauses of CanFramesFindTheirReaders, continued. -/
theorem witness_CanFramesFindTheirReaders_2 :
    (0 < 4 ∧ (qs [y0]).cans[0]? = some (c0 (qs [y0])) ∧ (qs [y0]).canHears 0 (sf 4) = true ∧ (c0 (qs [y0])).tec ≤ 255 ∧ (c0 (qs [y0])).rec_ ≤ 127
          ∧ (qs [y0]).canInRange 0 (sf 4) = true ∧ (sf 4).rtr = false ∧ (qs [y0]).canClient 0 (sf 4) = some 3
          ∧ bitAt (BitVec.toNat (List.headD (sf 4).data 0)) 7 = false ∧ List.find? (fun y => decide (y.client = 3)) (c0 (qs [y0])).reasm = some y0
          ∧ max (qs [y0]).now t0 < y0.at_ + 100000000 ∧ BitVec.toNat (List.headD (sf 4).data 0) % 64 = y0.next % 64
          ∧ bitAt (BitVec.toNat (List.headD (sf 4).data 0)) 6 = false)
    ∧ (0 < 4 ∧ (qs [y0]).cans[0]? = some (c0 (qs [y0])) ∧ (qs [y0]).canHears 0 (sf 5) = true ∧ (c0 (qs [y0])).tec ≤ 255 ∧ (c0 (qs [y0])).rec_ ≤ 127
          ∧ (qs [y0]).canInRange 0 (sf 5) = true ∧ (sf 5).rtr = false ∧ (qs [y0]).canClient 0 (sf 5) = some 3
          ∧ bitAt (BitVec.toNat (List.headD (sf 5).data 0)) 7 = false ∧ List.find? (fun y => decide (y.client = 3)) (c0 (qs [y0])).reasm = some y0
          ∧ max (qs [y0]).now t0 < y0.at_ + 100000000 ∧ BitVec.toNat (List.headD (sf 5).data 0) % 64 ≠ y0.next % 64) :=
  by refine ⟨?_, ?_⟩ <;> decide +kernel

/-- The clauses of CanFramesFindTheirReaders, continued. -/
theorem witness_CanFramesFindTheirReaders_3 :
    (0 < 4 ∧ qd.cans[0]? = some (c0 qd) ∧ qd.canPowered 0 = true ∧ qd.base ≠ Mode.standby ∧ ((c0 qd).rxq0 = [rf] ∨ (c0 qd).rxq0 = []
          ∧ (c0 qd).rxq1 = [rf]) ∧ ((qd.upTo t0).canSorted 0 rf).fst < 16 ∧ (c0 qd).boxes.length = 16
          ∧ qd.canBox 0 ((qd.upTo t0).canSorted 0 rf).fst 1 ≠ 0
          ∧ (BitVec.toNat ((((qd.upTo t0).acksNow.can 0).boxes.getD ((qd.upTo t0).canSorted 0 rf).fst default).head -
          (((qd.upTo t0).acksNow.can 0).boxes.getD ((qd.upTo t0).canSorted 0 rf).fst default).ack) < qd.canBox 0 ((qd.upTo t0).canSorted 0 rf).fst 1
          ∨ qd.canBox 0 ((qd.upTo t0).canSorted 0 rf).fst 5 ≠ 0))
    ∧ (0 < 4 ∧ (ql 16).cans[0]? = some (c0 (ql 16)) ∧ (ql 16).canPowered 0 = true ∧ (ql 16).base ≠ Mode.standby ∧ ((c0 (ql 16)).rxq0 = [rf]
          ∨ (c0 (ql 16)).rxq0 = [] ∧ (c0 (ql 16)).rxq1 = [rf]) ∧ (((ql 16).upTo t0).canSorted 0 rf).fst = 16)
    ∧ (0 < 4 ∧ (ql 3).cans[0]? = some (c0 (ql 3)) ∧ (ql 3).canPowered 0 = true ∧ (ql 3).base ≠ Mode.standby ∧ ((c0 (ql 3)).rxq0 = [rf]
          ∨ (c0 (ql 3)).rxq0 = [] ∧ (c0 (ql 3)).rxq1 = [rf]) ∧ (((ql 3).upTo t0).canSorted 0 rf).fst < 16 ∧ (c0 (ql 3)).boxes.length = 16
          ∧ (ql 3).canBox 0 (((ql 3).upTo t0).canSorted 0 rf).fst 1 ≠ 0
          ∧ (BitVec.toNat (((((ql 3).upTo t0).acksNow.can 0).boxes.getD (((ql 3).upTo t0).canSorted 0 rf).fst default).head -
          ((((ql 3).upTo t0).acksNow.can 0).boxes.getD (((ql 3).upTo t0).canSorted 0 rf).fst default).ack) < (ql 3).canBox 0
          (((ql 3).upTo t0).canSorted 0 rf).fst 1 ∨ (ql 3).canBox 0 (((ql 3).upTo t0).canSorted 0 rf).fst 5 ≠ 0)) :=
  by refine ⟨?_, ?_, ?_⟩ <;> decide +kernel

/-- The clauses of CanFramesFindTheirReaders, continued. -/
theorem witness_CanFramesFindTheirReaders_4 :
    (0 < 4 ∧ (qs [y1]).cans[0]? = some (c0 (qs [y1])) ∧ (qs [y1]).live = true
          ∧ List.find? (fun y => decide (y.client = 3)) (c0 (qs [y1])).reasm = some y1 ∧ y1.at_ + 100000000 ≤ max (qs [y1]).now t0)
    ∧ (0 < 4 ∧ qt.cans[0]? = some (c0 qt) ∧ qt.canPowered 0 = true
          ∧ List.find? (fun e => decide (e.client = 3)) (c0 qt).segs = some { client := 3, segs := [[1, 2], [3]], push := none : CanSegs }
          ∧ (c0 qt).queue.length < 32 ∧ List.countP (fun f => decide (f.client = some 3)) (c0 qt).queue < 8)
    ∧ (0 < 4 ∧ qf.cans[0]? = some (c0 qf) ∧ qf.canPowered 0 = true ∧ qf.base ≠ Mode.standby ∧ ((c0 qf).rxq0 = [rf] ∨ (c0 qf).rxq0 = []
          ∧ (c0 qf).rxq1 = [rf]) ∧ ((qf.upTo t0).canSorted 0 rf).fst < 16 ∧ (c0 qf).boxes.length = 16
          ∧ (qf.canBox 0 ((qf.upTo t0).canSorted 0 rf).fst 1 = 0
          ∨ qf.canBox 0 ((qf.upTo t0).canSorted 0 rf).fst 1 ≤ BitVec.toNat ((((qf.upTo t0).acksNow.can 0).boxes.getD
          ((qf.upTo t0).canSorted 0 rf).fst default).head - (((qf.upTo t0).acksNow.can 0).boxes.getD ((qf.upTo t0).canSorted 0 rf).fst default).ack)
          ∧ qf.canBox 0 ((qf.upTo t0).canSorted 0 rf).fst 5 = 0))
    ∧ (0 < 4 ∧ qt1.cans[0]? = some (c0 qt1) ∧ qt1.canPowered 0 = true
          ∧ List.find? (fun e => decide (e.client = 3)) (c0 qt1).segs = some { client := 3, segs := [[1, 2]], push := some (7, 1) : CanSegs }
          ∧ (c0 qt1).queue.length < 32 ∧ List.countP (fun f => decide (f.client = some 3)) (c0 qt1).queue < 8) :=
  by refine ⟨?_, ?_, ?_, ?_⟩ <;> decide +kernel

end Sys2Proof.Tests.Can
end

