-- ==== Sys2Proof/Tests/Clocks.lean ====
section
/-! SUPPORT. Witnesses for the statements on watchdogs, calendar and backup: for each clause of a statement,
      a state and operands that meet its hypotheses together. -/
set_option Elab.async false
namespace Sys2Proof.Tests.Clocks
open Sys2Proof.Machine Sys2Proof.Tests.Samples

def op := withPlan (onl live) plan0
def wd (w : Nat) (f : Wdt → Wdt) (s : State := op) : State := { s with sup := { s.sup with wdts := upd s.sup.wdts w f } }
def g (s : State) (w : Nat) := s.sup.wdts.getD w default
def w1 := wd 1 fun x => { x with state := 1 }
def w0 := wd 0 fun x => { x with state := 1 }
def wa := cf w1 [(0x1701,4,1)]
def wr : State := { w1 with inReset := true, sup := { w1.sup with power := { w1.sup.power with saveEnd := 10^12 } } }
def arg0 := arm { w1 with mode := .stop } 0x1701 5
def ev : State := { op with sup := { op.sup with backup := { op.sup.backup with evidence := { op.sup.backup.evidence with valid := true } } } }
def rs : State := { cf op [(0x1720,4,1)] with clock := { op.clock with ptpValid := true, refTime := 1000000000 * 1000000000 } }
def rs2 : State := { rs with clock := { rs.clock with rtcBase := (rs.upTo t0).ptpTicks.toNat, rtcAt := 10000000100 } }
def ce : State := { op with clock := { op.clock with rtcBase := calendarEnd } }
def rs3 : State := { rs with clock := { rs.clock with syncAt := some 10000000000 } }
def arg1 := { ce with inReset := true }

/-- The clauses of WatchdogsExpire. -/
theorem witness_WatchdogsExpire :
    (1 < 5 ∧ w1.sup.wdts[1]? = some (g w1 1) ∧ w1.live = true ∧ (g w1 1).state = 1 ∧ (g w1 1).warned = false
          ∧ w1.wdtPeriod 1 / 8 * 7 ≤ (w1.upTo t0).wdtC 1)
    ∧ (0 < 5 ∧ w0.sup.wdts[0]? = some (g w0 0) ∧ w0.live = true ∧ (g w0 0).state = 1 ∧ (g w0 0).warned = false
          ∧ w0.wdtPeriod 0 / 8 * 7 ≤ (w0.upTo t0).wdtC 0)
    ∧ (0 < 5 ∧ w0.sup.wdts[0]? = some (g w0 0) ∧ w0.live = true ∧ (g w0 0).state = 1 ∧ (w0.upTo t0).wdtSpent 0 = true ∧ (0 = 0 ∨ w0.wdtCfg 0 4 ≠ 1
          ∨ w0.pair.role = 2))
    ∧ (1 < 5 ∧ w1.sup.wdts[1]? = some (g w1 1) ∧ w1.live = true ∧ (g w1 1).state = 1 ∧ (w1.upTo t0).wdtSpent 1 = true ∧ (1 = 0 ∨ w1.wdtCfg 1 4 ≠ 1
          ∨ w1.pair.role = 2))
    ∧ (1 < 5 ∧ wa.sup.wdts[1]? = some (g wa 1) ∧ wa.live = true ∧ (g wa 1).state = 1 ∧ (wa.upTo t0).wdtSpent 1 = true ∧ 1 ≠ 0 ∧ wa.wdtCfg 1 4 = 1
          ∧ wa.pair.role ≠ 2)
    ∧ (1 < 5 ∧ wr.sup.wdts[1]? = some (g wr 1) ∧ wr.live = false ∧ wr.inReset = true ∧ max wr.now t0 ≤ wr.sup.power.saveEnd ∧ (g wr 1).state = 1
          ∧ (wr.upTo t0).wdtSpent 1 = true)
    ∧ (1 < 5 ∧ arg0.sup.wdts[1]? = some (g w1 1) ∧ (arg0.upTo t0).granted o1 0 (5888 + 1) 5 (leBytes 1 1) = true)
    ∧ (0 < 5 ∧ ev.sup.wdts[0]? = some (g ev 0) ∧ (ev.upTo t0).granted o1 0 5904 14 (leBytes 1 1) = true) :=
  by refine ⟨?_, ?_, ?_, ?_, ?_, ?_, ?_, ?_⟩ <;> decide +kernel

/-- The clauses of CalendarAndBackupAreKept. -/
theorem witness_CalendarAndBackupAreKept :
    (calendarWord (32768 * 777) < 2 ^ 64 ∧ (op.upTo t0).granted o1 0 5920 2 (leBytes 8 (calendarWord (32768 * 777))) = true
          ∧ calendarTicks (calendarWord (32768 * 777)) = some (32768 * 777))
    ∧ (rs.live = true ∧ rs.mode ≠ Mode.boot ∧ rs.cfg 5920 4 = 1 ∧ rs.clock.ptpValid = true ∧ 0 ≤ (rs.upTo t0).ptpTicks
          ∧ (∀ (a : Nat), rs.clock.syncAt = some a → a + 60000000000 ≤ max rs.now t0)
          ∧ 2 * 32768 < ((rs.upTo t0).ptpTicks - (↑(rs.upTo t0).rtcTicks : Int)).natAbs * 1000)
    ∧ (rs2.live = true ∧ rs2.mode ≠ Mode.boot ∧ rs2.cfg 5920 4 = 1 ∧ rs2.clock.ptpValid = true ∧ 0 ≤ (rs2.upTo t0).ptpTicks
          ∧ (∀ (a : Nat), rs2.clock.syncAt = some a → a + 60000000000 ≤ max rs2.now t0)
          ∧ ((rs2.upTo t0).ptpTicks - (↑(rs2.upTo t0).rtcTicks : Int)).natAbs * 1000 ≤ 2 * 32768)
    ∧ (rs3.clock.syncAt = some 10000000000 ∧ max rs3.now t0 < 10000000000 + 60000000000)
    ∧ (ce.clock.rtcEnd = false ∧ (ce.upTo t0).rtcTicks = calendarEnd)
    ∧ (arg1.clock.rtcEnd = false ∧ (arg1.upTo t0).rtcTicks = calendarEnd ∧ arg1.live = false)
    ∧ (((arm op 5920 7).upTo t0).granted o1 0 5920 7 (leBytes 1 1) = true)
    ∧ ((op.upTo t0).granted o1 0 5921 1 (List.replicate 32 9) = true) :=
  by refine ⟨?_, ?_, ?_, ?_, ?_, ?_, ?_, ?_⟩ <;> decide +kernel

/-- The clauses of CalendarAndBackupAreKept, continued. -/
theorem witness_CalendarAndBackupAreKept_2 :
    (op.live = true ∧ (∀ (a : Nat), op.sup.backup.vbatAt = some a → a + 10000000000 ≤ max op.now t0)) :=
  by decide +kernel

end Sys2Proof.Tests.Clocks
end

