-- ==== Sys2Proof/Tests/Corridor.lean ====
section
/-! SUPPORT. Witnesses for the statement on the corridor: for each clause of a statement, a state and operands that meet its hypotheses together. -/
set_option Elab.async false
namespace Sys2Proof.Tests.Corridor
open Sys2Proof.Machine Sys2Proof.Tests.Samples

def pr (role st : Nat) (m : Mode) (f : Pair → Pair) : State :=
  { withPlan live plan0 with mode := m, pair := f { live.pair with sense := true, role := role, state := st, partner := some { (default : Partner) with digest := digestNo plan0.digest }, lanes := [⟨true,5⟩,⟨false,6⟩] } }
def a := cf (pr 1 4 .run id) [(0x1400,1,1)]
def b := cf (pr 2 4 .standby id) [(0x1400,1,1)]
def c2 := cf (pr 0 0 .stop fun p => { p with lanes := [⟨false,5⟩,⟨false,6⟩] }) [(0x1400,1,1)]
def pn (role st sch : Nat) : Partner := { (default : Partner) with role := role, station := st, schema := sch }
def hi (M m : Nat) (p : Partner) : CorHello := ⟨M,m,p⟩
def c3 := { a with mode := .stop, pair := { a.pair with role := 0, state := 1, roleSel := 1 } }
def bf : State := { a with pair := { a.pair with buffer := [({ (default : Delta) with seq := 3},7),({ (default : Delta) with seq := 4},7)] } }

/-- The clauses of CorridorKeepsItsPartner. -/
theorem witness_CorridorKeepsItsPartner :
    (a.live = true ∧ a.mode ≠ Mode.boot ∧ a.paired = true ∧ a.pair.sense = true ∧ 0 < 2 ∧ a.pair.lanes[0]? = some { up := true, lastAt := 5 : Lane }
          ∧ a.pair.role ≠ 2)
    ∧ (b.live = true ∧ b.mode ≠ Mode.boot ∧ b.paired = true ∧ b.pair.sense = true ∧ 0 < 2
          ∧ b.pair.lanes[0]? = some { up := true, lastAt := 5 : Lane } ∧ b.pair.role = 2)
    ∧ (b.live = true ∧ b.mode ≠ Mode.boot ∧ b.paired = true ∧ b.pair.sense = true ∧ 0 < 2
          ∧ b.pair.lanes[0]? = some { up := true, lastAt := 5 : Lane })
    ∧ (b.live = true ∧ b.mode ≠ Mode.boot ∧ b.paired = true ∧ b.pair.sense = true ∧ 0 < 2
          ∧ b.pair.lanes[0]? = some { up := true, lastAt := 5 : Lane } ∧ { up := true, lastAt := 5 : Lane }.up = true)
    ∧ (b.live = true ∧ b.mode ≠ Mode.boot ∧ b.paired = true ∧ b.pair.sense = true ∧ 1 < 2
          ∧ b.pair.lanes[1]? = some { up := false, lastAt := 6 : Lane } ∧ { up := false, lastAt := 6 : Lane }.up = false ∧ b.corridorUp = true)
    ∧ (c2.live = true ∧ c2.mode ≠ Mode.boot ∧ c2.paired = true ∧ c2.pair.sense = true ∧ 1 < 2
          ∧ c2.pair.lanes[1]? = some { up := false, lastAt := 6 : Lane } ∧ { up := false, lastAt := 6 : Lane }.up = false ∧ c2.corridorUp = false)
    ∧ (a.live = true ∧ a.mode ≠ Mode.boot ∧ a.paired = true ∧ a.pair.sense = true ∧ (hi 2 0 (pn 1 1 0)).major ≠ 1)
    ∧ (a.live = true ∧ a.mode ≠ Mode.boot ∧ a.paired = true ∧ a.pair.sense = true ∧ (hi 1 0 (pn 0 1 5)).major = 1 ∧ a.pair.role = 1
          ∧ (hi 1 0 (pn 0 1 5)).partner.schema = a.plan.schema) :=
  by refine ⟨?_, ?_, ?_, ?_, ?_, ?_, ?_, ?_⟩ <;> decide +kernel

/-- The clauses of CorridorKeepsItsPartner, continued. -/
theorem witness_CorridorKeepsItsPartner_2 :
    (a.live = true ∧ a.mode ≠ Mode.boot ∧ a.paired = true ∧ a.pair.sense = true ∧ (hi 1 0 (pn 0 1 6)).major = 1 ∧ a.pair.role = 1
          ∧ (hi 1 0 (pn 0 1 6)).partner.schema ≠ a.plan.schema)
    ∧ (c2.live = true ∧ c2.mode ≠ Mode.boot ∧ c2.paired = true ∧ c2.pair.sense = true ∧ (hi 1 0 (pn 0 1 5)).major = 1 ∧ c2.pair.role = 0
          ∧ c2.mode = Mode.stop ∧ (c2.upTo t0).stopHeld = false ∧ (hi 1 0 (pn 0 1 5)).partner.role = 0
          ∧ (hi 1 0 (pn 0 1 5)).partner.station ≠ c2.pair.roleSel ∧ (hi 1 0 (pn 0 1 5)).partner.schema = c2.plan.schema)
    ∧ (c3.live = true ∧ c3.mode ≠ Mode.boot ∧ c3.paired = true ∧ c3.pair.sense = true ∧ (hi 1 0 (pn 0 0 5)).major = 1 ∧ c3.pair.role = 0
          ∧ c3.mode = Mode.stop ∧ (c3.upTo t0).stopHeld = false ∧ (hi 1 0 (pn 0 0 5)).partner.role = 0
          ∧ (hi 1 0 (pn 0 0 5)).partner.station ≠ c3.pair.roleSel ∧ (hi 1 0 (pn 0 0 5)).partner.schema = c3.plan.schema ∧ c3.pair.roleSel ≠ 0
          ∧ c3.corridorUp = true)
    ∧ (c3.live = true ∧ c3.mode ≠ Mode.boot ∧ c3.paired = true ∧ c3.pair.sense = true ∧ (hi 1 0 (pn 1 0 6)).major = 1 ∧ c3.pair.role = 0
          ∧ c3.mode = Mode.stop ∧ (c3.upTo t0).stopHeld = false ∧ (hi 1 0 (pn 1 0 6)).partner.role = 1
          ∧ (hi 1 0 (pn 1 0 6)).partner.schema ≠ c3.plan.schema)
    ∧ (b.live = true ∧ b.mode ≠ Mode.boot ∧ b.paired = true ∧ b.pair.sense = true ∧ b.pair.state = 4 ∧ b.compareOff = false ∧ b.follows = true
          ∧ b.pair.hotAt + 100000 ≤ 100000 ∧ (∀ (c : Nat), c < 5 → (compareCrcs b.pair.compare 100000).getD c 0 = [0, 0, 0, 0, 0].getD c 0)) :=
  by refine ⟨?_, ?_, ?_, ?_, ?_⟩ <;> decide +kernel

/-- The clauses of CorridorKeepsItsPartner, continued. -/
theorem witness_CorridorKeepsItsPartner_3 :
    (b.live = true ∧ b.mode ≠ Mode.boot ∧ b.paired = true ∧ b.pair.sense = true ∧ b.pair.state = 4 ∧ b.compareOff = false
          ∧ 99999 < b.pair.hotAt + 100000)
    ∧ (b.live = true ∧ b.mode ≠ Mode.boot ∧ b.paired = true ∧ b.pair.sense = true ∧ b.pair.state = 4 ∧ b.compareOff = false ∧ b.follows = true
          ∧ b.pair.hotAt + 100000 ≤ 100000 ∧ (¬∀ (c : Nat), c < 5 → (compareCrcs b.pair.compare 100000).getD c 0 = [0, 1, 0, 0, 0].getD c 0))
    ∧ (a.live = true ∧ a.mode ≠ Mode.boot ∧ a.paired = true ∧ a.pair.sense = true ∧ a.pair.state = 4 ∧ a.compareOff = false ∧ a.pair.role = 1
          ∧ a.corridorUp = true)
    ∧ (bf.live = true ∧ bf.mode ≠ Mode.boot ∧ bf.paired = true ∧ bf.pair.sense = true ∧ bf.corridorUp = true)
    ∧ (bf.live = true ∧ bf.mode ≠ Mode.boot ∧ bf.paired = true ∧ bf.pair.sense = true ∧ bf.pair.role = 1) :=
  by refine ⟨?_, ?_, ?_, ?_, ?_⟩ <;> decide +kernel

end Sys2Proof.Tests.Corridor
end

