-- ==== Sys2Proof/Tests/Encoders.lean ====
section
/-! SUPPORT. Witnesses for the statements on encoders, Sources, estimators and presets: for each clause of a statement,
      a state and operands that meet its hypotheses together. -/
set_option Elab.async false
namespace Sys2Proof.Tests.Encoders
open Sys2Proof.Machine Sys2Proof.Tests.Samples

def z : State := cf quad [(0x2010,8,2)]
def arg0 := (z.updEnc 0 fun e => { e with zRef := some 5})
def arg1 := enc (z.updEnc 0 fun e => { e with zRef := some 5}) 0
def lf : State := quad.updEnc 0 fun e => { e with low := 2, faulted := true, faultAt := 5 }
def arg2 := quad.updEnc 0 fun e => { e with faulted := true, faultAt := 5 }
def arg3 := enc (quad.updEnc 0 fun e => { e with faulted := true, faultAt := 5 }) 0
def ssi : State := cf live [(0x2000,1,1),(0x2010,1,2),(0x2010,0xF,1)]
def ssi1 : State := ssi.updEnc 0 fun e => { e with ssiPrev := some 3 }
def sr : State := (cf quad [(0x2040,2,1)]).updSrc 0 fun r => { r with enabled := true, active := 1 }
def ab : State := (cf ssi [(0x2040,2,1)]).updSrc 0 fun r => { r with enabled := true, awaitAbs := some 0 }
def sr2 : State := sr.updSrc 0 fun r => { r with counted := true, lpc := 77, v := 5}
def tg := 10000200000
def est (s : State) : State := cf s [(0x2040,9,1000),(0x2040,0xA,0x3F000000),(0x2040,0xB,0x3E000000),(0x2040,0xC,0x3D000000)]
def es : State := est sr
def es2 : State := est sr2
def im : State := (cf sr [(0x2040,1,1),(0x2040,0x18,3)])
def po : State := onl sr
def po2 := po.updSrc 0 fun r => { r with excluded := 3, slip := true }
def zz : State := cf z [(0x2010,9,4+1)]
def zy : State := zz.updEnc 0 fun e => { e with zRef := some 5, a := true, raw := 9}

/-- The clauses of QuadratureCountsItsEdges. -/
theorem witness_QuadratureCountsItsEdges :
    (0 < 8 ∧ quad.tracking = true ∧ quad.base ≠ Mode.standby ∧ quad.encMode 0 = 1 ∧ quad.line.encs[0]? = some (enc quad 0)
          ∧ (enc quad 0).takenAt ≠ some t0 ∧ ((enc quad 0).a ≠ true → (quad.upTo t0).held5 0 (enc quad 0).aAt 1 = true) ∧ ((enc quad 0).b ≠ false
          → (quad.upTo t0).held5 0 (enc quad 0).bAt 1 = true) ∧ ((enc quad 0).a = true ↔ (enc quad 0).b ≠ false)) :=
  by decide +kernel

/-- The clauses of QuadratureErrorsAndZEdges. -/
theorem witness_QuadratureErrorsAndZEdges :
    (0 < 8 ∧ quad.tracking = true ∧ quad.base ≠ Mode.standby ∧ quad.encMode 0 = 1 ∧ quad.line.encs[0]? = some (enc quad 0)
          ∧ (enc quad 0).takenAt ≠ some t0 ∧ (quad.upTo t0).held5 0 (enc quad 0).aAt 1 = true ∧ (quad.upTo t0).held5 0 (enc quad 0).bAt 1 = true
          ∧ (enc quad 0).a ≠ true ∧ (enc quad 0).b ≠ true ∧ ((enc quad 0).faulted = true
          ∨ (List.filter (fun q => decide (max quad.now t0 < q + 1000000)) (enc quad 0).quadTimes).length + 1 ≤ 16))
    ∧ (0 < 8 ∧ arg0.tracking = true ∧ arg0.base ≠ Mode.standby ∧ arg0.encMode 0 = 1 ∧ arg0.encCfg 0 8 ≠ 0 ∧ arg0.line.encs[0]? = some arg1
          ∧ arg0.clear t0 ∧ (arg0.upTo t0).zGate 0 = true ∧ arg0.encCfg 0 8 = 2 ∧ ∃ r, arg1.zRef = some r
          ∧ (arg1.raw - r).natAbs ≠ arg0.encCfg 0 4 * arg0.encCfg 0 2)
    ∧ (0 < 8 ∧ z.tracking = true ∧ z.base ≠ Mode.standby ∧ z.encMode 0 = 1 ∧ z.encCfg 0 8 ≠ 0 ∧ z.line.encs[0]? = some (enc z 0) ∧ z.clear t0
          ∧ (z.upTo t0).zGate 0 = true ∧ ¬(z.encCfg 0 8 = 2 ∧ ∃ r, (enc z 0).zRef = some r
          ∧ ((enc z 0).raw - r).natAbs ≠ z.encCfg 0 4 * z.encCfg 0 2))
    ∧ (0 < 8 ∧ zz.tracking = true ∧ zz.base ≠ Mode.standby ∧ zz.encMode 0 = 1 ∧ zz.encCfg 0 8 ≠ 0 ∧ zz.line.encs[0]? = some (enc zz 0) ∧ zz.clear t0
          ∧ (zz.upTo t0).zGate 0 = false)
    ∧ (0 < 8 ∧ zy.tracking = true ∧ zy.base ≠ Mode.standby ∧ zy.encMode 0 = 1 ∧ zy.encCfg 0 8 ≠ 0 ∧ zy.line.encs[0]? = some (enc zy 0) ∧ zy.clear t0
          ∧ (zy.upTo t0).zGate 0 = true ∧ zy.encCfg 0 8 = 2 ∧ ∃ r, (enc zy 0).zRef = some r
          ∧ ((enc zy 0).raw - r).natAbs ≠ zy.encCfg 0 4 * zy.encCfg 0 2) :=
  by refine ⟨?_, ?_, ?_, ?_, ?_⟩ <;> decide +kernel

/-- The clauses of LineFaultsFaultTheInput. -/
theorem witness_LineFaultsFaultTheInput :
    (0 < 8 ∧ quad.line.encs[0]? = some (enc quad 0) ∧ quad.base ≠ Mode.standby ∧ quad.clear t0 ∧ quad.live = true ∧ 1 < 3
          ∧ bitAt (quad.pairsInUse 0) 1 = true ∧ (∀ (r : Src), r ∈ quad.line.srcs → r.enabled = false))
    ∧ (0 < 8 ∧ quad.line.encs[0]? = some (enc quad 0) ∧ quad.base ≠ Mode.standby ∧ quad.clear t0 ∧ quad.live = true ∧ 2 < 3
          ∧ bitAt (quad.pairsInUse 0) 2 = false)
    ∧ (0 < 8 ∧ lf.line.encs[0]? = some (enc lf 0) ∧ lf.base ≠ Mode.standby ∧ lf.clear t0 ∧ lf.live = true ∧ 1 < 3 ∧ lf.lineFault 0 ≠ 0
          ∧ (setBit (enc lf 0).low 1 false).land (lf.pairsInUse 0) = 0)
    ∧ (0 < 8 ∧ arg2.line.encs[0]? = some arg3 ∧ arg2.base ≠ Mode.standby ∧ arg2.clear t0 ∧ arg2.live = true ∧ arg3.faulted = true
          ∧ arg2.lineFault 0 = 0 ∧ arg3.faultAt + 100000000 ≤ max arg2.now t0) :=
  by refine ⟨?_, ?_, ?_, ?_⟩ <;> decide +kernel

/-- The clauses of SsiReadsStepTheCount. -/
theorem witness_SsiReadsStepTheCount :
    (0 < 8 ∧ ssi1.tracking = true ∧ ssi1.base ≠ Mode.standby ∧ ssi1.encMode 0 = 2 ∧ ssi1.line.encs[0]? = some (enc ssi1 0)
          ∧ ssi1.ssiFails 0 4 true false ≠ none)
    ∧ (0 < 8 ∧ ssi1.tracking = true ∧ ssi1.base ≠ Mode.standby ∧ ssi1.encMode 0 = 2 ∧ ssi1.line.encs[0]? = some (enc ssi1 0)
          ∧ ssi1.ssiFails 0 (4 + 2 ^ 23) false false = none ∧ (enc ssi1 0).ssiPrev = some 3 ∧ (enc ssi1 0).awaiting = false
          ∧ 2 ^ (ssi1.encCfg 0 11 - 2) < (signed (ssi1.encCfg 0 11) (pattern (ssi1.encCfg 0 11) ((↑(ssi1.ssiValue 0 (4 + 2 ^ 23)) : Int) -
          (↑3 : Int)))).natAbs)
    ∧ (0 < 8 ∧ ssi1.tracking = true ∧ ssi1.base ≠ Mode.standby ∧ ssi1.encMode 0 = 2 ∧ ssi1.line.encs[0]? = some (enc ssi1 0)
          ∧ ssi1.ssiFails 0 4 false false = none ∧ (enc ssi1 0).ssiPrev = some 3 ∧ (enc ssi1 0).awaiting = false
          ∧ (signed (ssi1.encCfg 0 11) (pattern (ssi1.encCfg 0 11) ((↑(ssi1.ssiValue 0 4) : Int) - (↑3 : Int)))).natAbs ≤ 2 ^
          (ssi1.encCfg 0 11 - 2)) :=
  by refine ⟨?_, ?_, ?_⟩ <;> decide +kernel

/-- The clauses of CountsReachTheirSources. -/
theorem witness_CountsReachTheirSources :
    (0 < 8 ∧ 0 < 4 ∧ sr.tracking = true ∧ sr.base ≠ Mode.standby ∧ sr.encMode 0 = 1 ∧ sr.line.encs[0]? = some (enc sr 0)
          ∧ sr.line.srcs[0]? = some (src sr 0) ∧ (enc sr 0).takenAt ≠ some t0 ∧ ((enc sr 0).a ≠ true → (sr.upTo t0).held5 0 (enc sr 0).aAt 1 = true)
          ∧ ((enc sr 0).b ≠ false → (sr.upTo t0).held5 0 (enc sr 0).bAt 1 = true) ∧ ((enc sr 0).a = true ↔ (enc sr 0).b ≠ false) ∧ (sr.encCfg 0 2 = 4
          ∨ sr.encCfg 0 2 = 2 ∧ (enc sr 0).a ≠ true ∨ (enc sr 0).a = false ∧ true = true) ∧ (src sr 0).enabled = true ∧ sr.srcCfg 0 1 = 0
          ∧ (src sr 0).awaitAbs = none ∧ sr.activeMask 0 = (src sr 0).active ∧ bitAt (src sr 0).active 0 = true)
    ∧ (0 < 8 ∧ 0 < 4 ∧ ab.tracking = true ∧ ab.base ≠ Mode.standby ∧ ab.encMode 0 = 2 ∧ ab.line.encs[0]? = some (enc ab 0)
          ∧ ab.line.srcs[0]? = some (src ab 0) ∧ (src ab 0).awaitAbs = some 0 ∧ ab.ssiFails 0 4 false false = none ∧ (enc ab 0).ssiPrev = none
          ∧ (enc ab 0).faulted = false) :=
  by refine ⟨?_, ?_⟩ <;> decide +kernel

/-- The clauses of EstimatorsPredictAndCorrect. -/
theorem witness_EstimatorsPredictAndCorrect :
    (0 < 4 ∧ sr.tracking = true ∧ sr.base ≠ Mode.standby ∧ sr.line.srcs[0]? = some (src sr 0) ∧ sr.srcCfg 0 1 = 0 ∧ (src sr 0).enabled = true
          ∧ (src sr 0).lost = false ∧ (src sr 0).awaitAbs = none ∧ (sr.upTo t0).onGrid 0 = false)
    ∧ (0 < 4 ∧ es.tracking = true ∧ es.base ≠ Mode.standby ∧ es.line.srcs[0]? = some (src es 0) ∧ es.srcCfg 0 1 = 0 ∧ (src es 0).enabled = true
          ∧ (src es 0).lost = false ∧ (src es 0).awaitAbs = none ∧ (es.upTo tg).onGrid 0 = true ∧ (src es 0).tickAt ≤ max es.now tg
          ∧ (src es 0).counted = false)
    ∧ (0 < 4 ∧ es2.tracking = true ∧ es2.base ≠ Mode.standby ∧ es2.line.srcs[0]? = some (src es2 0) ∧ es2.srcCfg 0 1 = 0 ∧ (src es2 0).enabled = true
          ∧ (src es2 0).lost = false ∧ (src es2 0).awaitAbs = none ∧ (es2.upTo tg).onGrid 0 = true ∧ (src es2 0).tickAt ≤ max es2.now tg
          ∧ (src es2 0).counted = true) :=
  by refine ⟨?_, ?_, ?_⟩ <;> decide +kernel

/-- The clauses of SilentSourcesStopAndAreLost. -/
theorem witness_SilentSourcesStopAndAreLost :
    (0 < 4 ∧ sr.tracking = true ∧ sr.base ≠ Mode.standby ∧ sr.line.srcs[0]? = some (src sr 0) ∧ sr.clear t0 ∧ sr.srcCfg 0 1 = 0
          ∧ (src sr 0).standstill = false ∧ (src sr 0).lastCount + 1000000 * sr.srcCfg 0 6 ≤ max sr.now t0)
    ∧ (0 < 4 ∧ im.tracking = true ∧ im.base ≠ Mode.standby ∧ im.line.srcs[0]? = some (src im 0) ∧ im.clear t0 ∧ im.srcCfg 0 1 = 1
          ∧ (src im 0).stale = false ∧ (src im 0).sampleAt + 1000 * im.srcCfg 0 25 ≤ max im.now t0)
    ∧ (0 < 4 ∧ im.tracking = true ∧ im.base ≠ Mode.standby ∧ im.line.srcs[0]? = some (src im 0) ∧ im.clear t0 ∧ im.srcCfg 0 1 = 1
          ∧ (src im 0).lost = false ∧ (src im 0).sampleAt + 1000 * im.srcCfg 0 26 ≤ max im.now t0) :=
  by refine ⟨?_, ?_, ?_⟩ <;> decide +kernel

/-- The clauses of PresetsAndReadmission. -/
theorem witness_PresetsAndReadmission :
    (0 < 4 ∧ po.line.srcs[0]? = some (src po 0) ∧ po.clear t0 ∧ (po.upTo t0).granted o1 0 (8256 + 0) 30 (leBytes 1 1) = true)
    ∧ (0 < 4 ∧ po.line.srcs[0]? = some (src po 0) ∧ po.clear t0 ∧ (po.upTo t0).granted o1 0 (8256 + 0) 30 (leBytes 1 2) = true)
    ∧ (0 < 4 ∧ po.line.srcs[0]? = some (src po 0) ∧ po.clear t0 ∧ (po.upTo t0).granted o1 0 (8256 + 0) 30 (leBytes 1 3) = true)
    ∧ (0 < 4 ∧ po2.line.srcs[0]? = some (src po2 0) ∧ po2.clear t0 ∧ (po2.upTo t0).granted o1 0 (8256 + 0) 31 (leBytes 1 1) = true ∧ 1 < 256) :=
  by refine ⟨?_, ?_, ?_, ?_⟩ <;> decide +kernel

end Sys2Proof.Tests.Encoders
end

