-- ==== Sys2Proof/Tests/FieldIo.lean ====
section
/-! SUPPORT. Witnesses for the statements on supplies, digital and analogue channels and modems: for each clause of a statement,
      a state and operands that meet its hypotheses together. -/
set_option Elab.async false
namespace Sys2Proof.Tests.FieldIo
open Sys2Proof.Machine Sys2Proof.Tests.Samples

def sg : State := { live with field := { live.field with groups := upd live.field.groups 0 fun x => { x with state := 2, leftAt := 5 } } }
def sl : State := { live with field := { live.field with groups := upd live.field.groups 0 fun x => { x with state := 1, leftAt := 5 } } }
def dio (s : State) (f : Dio → Dio) : State := { s with field := { s.field with dio := upd s.field.dio 0 f } }
def di : State := dio (cf sg [(0x2600,1,1),(0x2600,6,1),(0x2600,7,1),(0x2600,0x0C,2^26*0+7)]) id
def d0 (s : State) := s.field.dio.getD 0 default
def dk (f : Dio → Dio) : State := dio di fun x => f { x with known := true }
def arg0 := dk (fun x => { x with sampled := true })
def arg1 := d0 (dk (fun x => { x with sampled := true }))
def arg2 := dk (fun x => {x with level := true})
def arg3 := d0 (dk (fun x => {x with level := true}))
def wb : State :=
  cf { sg with field := { sg.field with groups := upd sg.field.groups 0 fun x => { x with checks := true } } } [(0x2600,1,1),(0x2600,4,1),(0x2600,0xC,7)]
def fg (r : List Nat) (b : Bool): State := dio (cf sg [(0x2600,1,1),(0x2600,6,2)]) fun x => { x with rises := r, fewRises := b }
def orr : State := dio live fun x => { x with overrate := some 5 }
def dq (f : Dio → Dio) : State :=
  dio (cf { sg with field := { sg.field with groups := upd sg.field.groups 0 fun x => { x with checks := true } } } [(0x2600,1,2)]) f
def p1 := dq fun x => { x with pin := true, cmd := true, started := true }
def p2 := dq fun x => { x with tripAt := some 5, cmd := true, started := true }
def p3 := dq fun x => { x with pulseEnd := some 5, cmd := true, started := true }
def p4 := onl p2
def aio (s : State) (f : Aio → Aio) : State := { s with field := { s.field with aio := upd s.field.aio 0 f } }
def a0 (s : State) := s.field.aio.getD 0 default
def ai : State := aio (cf live [(0x2700,1,1)]) id
def as : State := aio ai fun x => { x with surgeEnd := some 5}
def ao : State := aio (cf live [(0x2700,1,2)]) fun x => { x with current := 10, readback := 9 + 99/100 }
def fk : State :=
  { cf (withPlan live { plan0 with queues := [.none, .fsk 0] }) [(0x2700,1,2),(0x2700,0x0E,1),(0x2720,1,1)] with tasks := { live.tasks with queues := upd live.tasks.queues 1 fun _ => [⟨0,5,[1,7],true⟩] } }
def fm : Msg := ⟨0,5,[1,7],true⟩
def fs := aio fk fun x => { x with sending := true }

/-- The clauses of SuppliesGateTheirGroup. -/
theorem witness_SuppliesGateTheirGroup :
    (0 < 6 ∧ sg.field.groups[0]? = some (sg.group 0) ∧ 0 < 12000
          ∧ (if 0 < 12000 then 0 else if (sg.group 0).state = 2 then if 0 < 18000 then 1 else 2 else if
          (sg.group 0).state = 0 then if 0 < 18500 then 1 else 2 else if 18500 < 0 then 2 else 1) ≠ (sg.group 0).state)
    ∧ (0 < 6 ∧ live.field.groups[0]? = some (live.group 0)
          ∧ (if 18400 < 12000 then 0 else if (live.group 0).state = 2 then if 18400 < 18000 then 1 else 2 else if
          (live.group 0).state = 0 then if 18400 < 18500 then 1 else 2 else if 18500 < 18400 then 2 else 1) ≠ (live.group 0).state)
    ∧ (0 < 6 ∧ sg.field.groups[0]? = some (sg.group 0) ∧ (sg.group 0).state ≠ 0 ∧ (sg.group 0).leftAt + 100000000 ≤ max sg.now t0)
    ∧ (0 < 6 ∧ live.field.groups[0]? = some (live.group 0) ∧ 11999 < 12000)
    ∧ (0 < 6 ∧ live.field.groups[0]? = some (live.group 0)
          ∧ (if 12000 < 12000 then 0 else if (live.group 0).state = 2 then if 12000 < 18000 then 1 else 2 else if
          (live.group 0).state = 0 then if 12000 < 18500 then 1 else 2 else if 18500 < 12000 then 2 else 1) ≠ (live.group 0).state)
    ∧ (0 < 6 ∧ live.field.groups[0]? = some (live.group 0)
          ∧ (if 17999 < 12000 then 0 else if (live.group 0).state = 2 then if 17999 < 18000 then 1 else 2 else if
          (live.group 0).state = 0 then if 17999 < 18500 then 1 else 2 else if 18500 < 17999 then 2 else 1) ≠ (live.group 0).state) :=
  by refine ⟨?_, ?_, ?_, ?_, ?_, ?_⟩ <;> decide +kernel

/-- The clauses of SuppliesGateTheirGroup, continued. -/
theorem witness_SuppliesGateTheirGroup_2 :
    (0 < 6 ∧ live.field.groups[0]? = some (live.group 0)
          ∧ (if 18000 < 12000 then 0 else if (live.group 0).state = 2 then if 18000 < 18000 then 1 else 2 else if
          (live.group 0).state = 0 then if 18000 < 18500 then 1 else 2 else if 18500 < 18000 then 2 else 1) ≠ (live.group 0).state)
    ∧ (0 < 6 ∧ live.field.groups[0]? = some (live.group 0)
          ∧ (if 18500 < 12000 then 0 else if (live.group 0).state = 2 then if 18500 < 18000 then 1 else 2 else if
          (live.group 0).state = 0 then if 18500 < 18500 then 1 else 2 else if 18500 < 18500 then 2 else 1) ≠ (live.group 0).state)
    ∧ (0 < 6 ∧ live.field.groups[0]? = some (live.group 0)
          ∧ (if 18501 < 12000 then 0 else if (live.group 0).state = 2 then if 18501 < 18000 then 1 else 2 else if
          (live.group 0).state = 0 then if 18501 < 18500 then 1 else 2 else if 18500 < 18501 then 2 else 1) ≠ (live.group 0).state)
    ∧ (0 < 6 ∧ sl.field.groups[0]? = some (sl.group 0) ∧ 11999 < 12000
          ∧ (if 11999 < 12000 then 0 else if (sl.group 0).state = 2 then if 11999 < 18000 then 1 else 2 else if
          (sl.group 0).state = 0 then if 11999 < 18500 then 1 else 2 else if 18500 < 11999 then 2 else 1) ≠ (sl.group 0).state)
    ∧ (0 < 6 ∧ sl.field.groups[0]? = some (sl.group 0))
    ∧ (0 < 6 ∧ sl.field.groups[0]? = some (sl.group 0)
          ∧ (if 18501 < 12000 then 0 else if (sl.group 0).state = 2 then if 18501 < 18000 then 1 else 2 else if
          (sl.group 0).state = 0 then if 18501 < 18500 then 1 else 2 else if 18500 < 18501 then 2 else 1) ≠ (sl.group 0).state) :=
  by refine ⟨?_, ?_, ?_, ?_, ?_, ?_⟩ <;> decide +kernel

/-- The clauses of SuppliesGateTheirGroup, continued. -/
theorem witness_SuppliesGateTheirGroup_3 :
    (0 < 6 ∧ sg.field.groups[0]? = some (sg.group 0) ∧ 11999 < 12000
          ∧ (if 11999 < 12000 then 0 else if (sg.group 0).state = 2 then if 11999 < 18000 then 1 else 2 else if
          (sg.group 0).state = 0 then if 11999 < 18500 then 1 else 2 else if 18500 < 11999 then 2 else 1) ≠ (sg.group 0).state)
    ∧ (0 < 6 ∧ sg.field.groups[0]? = some (sg.group 0)
          ∧ (if 12000 < 12000 then 0 else if (sg.group 0).state = 2 then if 12000 < 18000 then 1 else 2 else if
          (sg.group 0).state = 0 then if 12000 < 18500 then 1 else 2 else if 18500 < 12000 then 2 else 1) ≠ (sg.group 0).state)
    ∧ (0 < 6 ∧ sg.field.groups[0]? = some (sg.group 0)
          ∧ (if 17999 < 12000 then 0 else if (sg.group 0).state = 2 then if 17999 < 18000 then 1 else 2 else if
          (sg.group 0).state = 0 then if 17999 < 18500 then 1 else 2 else if 18500 < 17999 then 2 else 1) ≠ (sg.group 0).state)
    ∧ (0 < 6 ∧ sg.field.groups[0]? = some (sg.group 0))
    ∧ ((if 18400 < 12000 then 0 else if sg.field.va.state = 2 then if 18400 < 19000 then 1 else 2 else if sg.field.va.state = 0 then if 18400 < 19500
          then 1 else 2 else if 19500 < 18400 then 2 else 1) ≠ sg.field.va.state)
    ∧ ((if 20000 < 12000 then 0 else if sg.field.va.state = 2 then if 20000 < 19000 then 1 else 2 else if sg.field.va.state = 0 then if 20000 < 19500
          then 1 else 2 else if 19500 < 20000 then 2 else 1) ≠ sg.field.va.state) :=
  by refine ⟨?_, ?_, ?_, ?_, ?_, ?_⟩ <;> decide +kernel

/-- The clauses of DigitalInputsAreSampled. -/
theorem witness_DigitalInputsAreSampled :
    (0 < 48 ∧ (dk id).field.dio[0]? = some (d0 (dk id)) ∧ (dk id).live = true ∧ (dk id).dioCfg 0 1 = 1 ∧ (dk id).base ≠ Mode.standby
          ∧ (d0 (dk id)).known = true ∧ (d0 (dk id)).level ≠ true ∧ ((dk id).dioCfg 0 6 = 1 ∧ ((dk id).dioCfg 0 7 = 3
          ∨ (dk id).dioCfg 0 7 = if true = true then 1 else 2) ∧ ((dk id).dioSupply 0).state ≠ 0) ∧ pointNone ((dk id).dioCfg 0 12) = false
          ∧ (d0 (dk id)).wireBreak = false)
    ∧ (0 < 48 ∧ di.field.dio[0]? = some (d0 di) ∧ di.live = true ∧ di.dioCfg 0 1 = 1 ∧ di.base ≠ Mode.standby ∧ (d0 di).known = false
          ∧ pointNone (di.dioCfg 0 12) = false ∧ (d0 di).wireBreak = false)
    ∧ (0 < 48 ∧ arg0.field.dio[0]? = some arg1 ∧ arg0.live = true ∧ arg0.dioCfg 0 1 = 1 ∧ arg0.base ≠ Mode.standby ∧ arg1.known = true
          ∧ arg1.sampled = true)
    ∧ (0 < 48 ∧ arg2.field.dio[0]? = some arg3 ∧ arg2.live = true ∧ arg2.dioCfg 0 1 = 1 ∧ arg2.base ≠ Mode.standby ∧ arg3.known = true
          ∧ arg3.level ≠ false ∧ (¬(arg2.dioCfg 0 6 = 1 ∧ (arg2.dioCfg 0 7 = 3 ∨ arg2.dioCfg 0 7 = if false = true then 1 else 2)
          ∧ (arg2.dioSupply 0).state ≠ 0)) ∧ pointNone (arg2.dioCfg 0 12) = false ∧ arg3.wireBreak = false)
    ∧ (0 < 48 ∧ (dk id).field.dio[0]? = some (d0 (dk id)) ∧ (dk id).live = true ∧ (dk id).dioCfg 0 1 = 1 ∧ (dk id).base ≠ Mode.standby
          ∧ (d0 (dk id)).known = true ∧ (d0 (dk id)).sampled = false ∧ pointNone ((dk id).dioCfg 0 12) = false ∧ (d0 (dk id)).wireBreak = false) :=
  by refine ⟨?_, ?_, ?_, ?_, ?_⟩ <;> decide +kernel

/-- The clauses of DigitalInputsAreSampled, continued. -/
theorem witness_DigitalInputsAreSampled_2 :
    (0 < 48 ∧ wb.field.dio[0]? = some (d0 wb) ∧ wb.live = true ∧ wb.dioCfg 0 1 = 1 ∧ wb.dioCfg 0 4 ≠ 0 ∧ (wb.dioSupply 0).checks = true
          ∧ (d0 wb).acceptAt + 20000000 ≤ max wb.now t0 ∧ (d0 wb).level = false ∧ 50 < 100 ∧ (d0 wb).wireBreak = false
          ∧ pointNone (wb.dioCfg 0 12) = false)
    ∧ (0 < 48 ∧ wb.field.dio[0]? = some (d0 wb) ∧ wb.live = true ∧ wb.dioCfg 0 1 = 1 ∧ wb.dioCfg 0 4 ≠ 0 ∧ (wb.dioSupply 0).checks = true
          ∧ (d0 wb).acceptAt + 20000000 ≤ max wb.now t0 ∧ ((d0 wb).level = true ∨ 200 ≤ 250))
    ∧ (0 < 48 ∧ (fg [1, 2000] true).field.dio[0]? = some (d0 (fg [1, 2000] true)) ∧ (fg [1, 2000] true).live = true
          ∧ (fg [1, 2000] true).dioCfg 0 1 = 1 ∧ (fg [1, 2000] true).dioCfg 0 6 = 2
          ∧ (d0 (fg [1, 2000] true)).gateAt + 1000000 * (fg [1, 2000] true).dioCfg 0 8 ≤ max (fg [1, 2000] true).now t0
          ∧ 2 ≤ (d0 (fg [1, 2000] true)).rises.length)
    ∧ (0 < 48 ∧ (fg [] true).field.dio[0]? = some (d0 (fg [] true)) ∧ (fg [] true).live = true ∧ (fg [] true).dioCfg 0 1 = 1
          ∧ (fg [] true).dioCfg 0 6 = 2 ∧ (d0 (fg [] true)).gateAt + 1000000 * (fg [] true).dioCfg 0 8 ≤ max (fg [] true).now t0
          ∧ (d0 (fg [] true)).rises.length < 2 ∧ (d0 (fg [] true)).fewRises = true)
    ∧ (0 < 48 ∧ (fg [3] false).field.dio[0]? = some (d0 (fg [3] false)) ∧ (fg [3] false).live = true ∧ (fg [3] false).dioCfg 0 1 = 1
          ∧ (fg [3] false).dioCfg 0 6 = 2 ∧ (d0 (fg [3] false)).gateAt + 1000000 * (fg [3] false).dioCfg 0 8 ≤ max (fg [3] false).now t0
          ∧ (d0 (fg [3] false)).rises.length < 2 ∧ (d0 (fg [3] false)).fewRises = false) :=
  by refine ⟨?_, ?_, ?_, ?_, ?_⟩ <;> decide +kernel

/-- The clauses of DigitalInputsAreSampled, continued. -/
theorem witness_DigitalInputsAreSampled_3 :
    (0 < 48 ∧ orr.field.dio[0]? = some (d0 orr) ∧ (d0 orr).overrate = some 5 ∧ 5 + 1000000000 ≤ max orr.now t0) :=
  by decide +kernel

/-- The clauses of DigitalOutputsProtectThemselves. -/
theorem witness_DigitalOutputsProtectThemselves :
    (0 < 48 ∧ p1.field.dio[0]? = some (d0 p1) ∧ p1.live = true ∧ (d0 p1).pin = true)
    ∧ (0 < 48 ∧ p1.field.dio[0]? = some (d0 p1) ∧ p1.live = true ∧ (d0 p1).pin = true ∧ (d0 p1).openLoad = false
          ∧ (d0 p1).cmdAt + 50000000 ≤ max p1.now t0)
    ∧ (0 < 48 ∧ p2.field.dio[0]? = some (d0 p2) ∧ p2.live = true ∧ (d0 p2).tripAt = some 5 ∧ (d0 p2).latched = false ∧ 5 + 100000000 ≤ max p2.now t0)
    ∧ (0 < 48 ∧ p1.field.dio[0]? = some (d0 p1) ∧ p1.live = true ∧ p1.dioCfg 0 1 = 2 ∧ p1.base ≠ Mode.standby
          ∧ (d0 p1).cmdAt + 1100000 ≤ max p1.now t0 ∧ (d0 p1).overload = false ∧ (d0 p1).thermal = false ∧ (d0 p1).latched = false
          ∧ (p1.dioSupply 0).checks = true ∧ (!p1.dioWanted 0) ≠ p1.dioWanted 0 ∧ (d0 p1).rbMismatch = false)
    ∧ (0 < 48 ∧ p3.field.dio[0]? = some (d0 p3) ∧ p3.live = true ∧ (d0 p3).pulseEnd = some 5 ∧ 5 ≤ max p3.now t0)
    ∧ (0 < 48 ∧ p4.field.dio[0]? = some (d0 p4) ∧ (p4.upTo t0).granted o1 0 (9728 + 0) 19 (leBytes 1 1) = true ∧ (d0 p4).latched = false)
    ∧ (0 < 48 ∧ p4.field.dio[0]? = some (d0 p4) ∧ (p4.upTo t0).granted o1 0 (9728 + 0) 19 (leBytes 1 2) = true) :=
  by refine ⟨?_, ?_, ?_, ?_, ?_, ?_, ?_⟩ <;> decide +kernel

/-- The clauses of AnalogueChannelsMeasure. -/
theorem witness_AnalogueChannelsMeasure :
    (0 < 8 ∧ ai.field.aio[0]? = some (a0 ai) ∧ ai.live = true ∧ ai.aioCfg 0 1 = 1 ∧ ai.base ≠ Mode.standby ∧ (a0 ai).surgeEnd = none
          ∧ ((if (a0 ai).under = true then decide (rnd64 ((List.take (max 1 ((if ai.field.aioAt = some (coreClock
          (max ai.now t0)) then
          { pending := (ai.upTo t0).pending, now := (ai.upTo t0).now, bootAt := (ai.upTo t0).bootAt, fresh := (ai.upTo t0).fresh, outbox := (ai.upTo t0).outbox, mode := (ai.upTo t0).mode, inReset := (ai.upTo t0).inReset, clock := (ai.upTo t0).clock, params := ai.field.aioWas, staged := (ai.upTo t0).staged, recorder := (ai.upTo t0).recorder, crossings := (ai.upTo t0).crossings, carried := (ai.upTo t0).carried, resyncs := (ai.upTo t0).resyncs, line := (ai.upTo t0).line, treads := (ai.upTo t0).treads, hall := (ai.upTo t0).hall, tasks := (ai.upTo t0).tasks, plans := (ai.upTo t0).plans, loops := (ai.upTo t0).loops, dsp := (ai.upTo t0).dsp, field := (ai.upTo t0).field, net := (ai.upTo t0).net, cans := (ai.upTo t0).cans, pair := (ai.upTo t0).pair, nvm := (ai.upTo t0).nvm, sup := (ai.upTo t0).sup, fuses := (ai.upTo t0).fuses : State } else ai.upTo t0).aioCfg 0 8 * 1000 / max 1 ((if ai.field.aioAt = some (coreClock (max ai.now t0)) then { pending := (ai.upTo t0).pending, now := (ai.upTo t0).now, bootAt := (ai.upTo t0).bootAt, fresh := (ai.upTo t0).fresh, outbox := (ai.upTo t0).outbox, mode := (ai.upTo t0).mode, inReset := (ai.upTo t0).inReset, clock := (ai.upTo t0).clock, params := ai.field.aioWas, staged := (ai.upTo t0).staged, recorder := (ai.upTo t0).recorder, crossings := (ai.upTo t0).crossings, carried := (ai.upTo t0).carried, resyncs := (ai.upTo t0).resyncs, line := (ai.upTo t0).line, treads := (ai.upTo t0).treads, hall := (ai.upTo t0).hall, tasks := (ai.upTo t0).tasks, plans := (ai.upTo t0).plans, loops := (ai.upTo t0).loops, dsp := (ai.upTo t0).dsp, field := (ai.upTo t0).field, net := (ai.upTo t0).net, cans := (ai.upTo t0).cans, pair := (ai.upTo t0).pair, nvm := (ai.upTo t0).nvm, sup := (ai.upTo t0).sup, fuses := (ai.upTo t0).fuses : State } else ai.upTo t0).aioCfg 0 7))) ((↑10000000 : Rat) / 1000000 :: (a0 ai).samples)).sum / (↑(List.take (max 1 ((if ai.field.aioAt = some (coreClock (max ai.now t0)) then { pending := (ai.upTo t0).pending, now := (ai.upTo t0).now, bootAt := (ai.upTo t0).bootAt, fresh := (ai.upTo t0).fresh, outbox := (ai.upTo t0).outbox, mode := (ai.upTo t0).mode, inReset := (ai.upTo t0).inReset, clock := (ai.upTo t0).clock, params := ai.field.aioWas, staged := (ai.upTo t0).staged, recorder := (ai.upTo t0).recorder, crossings := (ai.upTo t0).crossings, carried := (ai.upTo t0).carried, resyncs := (ai.upTo t0).resyncs, line := (ai.upTo t0).line, treads := (ai.upTo t0).treads, hall := (ai.upTo t0).hall, tasks := (ai.upTo t0).tasks, plans := (ai.upTo t0).plans, loops := (ai.upTo t0).loops, dsp := (ai.upTo t0).dsp, field := (ai.upTo t0).field, net := (ai.upTo t0).net, cans := (ai.upTo t0).cans, pair := (ai.upTo t0).pair, nvm := (ai.upTo t0).nvm, sup := (ai.upTo t0).sup, fuses := (ai.upTo t0).fuses : State } else ai.upTo t0).aioCfg 0 8 * 1000 / max 1 ((if ai.field.aioAt = some (coreClock (max ai.now t0)) then { pending := (ai.upTo t0).pending, now := (ai.upTo t0).now, bootAt := (ai.upTo t0).bootAt, fresh := (ai.upTo t0).fresh, outbox := (ai.upTo t0).outbox, mode := (ai.upTo t0).mode, inReset := (ai.upTo t0).inReset, clock := (ai.upTo t0).clock, params := ai.field.aioWas, staged := (ai.upTo t0).staged, recorder := (ai.upTo t0).recorder, crossings := (ai.upTo t0).crossings, carried := (ai.upTo t0).carried, resyncs := (ai.upTo t0).resyncs, line := (ai.upTo t0).line, treads := (ai.upTo t0).treads, hall := (ai.upTo t0).hall, tasks := (ai.upTo t0).tasks, plans := (ai.upTo t0).plans, loops := (ai.upTo t0).loops, dsp := (ai.upTo t0).dsp, field := (ai.upTo t0).field, net := (ai.upTo t0).net, cans := (ai.upTo t0).cans, pair := (ai.upTo t0).pair, nvm := (ai.upTo t0).nvm, sup := (ai.upTo t0).sup, fuses := (ai.upTo t0).fuses : State } else ai.upTo t0).aioCfg 0 7))) ((↑10000000 : Rat) / 1000000 :: (a0 ai).samples)).length : Rat)) < 37 / 10) else decide (rnd64 ((List.take (max 1 ((if ai.field.aioAt = some (coreClock (max ai.now t0)) then { pending := (ai.upTo t0).pending, now := (ai.upTo t0).now, bootAt := (ai.upTo t0).bootAt, fresh := (ai.upTo t0).fresh, outbox := (ai.upTo t0).outbox, mode := (ai.upTo t0).mode, inReset := (ai.upTo t0).inReset, clock := (ai.upTo t0).clock, params := ai.field.aioWas, staged := (ai.upTo t0).staged, recorder := (ai.upTo t0).recorder, crossings := (ai.upTo t0).crossings, carried := (ai.upTo t0).carried, resyncs := (ai.upTo t0).resyncs, line := (ai.upTo t0).line, treads := (ai.upTo t0).treads, hall := (ai.upTo t0).hall, tasks := (ai.upTo t0).tasks, plans := (ai.upTo t0).plans, loops := (ai.upTo t0).loops, dsp := (ai.upTo t0).dsp, field := (ai.upTo t0).field, net := (ai.upTo t0).net, cans := (ai.upTo t0).cans, pair := (ai.upTo t0).pair, nvm := (ai.upTo t0).nvm, sup := (ai.upTo t0).sup, fuses := (ai.upTo t0).fuses : State } else ai.upTo t0).aioCfg 0 8 * 1000 / max 1 ((if ai.field.aioAt = some (coreClock (max ai.now t0)) then { pending := (ai.upTo t0).pending, now := (ai.upTo t0).now, bootAt := (ai.upTo t0).bootAt, fresh := (ai.upTo t0).fresh, outbox := (ai.upTo t0).outbox, mode := (ai.upTo t0).mode, inReset := (ai.upTo t0).inReset, clock := (ai.upTo t0).clock, params := ai.field.aioWas, staged := (ai.upTo t0).staged, recorder := (ai.upTo t0).recorder, crossings := (ai.upTo t0).crossings, carried := (ai.upTo t0).carried, resyncs := (ai.upTo t0).resyncs, line := (ai.upTo t0).line, treads := (ai.upTo t0).treads, hall := (ai.upTo t0).hall, tasks := (ai.upTo t0).tasks, plans := (ai.upTo t0).plans, loops := (ai.upTo t0).loops, dsp := (ai.upTo t0).dsp, field := (ai.upTo t0).field, net := (ai.upTo t0).net, cans := (ai.upTo t0).cans, pair := (ai.upTo t0).pair, nvm := (ai.upTo t0).nvm, sup := (ai.upTo t0).sup, fuses := (ai.upTo t0).fuses : State } else ai.upTo t0).aioCfg 0 7))) ((↑10000000 : Rat) / 1000000 :: (a0 ai).samples)).sum / (↑(List.take (max 1 ((if ai.field.aioAt = some (coreClock (max ai.now t0)) then { pending := (ai.upTo t0).pending, now := (ai.upTo t0).now, bootAt := (ai.upTo t0).bootAt, fresh := (ai.upTo t0).fresh, outbox := (ai.upTo t0).outbox, mode := (ai.upTo t0).mode, inReset := (ai.upTo t0).inReset, clock := (ai.upTo t0).clock, params := ai.field.aioWas, staged := (ai.upTo t0).staged, recorder := (ai.upTo t0).recorder, crossings := (ai.upTo t0).crossings, carried := (ai.upTo t0).carried, resyncs := (ai.upTo t0).resyncs, line := (ai.upTo t0).line, treads := (ai.upTo t0).treads, hall := (ai.upTo t0).hall, tasks := (ai.upTo t0).tasks, plans := (ai.upTo t0).plans, loops := (ai.upTo t0).loops, dsp := (ai.upTo t0).dsp, field := (ai.upTo t0).field, net := (ai.upTo t0).net, cans := (ai.upTo t0).cans, pair := (ai.upTo t0).pair, nvm := (ai.upTo t0).nvm, sup := (ai.upTo t0).sup, fuses := (ai.upTo t0).fuses : State } else ai.upTo t0).aioCfg 0 8 * 1000 / max 1 ((if ai.field.aioAt = some (coreClock (max ai.now t0)) then { pending := (ai.upTo t0).pending, now := (ai.upTo t0).now, bootAt := (ai.upTo t0).bootAt, fresh := (ai.upTo t0).fresh, outbox := (ai.upTo t0).outbox, mode := (ai.upTo t0).mode, inReset := (ai.upTo t0).inReset, clock := (ai.upTo t0).clock, params := ai.field.aioWas, staged := (ai.upTo t0).staged, recorder := (ai.upTo t0).recorder, crossings := (ai.upTo t0).crossings, carried := (ai.upTo t0).carried, resyncs := (ai.upTo t0).resyncs, line := (ai.upTo t0).line, treads := (ai.upTo t0).treads, hall := (ai.upTo t0).hall, tasks := (ai.upTo t0).tasks, plans := (ai.upTo t0).plans, loops := (ai.upTo t0).loops, dsp := (ai.upTo t0).dsp, field := (ai.upTo t0).field, net := (ai.upTo t0).net, cans := (ai.upTo t0).cans, pair := (ai.upTo t0).pair, nvm := (ai.upTo t0).nvm, sup := (ai.upTo t0).sup, fuses := (ai.upTo t0).fuses : State } else ai.upTo t0).aioCfg 0 7))) ((↑10000000 : Rat) / 1000000 :: (a0 ai).samples)).length : Rat)) < 36 / 10)) || if (a0 ai).above = true then decide (209 / 10 < rnd64 ((List.take (max 1 ((if ai.field.aioAt = some (coreClock (max ai.now t0)) then { pending := (ai.upTo t0).pending, now := (ai.upTo t0).now, bootAt := (ai.upTo t0).bootAt, fresh := (ai.upTo t0).fresh, outbox := (ai.upTo t0).outbox, mode := (ai.upTo t0).mode, inReset := (ai.upTo t0).inReset, clock := (ai.upTo t0).clock, params := ai.field.aioWas, staged := (ai.upTo t0).staged, recorder := (ai.upTo t0).recorder, crossings := (ai.upTo t0).crossings, carried := (ai.upTo t0).carried, resyncs := (ai.upTo t0).resyncs, line := (ai.upTo t0).line, treads := (ai.upTo t0).treads, hall := (ai.upTo t0).hall, tasks := (ai.upTo t0).tasks, plans := (ai.upTo t0).plans, loops := (ai.upTo t0).loops, dsp := (ai.upTo t0).dsp, field := (ai.upTo t0).field, net := (ai.upTo t0).net, cans := (ai.upTo t0).cans, pair := (ai.upTo t0).pair, nvm := (ai.upTo t0).nvm, sup := (ai.upTo t0).sup, fuses := (ai.upTo t0).fuses : State } else ai.upTo t0).aioCfg 0 8 * 1000 / max 1 ((if ai.field.aioAt = some (coreClock (max ai.now t0)) then { pending := (ai.upTo t0).pending, now := (ai.upTo t0).now, bootAt := (ai.upTo t0).bootAt, fresh := (ai.upTo t0).fresh, outbox := (ai.upTo t0).outbox, mode := (ai.upTo t0).mode, inReset := (ai.upTo t0).inReset, clock := (ai.upTo t0).clock, params := ai.field.aioWas, staged := (ai.upTo t0).staged, recorder := (ai.upTo t0).recorder, crossings := (ai.upTo t0).crossings, carried := (ai.upTo t0).carried, resyncs := (ai.upTo t0).resyncs, line := (ai.upTo t0).line, treads := (ai.upTo t0).treads, hall := (ai.upTo t0).hall, tasks := (ai.upTo t0).tasks, plans := (ai.upTo t0).plans, loops := (ai.upTo t0).loops, dsp := (ai.upTo t0).dsp, field := (ai.upTo t0).field, net := (ai.upTo t0).net, cans := (ai.upTo t0).cans, pair := (ai.upTo t0).pair, nvm := (ai.upTo t0).nvm, sup := (ai.upTo t0).sup, fuses := (ai.upTo t0).fuses : State } else ai.upTo t0).aioCfg 0 7))) ((↑10000000 : Rat) / 1000000 :: (a0 ai).samples)).sum / (↑(List.take (max 1 ((if ai.field.aioAt = some (coreClock (max ai.now t0)) then { pending := (ai.upTo t0).pending, now := (ai.upTo t0).now, bootAt := (ai.upTo t0).bootAt, fresh := (ai.upTo t0).fresh, outbox := (ai.upTo t0).outbox, mode := (ai.upTo t0).mode, inReset := (ai.upTo t0).inReset, clock := (ai.upTo t0).clock, params := ai.field.aioWas, staged := (ai.upTo t0).staged, recorder := (ai.upTo t0).recorder, crossings := (ai.upTo t0).crossings, carried := (ai.upTo t0).carried, resyncs := (ai.upTo t0).resyncs, line := (ai.upTo t0).line, treads := (ai.upTo t0).treads, hall := (ai.upTo t0).hall, tasks := (ai.upTo t0).tasks, plans := (ai.upTo t0).plans, loops := (ai.upTo t0).loops, dsp := (ai.upTo t0).dsp, field := (ai.upTo t0).field, net := (ai.upTo t0).net, cans := (ai.upTo t0).cans, pair := (ai.upTo t0).pair, nvm := (ai.upTo t0).nvm, sup := (ai.upTo t0).sup, fuses := (ai.upTo t0).fuses : State } else ai.upTo t0).aioCfg 0 8 * 1000 / max 1 ((if ai.field.aioAt = some (coreClock (max ai.now t0)) then { pending := (ai.upTo t0).pending, now := (ai.upTo t0).now, bootAt := (ai.upTo t0).bootAt, fresh := (ai.upTo t0).fresh, outbox := (ai.upTo t0).outbox, mode := (ai.upTo t0).mode, inReset := (ai.upTo t0).inReset, clock := (ai.upTo t0).clock, params := ai.field.aioWas, staged := (ai.upTo t0).staged, recorder := (ai.upTo t0).recorder, crossings := (ai.upTo t0).crossings, carried := (ai.upTo t0).carried, resyncs := (ai.upTo t0).resyncs, line := (ai.upTo t0).line, treads := (ai.upTo t0).treads, hall := (ai.upTo t0).hall, tasks := (ai.upTo t0).tasks, plans := (ai.upTo t0).plans, loops := (ai.upTo t0).loops, dsp := (ai.upTo t0).dsp, field := (ai.upTo t0).field, net := (ai.upTo t0).net, cans := (ai.upTo t0).cans, pair := (ai.upTo t0).pair, nvm := (ai.upTo t0).nvm, sup := (ai.upTo t0).sup, fuses := (ai.upTo t0).fuses : State } else ai.upTo t0).aioCfg 0 7))) ((↑10000000 : Rat) / 1000000 :: (a0 ai).samples)).length : Rat))) else decide (21 < rnd64 ((List.take (max 1 ((if ai.field.aioAt = some (coreClock (max ai.now t0)) then { pending := (ai.upTo t0).pending, now := (ai.upTo t0).now, bootAt := (ai.upTo t0).bootAt, fresh := (ai.upTo t0).fresh, outbox := (ai.upTo t0).outbox, mode := (ai.upTo t0).mode, inReset := (ai.upTo t0).inReset, clock := (ai.upTo t0).clock, params := ai.field.aioWas, staged := (ai.upTo t0).staged, recorder := (ai.upTo t0).recorder, crossings := (ai.upTo t0).crossings, carried := (ai.upTo t0).carried, resyncs := (ai.upTo t0).resyncs, line := (ai.upTo t0).line, treads := (ai.upTo t0).treads, hall := (ai.upTo t0).hall, tasks := (ai.upTo t0).tasks, plans := (ai.upTo t0).plans, loops := (ai.upTo t0).loops, dsp := (ai.upTo t0).dsp, field := (ai.upTo t0).field, net := (ai.upTo t0).net, cans := (ai.upTo t0).cans, pair := (ai.upTo t0).pair, nvm := (ai.upTo t0).nvm, sup := (ai.upTo t0).sup, fuses := (ai.upTo t0).fuses : State } else ai.upTo t0).aioCfg 0 8 * 1000 / max 1 ((if ai.field.aioAt = some (coreClock (max ai.now t0)) then { pending := (ai.upTo t0).pending, now := (ai.upTo t0).now, bootAt := (ai.upTo t0).bootAt, fresh := (ai.upTo t0).fresh, outbox := (ai.upTo t0).outbox, mode := (ai.upTo t0).mode, inReset := (ai.upTo t0).inReset, clock := (ai.upTo t0).clock, params := ai.field.aioWas, staged := (ai.upTo t0).staged, recorder := (ai.upTo t0).recorder, crossings := (ai.upTo t0).crossings, carried := (ai.upTo t0).carried, resyncs := (ai.upTo t0).resyncs, line := (ai.upTo t0).line, treads := (ai.upTo t0).treads, hall := (ai.upTo t0).hall, tasks := (ai.upTo t0).tasks, plans := (ai.upTo t0).plans, loops := (ai.upTo t0).loops, dsp := (ai.upTo t0).dsp, field := (ai.upTo t0).field, net := (ai.upTo t0).net, cans := (ai.upTo t0).cans, pair := (ai.upTo t0).pair, nvm := (ai.upTo t0).nvm, sup := (ai.upTo t0).sup, fuses := (ai.upTo t0).fuses : State } else ai.upTo t0).aioCfg 0 7))) ((↑10000000 : Rat) / 1000000 :: (a0 ai).samples)).sum / (↑(List.take (max 1 ((if ai.field.aioAt = some (coreClock (max ai.now t0)) then { pending := (ai.upTo t0).pending, now := (ai.upTo t0).now, bootAt := (ai.upTo t0).bootAt, fresh := (ai.upTo t0).fresh, outbox := (ai.upTo t0).outbox, mode := (ai.upTo t0).mode, inReset := (ai.upTo t0).inReset, clock := (ai.upTo t0).clock, params := ai.field.aioWas, staged := (ai.upTo t0).staged, recorder := (ai.upTo t0).recorder, crossings := (ai.upTo t0).crossings, carried := (ai.upTo t0).carried, resyncs := (ai.upTo t0).resyncs, line := (ai.upTo t0).line, treads := (ai.upTo t0).treads, hall := (ai.upTo t0).hall, tasks := (ai.upTo t0).tasks, plans := (ai.upTo t0).plans, loops := (ai.upTo t0).loops, dsp := (ai.upTo t0).dsp, field := (ai.upTo t0).field, net := (ai.upTo t0).net, cans := (ai.upTo t0).cans, pair := (ai.upTo t0).pair, nvm := (ai.upTo t0).nvm, sup := (ai.upTo t0).sup, fuses := (ai.upTo t0).fuses : State } else ai.upTo t0).aioCfg 0 8 * 1000 / max 1 ((if ai.field.aioAt = some (coreClock (max ai.now t0)) then { pending := (ai.upTo t0).pending, now := (ai.upTo t0).now, bootAt := (ai.upTo t0).bootAt, fresh := (ai.upTo t0).fresh, outbox := (ai.upTo t0).outbox, mode := (ai.upTo t0).mode, inReset := (ai.upTo t0).inReset, clock := (ai.upTo t0).clock, params := ai.field.aioWas, staged := (ai.upTo t0).staged, recorder := (ai.upTo t0).recorder, crossings := (ai.upTo t0).crossings, carried := (ai.upTo t0).carried, resyncs := (ai.upTo t0).resyncs, line := (ai.upTo t0).line, treads := (ai.upTo t0).treads, hall := (ai.upTo t0).hall, tasks := (ai.upTo t0).tasks, plans := (ai.upTo t0).plans, loops := (ai.upTo t0).loops, dsp := (ai.upTo t0).dsp, field := (ai.upTo t0).field, net := (ai.upTo t0).net, cans := (ai.upTo t0).cans, pair := (ai.upTo t0).pair, nvm := (ai.upTo t0).nvm, sup := (ai.upTo t0).sup, fuses := (ai.upTo t0).fuses : State } else ai.upTo t0).aioCfg 0 7))) ((↑10000000 : Rat) / 1000000 :: (a0 ai).samples)).length : Rat)))) = false ∧ pointNone ((if ai.field.aioAt = some (coreClock (max ai.now t0)) then { pending := (ai.upTo t0).pending, now := (ai.upTo t0).now, bootAt := (ai.upTo t0).bootAt, fresh := (ai.upTo t0).fresh, outbox := (ai.upTo t0).outbox, mode := (ai.upTo t0).mode, inReset := (ai.upTo t0).inReset, clock := (ai.upTo t0).clock, params := ai.field.aioWas, staged := (ai.upTo t0).staged, recorder := (ai.upTo t0).recorder, crossings := (ai.upTo t0).crossings, carried := (ai.upTo t0).carried, resyncs := (ai.upTo t0).resyncs, line := (ai.upTo t0).line, treads := (ai.upTo t0).treads, hall := (ai.upTo t0).hall, tasks := (ai.upTo t0).tasks, plans := (ai.upTo t0).plans, loops := (ai.upTo t0).loops, dsp := (ai.upTo t0).dsp, field := (ai.upTo t0).field, net := (ai.upTo t0).net, cans := (ai.upTo t0).cans, pair := (ai.upTo t0).pair, nvm := (ai.upTo t0).nvm, sup := (ai.upTo t0).sup, fuses := (ai.upTo t0).fuses : State } else ai.upTo t0).aioCfg 0 17) = false) :=
  by decide +kernel

/-- The clauses of AnalogueChannelsMeasure, continued. -/
theorem witness_AnalogueChannelsMeasure_2 :
    (0 < 8 ∧ ai.field.aio[0]? = some (a0 ai) ∧ ai.live = true ∧ ai.aioCfg 0 1 = 1 ∧ ai.base ≠ Mode.standby ∧ (a0 ai).surgeEnd = none
          ∧ ((if (a0 ai).under = true then decide (rnd64 ((List.take (max 1 ((if ai.field.aioAt = some (coreClock
          (max ai.now t0)) then
          { pending := (ai.upTo t0).pending, now := (ai.upTo t0).now, bootAt := (ai.upTo t0).bootAt, fresh := (ai.upTo t0).fresh, outbox := (ai.upTo t0).outbox, mode := (ai.upTo t0).mode, inReset := (ai.upTo t0).inReset, clock := (ai.upTo t0).clock, params := ai.field.aioWas, staged := (ai.upTo t0).staged, recorder := (ai.upTo t0).recorder, crossings := (ai.upTo t0).crossings, carried := (ai.upTo t0).carried, resyncs := (ai.upTo t0).resyncs, line := (ai.upTo t0).line, treads := (ai.upTo t0).treads, hall := (ai.upTo t0).hall, tasks := (ai.upTo t0).tasks, plans := (ai.upTo t0).plans, loops := (ai.upTo t0).loops, dsp := (ai.upTo t0).dsp, field := (ai.upTo t0).field, net := (ai.upTo t0).net, cans := (ai.upTo t0).cans, pair := (ai.upTo t0).pair, nvm := (ai.upTo t0).nvm, sup := (ai.upTo t0).sup, fuses := (ai.upTo t0).fuses : State } else ai.upTo t0).aioCfg 0 8 * 1000 / max 1 ((if ai.field.aioAt = some (coreClock (max ai.now t0)) then { pending := (ai.upTo t0).pending, now := (ai.upTo t0).now, bootAt := (ai.upTo t0).bootAt, fresh := (ai.upTo t0).fresh, outbox := (ai.upTo t0).outbox, mode := (ai.upTo t0).mode, inReset := (ai.upTo t0).inReset, clock := (ai.upTo t0).clock, params := ai.field.aioWas, staged := (ai.upTo t0).staged, recorder := (ai.upTo t0).recorder, crossings := (ai.upTo t0).crossings, carried := (ai.upTo t0).carried, resyncs := (ai.upTo t0).resyncs, line := (ai.upTo t0).line, treads := (ai.upTo t0).treads, hall := (ai.upTo t0).hall, tasks := (ai.upTo t0).tasks, plans := (ai.upTo t0).plans, loops := (ai.upTo t0).loops, dsp := (ai.upTo t0).dsp, field := (ai.upTo t0).field, net := (ai.upTo t0).net, cans := (ai.upTo t0).cans, pair := (ai.upTo t0).pair, nvm := (ai.upTo t0).nvm, sup := (ai.upTo t0).sup, fuses := (ai.upTo t0).fuses : State } else ai.upTo t0).aioCfg 0 7))) ((↑1000000 : Rat) / 1000000 :: (a0 ai).samples)).sum / (↑(List.take (max 1 ((if ai.field.aioAt = some (coreClock (max ai.now t0)) then { pending := (ai.upTo t0).pending, now := (ai.upTo t0).now, bootAt := (ai.upTo t0).bootAt, fresh := (ai.upTo t0).fresh, outbox := (ai.upTo t0).outbox, mode := (ai.upTo t0).mode, inReset := (ai.upTo t0).inReset, clock := (ai.upTo t0).clock, params := ai.field.aioWas, staged := (ai.upTo t0).staged, recorder := (ai.upTo t0).recorder, crossings := (ai.upTo t0).crossings, carried := (ai.upTo t0).carried, resyncs := (ai.upTo t0).resyncs, line := (ai.upTo t0).line, treads := (ai.upTo t0).treads, hall := (ai.upTo t0).hall, tasks := (ai.upTo t0).tasks, plans := (ai.upTo t0).plans, loops := (ai.upTo t0).loops, dsp := (ai.upTo t0).dsp, field := (ai.upTo t0).field, net := (ai.upTo t0).net, cans := (ai.upTo t0).cans, pair := (ai.upTo t0).pair, nvm := (ai.upTo t0).nvm, sup := (ai.upTo t0).sup, fuses := (ai.upTo t0).fuses : State } else ai.upTo t0).aioCfg 0 8 * 1000 / max 1 ((if ai.field.aioAt = some (coreClock (max ai.now t0)) then { pending := (ai.upTo t0).pending, now := (ai.upTo t0).now, bootAt := (ai.upTo t0).bootAt, fresh := (ai.upTo t0).fresh, outbox := (ai.upTo t0).outbox, mode := (ai.upTo t0).mode, inReset := (ai.upTo t0).inReset, clock := (ai.upTo t0).clock, params := ai.field.aioWas, staged := (ai.upTo t0).staged, recorder := (ai.upTo t0).recorder, crossings := (ai.upTo t0).crossings, carried := (ai.upTo t0).carried, resyncs := (ai.upTo t0).resyncs, line := (ai.upTo t0).line, treads := (ai.upTo t0).treads, hall := (ai.upTo t0).hall, tasks := (ai.upTo t0).tasks, plans := (ai.upTo t0).plans, loops := (ai.upTo t0).loops, dsp := (ai.upTo t0).dsp, field := (ai.upTo t0).field, net := (ai.upTo t0).net, cans := (ai.upTo t0).cans, pair := (ai.upTo t0).pair, nvm := (ai.upTo t0).nvm, sup := (ai.upTo t0).sup, fuses := (ai.upTo t0).fuses : State } else ai.upTo t0).aioCfg 0 7))) ((↑1000000 : Rat) / 1000000 :: (a0 ai).samples)).length : Rat)) < 37 / 10) else decide (rnd64 ((List.take (max 1 ((if ai.field.aioAt = some (coreClock (max ai.now t0)) then { pending := (ai.upTo t0).pending, now := (ai.upTo t0).now, bootAt := (ai.upTo t0).bootAt, fresh := (ai.upTo t0).fresh, outbox := (ai.upTo t0).outbox, mode := (ai.upTo t0).mode, inReset := (ai.upTo t0).inReset, clock := (ai.upTo t0).clock, params := ai.field.aioWas, staged := (ai.upTo t0).staged, recorder := (ai.upTo t0).recorder, crossings := (ai.upTo t0).crossings, carried := (ai.upTo t0).carried, resyncs := (ai.upTo t0).resyncs, line := (ai.upTo t0).line, treads := (ai.upTo t0).treads, hall := (ai.upTo t0).hall, tasks := (ai.upTo t0).tasks, plans := (ai.upTo t0).plans, loops := (ai.upTo t0).loops, dsp := (ai.upTo t0).dsp, field := (ai.upTo t0).field, net := (ai.upTo t0).net, cans := (ai.upTo t0).cans, pair := (ai.upTo t0).pair, nvm := (ai.upTo t0).nvm, sup := (ai.upTo t0).sup, fuses := (ai.upTo t0).fuses : State } else ai.upTo t0).aioCfg 0 8 * 1000 / max 1 ((if ai.field.aioAt = some (coreClock (max ai.now t0)) then { pending := (ai.upTo t0).pending, now := (ai.upTo t0).now, bootAt := (ai.upTo t0).bootAt, fresh := (ai.upTo t0).fresh, outbox := (ai.upTo t0).outbox, mode := (ai.upTo t0).mode, inReset := (ai.upTo t0).inReset, clock := (ai.upTo t0).clock, params := ai.field.aioWas, staged := (ai.upTo t0).staged, recorder := (ai.upTo t0).recorder, crossings := (ai.upTo t0).crossings, carried := (ai.upTo t0).carried, resyncs := (ai.upTo t0).resyncs, line := (ai.upTo t0).line, treads := (ai.upTo t0).treads, hall := (ai.upTo t0).hall, tasks := (ai.upTo t0).tasks, plans := (ai.upTo t0).plans, loops := (ai.upTo t0).loops, dsp := (ai.upTo t0).dsp, field := (ai.upTo t0).field, net := (ai.upTo t0).net, cans := (ai.upTo t0).cans, pair := (ai.upTo t0).pair, nvm := (ai.upTo t0).nvm, sup := (ai.upTo t0).sup, fuses := (ai.upTo t0).fuses : State } else ai.upTo t0).aioCfg 0 7))) ((↑1000000 : Rat) / 1000000 :: (a0 ai).samples)).sum / (↑(List.take (max 1 ((if ai.field.aioAt = some (coreClock (max ai.now t0)) then { pending := (ai.upTo t0).pending, now := (ai.upTo t0).now, bootAt := (ai.upTo t0).bootAt, fresh := (ai.upTo t0).fresh, outbox := (ai.upTo t0).outbox, mode := (ai.upTo t0).mode, inReset := (ai.upTo t0).inReset, clock := (ai.upTo t0).clock, params := ai.field.aioWas, staged := (ai.upTo t0).staged, recorder := (ai.upTo t0).recorder, crossings := (ai.upTo t0).crossings, carried := (ai.upTo t0).carried, resyncs := (ai.upTo t0).resyncs, line := (ai.upTo t0).line, treads := (ai.upTo t0).treads, hall := (ai.upTo t0).hall, tasks := (ai.upTo t0).tasks, plans := (ai.upTo t0).plans, loops := (ai.upTo t0).loops, dsp := (ai.upTo t0).dsp, field := (ai.upTo t0).field, net := (ai.upTo t0).net, cans := (ai.upTo t0).cans, pair := (ai.upTo t0).pair, nvm := (ai.upTo t0).nvm, sup := (ai.upTo t0).sup, fuses := (ai.upTo t0).fuses : State } else ai.upTo t0).aioCfg 0 8 * 1000 / max 1 ((if ai.field.aioAt = some (coreClock (max ai.now t0)) then { pending := (ai.upTo t0).pending, now := (ai.upTo t0).now, bootAt := (ai.upTo t0).bootAt, fresh := (ai.upTo t0).fresh, outbox := (ai.upTo t0).outbox, mode := (ai.upTo t0).mode, inReset := (ai.upTo t0).inReset, clock := (ai.upTo t0).clock, params := ai.field.aioWas, staged := (ai.upTo t0).staged, recorder := (ai.upTo t0).recorder, crossings := (ai.upTo t0).crossings, carried := (ai.upTo t0).carried, resyncs := (ai.upTo t0).resyncs, line := (ai.upTo t0).line, treads := (ai.upTo t0).treads, hall := (ai.upTo t0).hall, tasks := (ai.upTo t0).tasks, plans := (ai.upTo t0).plans, loops := (ai.upTo t0).loops, dsp := (ai.upTo t0).dsp, field := (ai.upTo t0).field, net := (ai.upTo t0).net, cans := (ai.upTo t0).cans, pair := (ai.upTo t0).pair, nvm := (ai.upTo t0).nvm, sup := (ai.upTo t0).sup, fuses := (ai.upTo t0).fuses : State } else ai.upTo t0).aioCfg 0 7))) ((↑1000000 : Rat) / 1000000 :: (a0 ai).samples)).length : Rat)) < 36 / 10)) || if (a0 ai).above = true then decide (209 / 10 < rnd64 ((List.take (max 1 ((if ai.field.aioAt = some (coreClock (max ai.now t0)) then { pending := (ai.upTo t0).pending, now := (ai.upTo t0).now, bootAt := (ai.upTo t0).bootAt, fresh := (ai.upTo t0).fresh, outbox := (ai.upTo t0).outbox, mode := (ai.upTo t0).mode, inReset := (ai.upTo t0).inReset, clock := (ai.upTo t0).clock, params := ai.field.aioWas, staged := (ai.upTo t0).staged, recorder := (ai.upTo t0).recorder, crossings := (ai.upTo t0).crossings, carried := (ai.upTo t0).carried, resyncs := (ai.upTo t0).resyncs, line := (ai.upTo t0).line, treads := (ai.upTo t0).treads, hall := (ai.upTo t0).hall, tasks := (ai.upTo t0).tasks, plans := (ai.upTo t0).plans, loops := (ai.upTo t0).loops, dsp := (ai.upTo t0).dsp, field := (ai.upTo t0).field, net := (ai.upTo t0).net, cans := (ai.upTo t0).cans, pair := (ai.upTo t0).pair, nvm := (ai.upTo t0).nvm, sup := (ai.upTo t0).sup, fuses := (ai.upTo t0).fuses : State } else ai.upTo t0).aioCfg 0 8 * 1000 / max 1 ((if ai.field.aioAt = some (coreClock (max ai.now t0)) then { pending := (ai.upTo t0).pending, now := (ai.upTo t0).now, bootAt := (ai.upTo t0).bootAt, fresh := (ai.upTo t0).fresh, outbox := (ai.upTo t0).outbox, mode := (ai.upTo t0).mode, inReset := (ai.upTo t0).inReset, clock := (ai.upTo t0).clock, params := ai.field.aioWas, staged := (ai.upTo t0).staged, recorder := (ai.upTo t0).recorder, crossings := (ai.upTo t0).crossings, carried := (ai.upTo t0).carried, resyncs := (ai.upTo t0).resyncs, line := (ai.upTo t0).line, treads := (ai.upTo t0).treads, hall := (ai.upTo t0).hall, tasks := (ai.upTo t0).tasks, plans := (ai.upTo t0).plans, loops := (ai.upTo t0).loops, dsp := (ai.upTo t0).dsp, field := (ai.upTo t0).field, net := (ai.upTo t0).net, cans := (ai.upTo t0).cans, pair := (ai.upTo t0).pair, nvm := (ai.upTo t0).nvm, sup := (ai.upTo t0).sup, fuses := (ai.upTo t0).fuses : State } else ai.upTo t0).aioCfg 0 7))) ((↑1000000 : Rat) / 1000000 :: (a0 ai).samples)).sum / (↑(List.take (max 1 ((if ai.field.aioAt = some (coreClock (max ai.now t0)) then { pending := (ai.upTo t0).pending, now := (ai.upTo t0).now, bootAt := (ai.upTo t0).bootAt, fresh := (ai.upTo t0).fresh, outbox := (ai.upTo t0).outbox, mode := (ai.upTo t0).mode, inReset := (ai.upTo t0).inReset, clock := (ai.upTo t0).clock, params := ai.field.aioWas, staged := (ai.upTo t0).staged, recorder := (ai.upTo t0).recorder, crossings := (ai.upTo t0).crossings, carried := (ai.upTo t0).carried, resyncs := (ai.upTo t0).resyncs, line := (ai.upTo t0).line, treads := (ai.upTo t0).treads, hall := (ai.upTo t0).hall, tasks := (ai.upTo t0).tasks, plans := (ai.upTo t0).plans, loops := (ai.upTo t0).loops, dsp := (ai.upTo t0).dsp, field := (ai.upTo t0).field, net := (ai.upTo t0).net, cans := (ai.upTo t0).cans, pair := (ai.upTo t0).pair, nvm := (ai.upTo t0).nvm, sup := (ai.upTo t0).sup, fuses := (ai.upTo t0).fuses : State } else ai.upTo t0).aioCfg 0 8 * 1000 / max 1 ((if ai.field.aioAt = some (coreClock (max ai.now t0)) then { pending := (ai.upTo t0).pending, now := (ai.upTo t0).now, bootAt := (ai.upTo t0).bootAt, fresh := (ai.upTo t0).fresh, outbox := (ai.upTo t0).outbox, mode := (ai.upTo t0).mode, inReset := (ai.upTo t0).inReset, clock := (ai.upTo t0).clock, params := ai.field.aioWas, staged := (ai.upTo t0).staged, recorder := (ai.upTo t0).recorder, crossings := (ai.upTo t0).crossings, carried := (ai.upTo t0).carried, resyncs := (ai.upTo t0).resyncs, line := (ai.upTo t0).line, treads := (ai.upTo t0).treads, hall := (ai.upTo t0).hall, tasks := (ai.upTo t0).tasks, plans := (ai.upTo t0).plans, loops := (ai.upTo t0).loops, dsp := (ai.upTo t0).dsp, field := (ai.upTo t0).field, net := (ai.upTo t0).net, cans := (ai.upTo t0).cans, pair := (ai.upTo t0).pair, nvm := (ai.upTo t0).nvm, sup := (ai.upTo t0).sup, fuses := (ai.upTo t0).fuses : State } else ai.upTo t0).aioCfg 0 7))) ((↑1000000 : Rat) / 1000000 :: (a0 ai).samples)).length : Rat))) else decide (21 < rnd64 ((List.take (max 1 ((if ai.field.aioAt = some (coreClock (max ai.now t0)) then { pending := (ai.upTo t0).pending, now := (ai.upTo t0).now, bootAt := (ai.upTo t0).bootAt, fresh := (ai.upTo t0).fresh, outbox := (ai.upTo t0).outbox, mode := (ai.upTo t0).mode, inReset := (ai.upTo t0).inReset, clock := (ai.upTo t0).clock, params := ai.field.aioWas, staged := (ai.upTo t0).staged, recorder := (ai.upTo t0).recorder, crossings := (ai.upTo t0).crossings, carried := (ai.upTo t0).carried, resyncs := (ai.upTo t0).resyncs, line := (ai.upTo t0).line, treads := (ai.upTo t0).treads, hall := (ai.upTo t0).hall, tasks := (ai.upTo t0).tasks, plans := (ai.upTo t0).plans, loops := (ai.upTo t0).loops, dsp := (ai.upTo t0).dsp, field := (ai.upTo t0).field, net := (ai.upTo t0).net, cans := (ai.upTo t0).cans, pair := (ai.upTo t0).pair, nvm := (ai.upTo t0).nvm, sup := (ai.upTo t0).sup, fuses := (ai.upTo t0).fuses : State } else ai.upTo t0).aioCfg 0 8 * 1000 / max 1 ((if ai.field.aioAt = some (coreClock (max ai.now t0)) then { pending := (ai.upTo t0).pending, now := (ai.upTo t0).now, bootAt := (ai.upTo t0).bootAt, fresh := (ai.upTo t0).fresh, outbox := (ai.upTo t0).outbox, mode := (ai.upTo t0).mode, inReset := (ai.upTo t0).inReset, clock := (ai.upTo t0).clock, params := ai.field.aioWas, staged := (ai.upTo t0).staged, recorder := (ai.upTo t0).recorder, crossings := (ai.upTo t0).crossings, carried := (ai.upTo t0).carried, resyncs := (ai.upTo t0).resyncs, line := (ai.upTo t0).line, treads := (ai.upTo t0).treads, hall := (ai.upTo t0).hall, tasks := (ai.upTo t0).tasks, plans := (ai.upTo t0).plans, loops := (ai.upTo t0).loops, dsp := (ai.upTo t0).dsp, field := (ai.upTo t0).field, net := (ai.upTo t0).net, cans := (ai.upTo t0).cans, pair := (ai.upTo t0).pair, nvm := (ai.upTo t0).nvm, sup := (ai.upTo t0).sup, fuses := (ai.upTo t0).fuses : State } else ai.upTo t0).aioCfg 0 7))) ((↑1000000 : Rat) / 1000000 :: (a0 ai).samples)).sum / (↑(List.take (max 1 ((if ai.field.aioAt = some (coreClock (max ai.now t0)) then { pending := (ai.upTo t0).pending, now := (ai.upTo t0).now, bootAt := (ai.upTo t0).bootAt, fresh := (ai.upTo t0).fresh, outbox := (ai.upTo t0).outbox, mode := (ai.upTo t0).mode, inReset := (ai.upTo t0).inReset, clock := (ai.upTo t0).clock, params := ai.field.aioWas, staged := (ai.upTo t0).staged, recorder := (ai.upTo t0).recorder, crossings := (ai.upTo t0).crossings, carried := (ai.upTo t0).carried, resyncs := (ai.upTo t0).resyncs, line := (ai.upTo t0).line, treads := (ai.upTo t0).treads, hall := (ai.upTo t0).hall, tasks := (ai.upTo t0).tasks, plans := (ai.upTo t0).plans, loops := (ai.upTo t0).loops, dsp := (ai.upTo t0).dsp, field := (ai.upTo t0).field, net := (ai.upTo t0).net, cans := (ai.upTo t0).cans, pair := (ai.upTo t0).pair, nvm := (ai.upTo t0).nvm, sup := (ai.upTo t0).sup, fuses := (ai.upTo t0).fuses : State } else ai.upTo t0).aioCfg 0 8 * 1000 / max 1 ((if ai.field.aioAt = some (coreClock (max ai.now t0)) then { pending := (ai.upTo t0).pending, now := (ai.upTo t0).now, bootAt := (ai.upTo t0).bootAt, fresh := (ai.upTo t0).fresh, outbox := (ai.upTo t0).outbox, mode := (ai.upTo t0).mode, inReset := (ai.upTo t0).inReset, clock := (ai.upTo t0).clock, params := ai.field.aioWas, staged := (ai.upTo t0).staged, recorder := (ai.upTo t0).recorder, crossings := (ai.upTo t0).crossings, carried := (ai.upTo t0).carried, resyncs := (ai.upTo t0).resyncs, line := (ai.upTo t0).line, treads := (ai.upTo t0).treads, hall := (ai.upTo t0).hall, tasks := (ai.upTo t0).tasks, plans := (ai.upTo t0).plans, loops := (ai.upTo t0).loops, dsp := (ai.upTo t0).dsp, field := (ai.upTo t0).field, net := (ai.upTo t0).net, cans := (ai.upTo t0).cans, pair := (ai.upTo t0).pair, nvm := (ai.upTo t0).nvm, sup := (ai.upTo t0).sup, fuses := (ai.upTo t0).fuses : State } else ai.upTo t0).aioCfg 0 7))) ((↑1000000 : Rat) / 1000000 :: (a0 ai).samples)).length : Rat)))) = true ∧ (if ai.field.aioAt = some (coreClock (max ai.now t0)) then { pending := (ai.upTo t0).pending, now := (ai.upTo t0).now, bootAt := (ai.upTo t0).bootAt, fresh := (ai.upTo t0).fresh, outbox := (ai.upTo t0).outbox, mode := (ai.upTo t0).mode, inReset := (ai.upTo t0).inReset, clock := (ai.upTo t0).clock, params := ai.field.aioWas, staged := (ai.upTo t0).staged, recorder := (ai.upTo t0).recorder, crossings := (ai.upTo t0).crossings, carried := (ai.upTo t0).carried, resyncs := (ai.upTo t0).resyncs, line := (ai.upTo t0).line, treads := (ai.upTo t0).treads, hall := (ai.upTo t0).hall, tasks := (ai.upTo t0).tasks, plans := (ai.upTo t0).plans, loops := (ai.upTo t0).loops, dsp := (ai.upTo t0).dsp, field := (ai.upTo t0).field, net := (ai.upTo t0).net, cans := (ai.upTo t0).cans, pair := (ai.upTo t0).pair, nvm := (ai.upTo t0).nvm, sup := (ai.upTo t0).sup, fuses := (ai.upTo t0).fuses : State } else ai.upTo t0).aioCfg 0 9 = 0) :=
  by decide +kernel

/-- The clauses of AnalogueChannelsMeasure, continued. -/
theorem witness_AnalogueChannelsMeasure_3 :
    (0 < 8 ∧ (cf ai [(9984, 9, 1)]).field.aio[0]? = some (a0 ai) ∧ (cf ai [(9984, 9, 1)]).live = true ∧ (cf ai [(9984, 9, 1)]).aioCfg 0 1 = 1
          ∧ (cf ai [(9984, 9, 1)]).base ≠ Mode.standby ∧ (a0 ai).surgeEnd = none
          ∧ ((if (a0 ai).under = true then decide (rnd64 ((List.take (max 1 ((if (cf ai [(9984, 9,
          1)]).field.aioAt = some (coreClock (max (cf ai [(9984, 9,
          1)]).now t0)) then
          { pending := ((cf ai [(9984, 9, 1)]).upTo t0).pending, now := ((cf ai [(9984, 9, 1)]).upTo t0).now, bootAt := ((cf ai [(9984, 9, 1)]).upTo t0).bootAt, fresh := ((cf ai [(9984, 9, 1)]).upTo t0).fresh, outbox := ((cf ai [(9984, 9, 1)]).upTo t0).outbox, mode := ((cf ai [(9984, 9, 1)]).upTo t0).mode, inReset := ((cf ai [(9984, 9, 1)]).upTo t0).inReset, clock := ((cf ai [(9984, 9, 1)]).upTo t0).clock, params := (cf ai [(9984, 9, 1)]).field.aioWas, staged := ((cf ai [(9984, 9, 1)]).upTo t0).staged, recorder := ((cf ai [(9984, 9, 1)]).upTo t0).recorder, crossings := ((cf ai [(9984, 9, 1)]).upTo t0).crossings, carried := ((cf ai [(9984, 9, 1)]).upTo t0).carried, resyncs := ((cf ai [(9984, 9, 1)]).upTo t0).resyncs, line := ((cf ai [(9984, 9, 1)]).upTo t0).line, treads := ((cf ai [(9984, 9, 1)]).upTo t0).treads, hall := ((cf ai [(9984, 9, 1)]).upTo t0).hall, tasks := ((cf ai [(9984, 9, 1)]).upTo t0).tasks, plans := ((cf ai [(9984, 9, 1)]).upTo t0).plans, loops := ((cf ai [(9984, 9, 1)]).upTo t0).loops, dsp := ((cf ai [(9984, 9, 1)]).upTo t0).dsp, field := ((cf ai [(9984, 9, 1)]).upTo t0).field, net := ((cf ai [(9984, 9, 1)]).upTo t0).net, cans := ((cf ai [(9984, 9, 1)]).upTo t0).cans, pair := ((cf ai [(9984, 9, 1)]).upTo t0).pair, nvm := ((cf ai [(9984, 9, 1)]).upTo t0).nvm, sup := ((cf ai [(9984, 9, 1)]).upTo t0).sup, fuses := ((cf ai [(9984, 9, 1)]).upTo t0).fuses : State } else (cf ai [(9984, 9, 1)]).upTo t0).aioCfg 0 8 * 1000 / max 1 ((if (cf ai [(9984, 9, 1)]).field.aioAt = some (coreClock (max (cf ai [(9984, 9, 1)]).now t0)) then { pending := ((cf ai [(9984, 9, 1)]).upTo t0).pending, now := ((cf ai [(9984, 9, 1)]).upTo t0).now, bootAt := ((cf ai [(9984, 9, 1)]).upTo t0).bootAt, fresh := ((cf ai [(9984, 9, 1)]).upTo t0).fresh, outbox := ((cf ai [(9984, 9, 1)]).upTo t0).outbox, mode := ((cf ai [(9984, 9, 1)]).upTo t0).mode, inReset := ((cf ai [(9984, 9, 1)]).upTo t0).inReset, clock := ((cf ai [(9984, 9, 1)]).upTo t0).clock, params := (cf ai [(9984, 9, 1)]).field.aioWas, staged := ((cf ai [(9984, 9, 1)]).upTo t0).staged, recorder := ((cf ai [(9984, 9, 1)]).upTo t0).recorder, crossings := ((cf ai [(9984, 9, 1)]).upTo t0).crossings, carried := ((cf ai [(9984, 9, 1)]).upTo t0).carried, resyncs := ((cf ai [(9984, 9, 1)]).upTo t0).resyncs, line := ((cf ai [(9984, 9, 1)]).upTo t0).line, treads := ((cf ai [(9984, 9, 1)]).upTo t0).treads, hall := ((cf ai [(9984, 9, 1)]).upTo t0).hall, tasks := ((cf ai [(9984, 9, 1)]).upTo t0).tasks, plans := ((cf ai [(9984, 9, 1)]).upTo t0).plans, loops := ((cf ai [(9984, 9, 1)]).upTo t0).loops, dsp := ((cf ai [(9984, 9, 1)]).upTo t0).dsp, field := ((cf ai [(9984, 9, 1)]).upTo t0).field, net := ((cf ai [(9984, 9, 1)]).upTo t0).net, cans := ((cf ai [(9984, 9, 1)]).upTo t0).cans, pair := ((cf ai [(9984, 9, 1)]).upTo t0).pair, nvm := ((cf ai [(9984, 9, 1)]).upTo t0).nvm, sup := ((cf ai [(9984, 9, 1)]).upTo t0).sup, fuses := ((cf ai [(9984, 9, 1)]).upTo t0).fuses : State } else (cf ai [(9984, 9, 1)]).upTo t0).aioCfg 0 7))) ((↑22000000 : Rat) / 1000000 :: (a0 ai).samples)).sum / (↑(List.take (max 1 ((if (cf ai [(9984, 9, 1)]).field.aioAt = some (coreClock (max (cf ai [(9984, 9, 1)]).now t0)) then { pending := ((cf ai [(9984, 9, 1)]).upTo t0).pending, now := ((cf ai [(9984, 9, 1)]).upTo t0).now, bootAt := ((cf ai [(9984, 9, 1)]).upTo t0).bootAt, fresh := ((cf ai [(9984, 9, 1)]).upTo t0).fresh, outbox := ((cf ai [(9984, 9, 1)]).upTo t0).outbox, mode := ((cf ai [(9984, 9, 1)]).upTo t0).mode, inReset := ((cf ai [(9984, 9, 1)]).upTo t0).inReset, clock := ((cf ai [(9984, 9, 1)]).upTo t0).clock, params := (cf ai [(9984, 9, 1)]).field.aioWas, staged := ((cf ai [(9984, 9, 1)]).upTo t0).staged, recorder := ((cf ai [(9984, 9, 1)]).upTo t0).recorder, crossings := ((cf ai [(9984, 9, 1)]).upTo t0).crossings, carried := ((cf ai [(9984, 9, 1)]).upTo t0).carried, resyncs := ((cf ai [(9984, 9, 1)]).upTo t0).resyncs, line := ((cf ai [(9984, 9, 1)]).upTo t0).line, treads := ((cf ai [(9984, 9, 1)]).upTo t0).treads, hall := ((cf ai [(9984, 9, 1)]).upTo t0).hall, tasks := ((cf ai [(9984, 9, 1)]).upTo t0).tasks, plans := ((cf ai [(9984, 9, 1)]).upTo t0).plans, loops := ((cf ai [(9984, 9, 1)]).upTo t0).loops, dsp := ((cf ai [(9984, 9, 1)]).upTo t0).dsp, field := ((cf ai [(9984, 9, 1)]).upTo t0).field, net := ((cf ai [(9984, 9, 1)]).upTo t0).net, cans := ((cf ai [(9984, 9, 1)]).upTo t0).cans, pair := ((cf ai [(9984, 9, 1)]).upTo t0).pair, nvm := ((cf ai [(9984, 9, 1)]).upTo t0).nvm, sup := ((cf ai [(9984, 9, 1)]).upTo t0).sup, fuses := ((cf ai [(9984, 9, 1)]).upTo t0).fuses : State } else (cf ai [(9984, 9, 1)]).upTo t0).aioCfg 0 8 * 1000 / max 1 ((if (cf ai [(9984, 9, 1)]).field.aioAt = some (coreClock (max (cf ai [(9984, 9, 1)]).now t0)) then { pending := ((cf ai [(9984, 9, 1)]).upTo t0).pending, now := ((cf ai [(9984, 9, 1)]).upTo t0).now, bootAt := ((cf ai [(9984, 9, 1)]).upTo t0).bootAt, fresh := ((cf ai [(9984, 9, 1)]).upTo t0).fresh, outbox := ((cf ai [(9984, 9, 1)]).upTo t0).outbox, mode := ((cf ai [(9984, 9, 1)]).upTo t0).mode, inReset := ((cf ai [(9984, 9, 1)]).upTo t0).inReset, clock := ((cf ai [(9984, 9, 1)]).upTo t0).clock, params := (cf ai [(9984, 9, 1)]).field.aioWas, staged := ((cf ai [(9984, 9, 1)]).upTo t0).staged, recorder := ((cf ai [(9984, 9, 1)]).upTo t0).recorder, crossings := ((cf ai [(9984, 9, 1)]).upTo t0).crossings, carried := ((cf ai [(9984, 9, 1)]).upTo t0).carried, resyncs := ((cf ai [(9984, 9, 1)]).upTo t0).resyncs, line := ((cf ai [(9984, 9, 1)]).upTo t0).line, treads := ((cf ai [(9984, 9, 1)]).upTo t0).treads, hall := ((cf ai [(9984, 9, 1)]).upTo t0).hall, tasks := ((cf ai [(9984, 9, 1)]).upTo t0).tasks, plans := ((cf ai [(9984, 9, 1)]).upTo t0).plans, loops := ((cf ai [(9984, 9, 1)]).upTo t0).loops, dsp := ((cf ai [(9984, 9, 1)]).upTo t0).dsp, field := ((cf ai [(9984, 9, 1)]).upTo t0).field, net := ((cf ai [(9984, 9, 1)]).upTo t0).net, cans := ((cf ai [(9984, 9, 1)]).upTo t0).cans, pair := ((cf ai [(9984, 9, 1)]).upTo t0).pair, nvm := ((cf ai [(9984, 9, 1)]).upTo t0).nvm, sup := ((cf ai [(9984, 9, 1)]).upTo t0).sup, fuses := ((cf ai [(9984, 9, 1)]).upTo t0).fuses : State } else (cf ai [(9984, 9, 1)]).upTo t0).aioCfg 0 7))) ((↑22000000 : Rat) / 1000000 :: (a0 ai).samples)).length : Rat)) < 37 / 10) else decide (rnd64 ((List.take (max 1 ((if (cf ai [(9984, 9, 1)]).field.aioAt = some (coreClock (max (cf ai [(9984, 9, 1)]).now t0)) then { pending := ((cf ai [(9984, 9, 1)]).upTo t0).pending, now := ((cf ai [(9984, 9, 1)]).upTo t0).now, bootAt := ((cf ai [(9984, 9, 1)]).upTo t0).bootAt, fresh := ((cf ai [(9984, 9, 1)]).upTo t0).fresh, outbox := ((cf ai [(9984, 9, 1)]).upTo t0).outbox, mode := ((cf ai [(9984, 9, 1)]).upTo t0).mode, inReset := ((cf ai [(9984, 9, 1)]).upTo t0).inReset, clock := ((cf ai [(9984, 9, 1)]).upTo t0).clock, params := (cf ai [(9984, 9, 1)]).field.aioWas, staged := ((cf ai [(9984, 9, 1)]).upTo t0).staged, recorder := ((cf ai [(9984, 9, 1)]).upTo t0).recorder, crossings := ((cf ai [(9984, 9, 1)]).upTo t0).crossings, carried := ((cf ai [(9984, 9, 1)]).upTo t0).carried, resyncs := ((cf ai [(9984, 9, 1)]).upTo t0).resyncs, line := ((cf ai [(9984, 9, 1)]).upTo t0).line, treads := ((cf ai [(9984, 9, 1)]).upTo t0).treads, hall := ((cf ai [(9984, 9, 1)]).upTo t0).hall, tasks := ((cf ai [(9984, 9, 1)]).upTo t0).tasks, plans := ((cf ai [(9984, 9, 1)]).upTo t0).plans, loops := ((cf ai [(9984, 9, 1)]).upTo t0).loops, dsp := ((cf ai [(9984, 9, 1)]).upTo t0).dsp, field := ((cf ai [(9984, 9, 1)]).upTo t0).field, net := ((cf ai [(9984, 9, 1)]).upTo t0).net, cans := ((cf ai [(9984, 9, 1)]).upTo t0).cans, pair := ((cf ai [(9984, 9, 1)]).upTo t0).pair, nvm := ((cf ai [(9984, 9, 1)]).upTo t0).nvm, sup := ((cf ai [(9984, 9, 1)]).upTo t0).sup, fuses := ((cf ai [(9984, 9, 1)]).upTo t0).fuses : State } else (cf ai [(9984, 9, 1)]).upTo t0).aioCfg 0 8 * 1000 / max 1 ((if (cf ai [(9984, 9, 1)]).field.aioAt = some (coreClock (max (cf ai [(9984, 9, 1)]).now t0)) then { pending := ((cf ai [(9984, 9, 1)]).upTo t0).pending, now := ((cf ai [(9984, 9, 1)]).upTo t0).now, bootAt := ((cf ai [(9984, 9, 1)]).upTo t0).bootAt, fresh := ((cf ai [(9984, 9, 1)]).upTo t0).fresh, outbox := ((cf ai [(9984, 9, 1)]).upTo t0).outbox, mode := ((cf ai [(9984, 9, 1)]).upTo t0).mode, inReset := ((cf ai [(9984, 9, 1)]).upTo t0).inReset, clock := ((cf ai [(9984, 9, 1)]).upTo t0).clock, params := (cf ai [(9984, 9, 1)]).field.aioWas, staged := ((cf ai [(9984, 9, 1)]).upTo t0).staged, recorder := ((cf ai [(9984, 9, 1)]).upTo t0).recorder, crossings := ((cf ai [(9984, 9, 1)]).upTo t0).crossings, carried := ((cf ai [(9984, 9, 1)]).upTo t0).carried, resyncs := ((cf ai [(9984, 9, 1)]).upTo t0).resyncs, line := ((cf ai [(9984, 9, 1)]).upTo t0).line, treads := ((cf ai [(9984, 9, 1)]).upTo t0).treads, hall := ((cf ai [(9984, 9, 1)]).upTo t0).hall, tasks := ((cf ai [(9984, 9, 1)]).upTo t0).tasks, plans := ((cf ai [(9984, 9, 1)]).upTo t0).plans, loops := ((cf ai [(9984, 9, 1)]).upTo t0).loops, dsp := ((cf ai [(9984, 9, 1)]).upTo t0).dsp, field := ((cf ai [(9984, 9, 1)]).upTo t0).field, net := ((cf ai [(9984, 9, 1)]).upTo t0).net, cans := ((cf ai [(9984, 9, 1)]).upTo t0).cans, pair := ((cf ai [(9984, 9, 1)]).upTo t0).pair, nvm := ((cf ai [(9984, 9, 1)]).upTo t0).nvm, sup := ((cf ai [(9984, 9, 1)]).upTo t0).sup, fuses := ((cf ai [(9984, 9, 1)]).upTo t0).fuses : State } else (cf ai [(9984, 9, 1)]).upTo t0).aioCfg 0 7))) ((↑22000000 : Rat) / 1000000 :: (a0 ai).samples)).sum / (↑(List.take (max 1 ((if (cf ai [(9984, 9, 1)]).field.aioAt = some (coreClock (max (cf ai [(9984, 9, 1)]).now t0)) then { pending := ((cf ai [(9984, 9, 1)]).upTo t0).pending, now := ((cf ai [(9984, 9, 1)]).upTo t0).now, bootAt := ((cf ai [(9984, 9, 1)]).upTo t0).bootAt, fresh := ((cf ai [(9984, 9, 1)]).upTo t0).fresh, outbox := ((cf ai [(9984, 9, 1)]).upTo t0).outbox, mode := ((cf ai [(9984, 9, 1)]).upTo t0).mode, inReset := ((cf ai [(9984, 9, 1)]).upTo t0).inReset, clock := ((cf ai [(9984, 9, 1)]).upTo t0).clock, params := (cf ai [(9984, 9, 1)]).field.aioWas, staged := ((cf ai [(9984, 9, 1)]).upTo t0).staged, recorder := ((cf ai [(9984, 9, 1)]).upTo t0).recorder, crossings := ((cf ai [(9984, 9, 1)]).upTo t0).crossings, carried := ((cf ai [(9984, 9, 1)]).upTo t0).carried, resyncs := ((cf ai [(9984, 9, 1)]).upTo t0).resyncs, line := ((cf ai [(9984, 9, 1)]).upTo t0).line, treads := ((cf ai [(9984, 9, 1)]).upTo t0).treads, hall := ((cf ai [(9984, 9, 1)]).upTo t0).hall, tasks := ((cf ai [(9984, 9, 1)]).upTo t0).tasks, plans := ((cf ai [(9984, 9, 1)]).upTo t0).plans, loops := ((cf ai [(9984, 9, 1)]).upTo t0).loops, dsp := ((cf ai [(9984, 9, 1)]).upTo t0).dsp, field := ((cf ai [(9984, 9, 1)]).upTo t0).field, net := ((cf ai [(9984, 9, 1)]).upTo t0).net, cans := ((cf ai [(9984, 9, 1)]).upTo t0).cans, pair := ((cf ai [(9984, 9, 1)]).upTo t0).pair, nvm := ((cf ai [(9984, 9, 1)]).upTo t0).nvm, sup := ((cf ai [(9984, 9, 1)]).upTo t0).sup, fuses := ((cf ai [(9984, 9, 1)]).upTo t0).fuses : State } else (cf ai [(9984, 9, 1)]).upTo t0).aioCfg 0 8 * 1000 / max 1 ((if (cf ai [(9984, 9, 1)]).field.aioAt = some (coreClock (max (cf ai [(9984, 9, 1)]).now t0)) then { pending := ((cf ai [(9984, 9, 1)]).upTo t0).pending, now := ((cf ai [(9984, 9, 1)]).upTo t0).now, bootAt := ((cf ai [(9984, 9, 1)]).upTo t0).bootAt, fresh := ((cf ai [(9984, 9, 1)]).upTo t0).fresh, outbox := ((cf ai [(9984, 9, 1)]).upTo t0).outbox, mode := ((cf ai [(9984, 9, 1)]).upTo t0).mode, inReset := ((cf ai [(9984, 9, 1)]).upTo t0).inReset, clock := ((cf ai [(9984, 9, 1)]).upTo t0).clock, params := (cf ai [(9984, 9, 1)]).field.aioWas, staged := ((cf ai [(9984, 9, 1)]).upTo t0).staged, recorder := ((cf ai [(9984, 9, 1)]).upTo t0).recorder, crossings := ((cf ai [(9984, 9, 1)]).upTo t0).crossings, carried := ((cf ai [(9984, 9, 1)]).upTo t0).carried, resyncs := ((cf ai [(9984, 9, 1)]).upTo t0).resyncs, line := ((cf ai [(9984, 9, 1)]).upTo t0).line, treads := ((cf ai [(9984, 9, 1)]).upTo t0).treads, hall := ((cf ai [(9984, 9, 1)]).upTo t0).hall, tasks := ((cf ai [(9984, 9, 1)]).upTo t0).tasks, plans := ((cf ai [(9984, 9, 1)]).upTo t0).plans, loops := ((cf ai [(9984, 9, 1)]).upTo t0).loops, dsp := ((cf ai [(9984, 9, 1)]).upTo t0).dsp, field := ((cf ai [(9984, 9, 1)]).upTo t0).field, net := ((cf ai [(9984, 9, 1)]).upTo t0).net, cans := ((cf ai [(9984, 9, 1)]).upTo t0).cans, pair := ((cf ai [(9984, 9, 1)]).upTo t0).pair, nvm := ((cf ai [(9984, 9, 1)]).upTo t0).nvm, sup := ((cf ai [(9984, 9, 1)]).upTo t0).sup, fuses := ((cf ai [(9984, 9, 1)]).upTo t0).fuses : State } else (cf ai [(9984, 9, 1)]).upTo t0).aioCfg 0 7))) ((↑22000000 : Rat) / 1000000 :: (a0 ai).samples)).length : Rat)) < 36 / 10)) || if (a0 ai).above = true then decide (209 / 10 < rnd64 ((List.take (max 1 ((if (cf ai [(9984, 9, 1)]).field.aioAt = some (coreClock (max (cf ai [(9984, 9, 1)]).now t0)) then { pending := ((cf ai [(9984, 9, 1)]).upTo t0).pending, now := ((cf ai [(9984, 9, 1)]).upTo t0).now, bootAt := ((cf ai [(9984, 9, 1)]).upTo t0).bootAt, fresh := ((cf ai [(9984, 9, 1)]).upTo t0).fresh, outbox := ((cf ai [(9984, 9, 1)]).upTo t0).outbox, mode := ((cf ai [(9984, 9, 1)]).upTo t0).mode, inReset := ((cf ai [(9984, 9, 1)]).upTo t0).inReset, clock := ((cf ai [(9984, 9, 1)]).upTo t0).clock, params := (cf ai [(9984, 9, 1)]).field.aioWas, staged := ((cf ai [(9984, 9, 1)]).upTo t0).staged, recorder := ((cf ai [(9984, 9, 1)]).upTo t0).recorder, crossings := ((cf ai [(9984, 9, 1)]).upTo t0).crossings, carried := ((cf ai [(9984, 9, 1)]).upTo t0).carried, resyncs := ((cf ai [(9984, 9, 1)]).upTo t0).resyncs, line := ((cf ai [(9984, 9, 1)]).upTo t0).line, treads := ((cf ai [(9984, 9, 1)]).upTo t0).treads, hall := ((cf ai [(9984, 9, 1)]).upTo t0).hall, tasks := ((cf ai [(9984, 9, 1)]).upTo t0).tasks, plans := ((cf ai [(9984, 9, 1)]).upTo t0).plans, loops := ((cf ai [(9984, 9, 1)]).upTo t0).loops, dsp := ((cf ai [(9984, 9, 1)]).upTo t0).dsp, field := ((cf ai [(9984, 9, 1)]).upTo t0).field, net := ((cf ai [(9984, 9, 1)]).upTo t0).net, cans := ((cf ai [(9984, 9, 1)]).upTo t0).cans, pair := ((cf ai [(9984, 9, 1)]).upTo t0).pair, nvm := ((cf ai [(9984, 9, 1)]).upTo t0).nvm, sup := ((cf ai [(9984, 9, 1)]).upTo t0).sup, fuses := ((cf ai [(9984, 9, 1)]).upTo t0).fuses : State } else (cf ai [(9984, 9, 1)]).upTo t0).aioCfg 0 8 * 1000 / max 1 ((if (cf ai [(9984, 9, 1)]).field.aioAt = some (coreClock (max (cf ai [(9984, 9, 1)]).now t0)) then { pending := ((cf ai [(9984, 9, 1)]).upTo t0).pending, now := ((cf ai [(9984, 9, 1)]).upTo t0).now, bootAt := ((cf ai [(9984, 9, 1)]).upTo t0).bootAt, fresh := ((cf ai [(9984, 9, 1)]).upTo t0).fresh, outbox := ((cf ai [(9984, 9, 1)]).upTo t0).outbox, mode := ((cf ai [(9984, 9, 1)]).upTo t0).mode, inReset := ((cf ai [(9984, 9, 1)]).upTo t0).inReset, clock := ((cf ai [(9984, 9, 1)]).upTo t0).clock, params := (cf ai [(9984, 9, 1)]).field.aioWas, staged := ((cf ai [(9984, 9, 1)]).upTo t0).staged, recorder := ((cf ai [(9984, 9, 1)]).upTo t0).recorder, crossings := ((cf ai [(9984, 9, 1)]).upTo t0).crossings, carried := ((cf ai [(9984, 9, 1)]).upTo t0).carried, resyncs := ((cf ai [(9984, 9, 1)]).upTo t0).resyncs, line := ((cf ai [(9984, 9, 1)]).upTo t0).line, treads := ((cf ai [(9984, 9, 1)]).upTo t0).treads, hall := ((cf ai [(9984, 9, 1)]).upTo t0).hall, tasks := ((cf ai [(9984, 9, 1)]).upTo t0).tasks, plans := ((cf ai [(9984, 9, 1)]).upTo t0).plans, loops := ((cf ai [(9984, 9, 1)]).upTo t0).loops, dsp := ((cf ai [(9984, 9, 1)]).upTo t0).dsp, field := ((cf ai [(9984, 9, 1)]).upTo t0).field, net := ((cf ai [(9984, 9, 1)]).upTo t0).net, cans := ((cf ai [(9984, 9, 1)]).upTo t0).cans, pair := ((cf ai [(9984, 9, 1)]).upTo t0).pair, nvm := ((cf ai [(9984, 9, 1)]).upTo t0).nvm, sup := ((cf ai [(9984, 9, 1)]).upTo t0).sup, fuses := ((cf ai [(9984, 9, 1)]).upTo t0).fuses : State } else (cf ai [(9984, 9, 1)]).upTo t0).aioCfg 0 7))) ((↑22000000 : Rat) / 1000000 :: (a0 ai).samples)).sum / (↑(List.take (max 1 ((if (cf ai [(9984, 9, 1)]).field.aioAt = some (coreClock (max (cf ai [(9984, 9, 1)]).now t0)) then { pending := ((cf ai [(9984, 9, 1)]).upTo t0).pending, now := ((cf ai [(9984, 9, 1)]).upTo t0).now, bootAt := ((cf ai [(9984, 9, 1)]).upTo t0).bootAt, fresh := ((cf ai [(9984, 9, 1)]).upTo t0).fresh, outbox := ((cf ai [(9984, 9, 1)]).upTo t0).outbox, mode := ((cf ai [(9984, 9, 1)]).upTo t0).mode, inReset := ((cf ai [(9984, 9, 1)]).upTo t0).inReset, clock := ((cf ai [(9984, 9, 1)]).upTo t0).clock, params := (cf ai [(9984, 9, 1)]).field.aioWas, staged := ((cf ai [(9984, 9, 1)]).upTo t0).staged, recorder := ((cf ai [(9984, 9, 1)]).upTo t0).recorder, crossings := ((cf ai [(9984, 9, 1)]).upTo t0).crossings, carried := ((cf ai [(9984, 9, 1)]).upTo t0).carried, resyncs := ((cf ai [(9984, 9, 1)]).upTo t0).resyncs, line := ((cf ai [(9984, 9, 1)]).upTo t0).line, treads := ((cf ai [(9984, 9, 1)]).upTo t0).treads, hall := ((cf ai [(9984, 9, 1)]).upTo t0).hall, tasks := ((cf ai [(9984, 9, 1)]).upTo t0).tasks, plans := ((cf ai [(9984, 9, 1)]).upTo t0).plans, loops := ((cf ai [(9984, 9, 1)]).upTo t0).loops, dsp := ((cf ai [(9984, 9, 1)]).upTo t0).dsp, field := ((cf ai [(9984, 9, 1)]).upTo t0).field, net := ((cf ai [(9984, 9, 1)]).upTo t0).net, cans := ((cf ai [(9984, 9, 1)]).upTo t0).cans, pair := ((cf ai [(9984, 9, 1)]).upTo t0).pair, nvm := ((cf ai [(9984, 9, 1)]).upTo t0).nvm, sup := ((cf ai [(9984, 9, 1)]).upTo t0).sup, fuses := ((cf ai [(9984, 9, 1)]).upTo t0).fuses : State } else (cf ai [(9984, 9, 1)]).upTo t0).aioCfg 0 8 * 1000 / max 1 ((if (cf ai [(9984, 9, 1)]).field.aioAt = some (coreClock (max (cf ai [(9984, 9, 1)]).now t0)) then { pending := ((cf ai [(9984, 9, 1)]).upTo t0).pending, now := ((cf ai [(9984, 9, 1)]).upTo t0).now, bootAt := ((cf ai [(9984, 9, 1)]).upTo t0).bootAt, fresh := ((cf ai [(9984, 9, 1)]).upTo t0).fresh, outbox := ((cf ai [(9984, 9, 1)]).upTo t0).outbox, mode := ((cf ai [(9984, 9, 1)]).upTo t0).mode, inReset := ((cf ai [(9984, 9, 1)]).upTo t0).inReset, clock := ((cf ai [(9984, 9, 1)]).upTo t0).clock, params := (cf ai [(9984, 9, 1)]).field.aioWas, staged := ((cf ai [(9984, 9, 1)]).upTo t0).staged, recorder := ((cf ai [(9984, 9, 1)]).upTo t0).recorder, crossings := ((cf ai [(9984, 9, 1)]).upTo t0).crossings, carried := ((cf ai [(9984, 9, 1)]).upTo t0).carried, resyncs := ((cf ai [(9984, 9, 1)]).upTo t0).resyncs, line := ((cf ai [(9984, 9, 1)]).upTo t0).line, treads := ((cf ai [(9984, 9, 1)]).upTo t0).treads, hall := ((cf ai [(9984, 9, 1)]).upTo t0).hall, tasks := ((cf ai [(9984, 9, 1)]).upTo t0).tasks, plans := ((cf ai [(9984, 9, 1)]).upTo t0).plans, loops := ((cf ai [(9984, 9, 1)]).upTo t0).loops, dsp := ((cf ai [(9984, 9, 1)]).upTo t0).dsp, field := ((cf ai [(9984, 9, 1)]).upTo t0).field, net := ((cf ai [(9984, 9, 1)]).upTo t0).net, cans := ((cf ai [(9984, 9, 1)]).upTo t0).cans, pair := ((cf ai [(9984, 9, 1)]).upTo t0).pair, nvm := ((cf ai [(9984, 9, 1)]).upTo t0).nvm, sup := ((cf ai [(9984, 9, 1)]).upTo t0).sup, fuses := ((cf ai [(9984, 9, 1)]).upTo t0).fuses : State } else (cf ai [(9984, 9, 1)]).upTo t0).aioCfg 0 7))) ((↑22000000 : Rat) / 1000000 :: (a0 ai).samples)).length : Rat))) else decide (21 < rnd64 ((List.take (max 1 ((if (cf ai [(9984, 9, 1)]).field.aioAt = some (coreClock (max (cf ai [(9984, 9, 1)]).now t0)) then { pending := ((cf ai [(9984, 9, 1)]).upTo t0).pending, now := ((cf ai [(9984, 9, 1)]).upTo t0).now, bootAt := ((cf ai [(9984, 9, 1)]).upTo t0).bootAt, fresh := ((cf ai [(9984, 9, 1)]).upTo t0).fresh, outbox := ((cf ai [(9984, 9, 1)]).upTo t0).outbox, mode := ((cf ai [(9984, 9, 1)]).upTo t0).mode, inReset := ((cf ai [(9984, 9, 1)]).upTo t0).inReset, clock := ((cf ai [(9984, 9, 1)]).upTo t0).clock, params := (cf ai [(9984, 9, 1)]).field.aioWas, staged := ((cf ai [(9984, 9, 1)]).upTo t0).staged, recorder := ((cf ai [(9984, 9, 1)]).upTo t0).recorder, crossings := ((cf ai [(9984, 9, 1)]).upTo t0).crossings, carried := ((cf ai [(9984, 9, 1)]).upTo t0).carried, resyncs := ((cf ai [(9984, 9, 1)]).upTo t0).resyncs, line := ((cf ai [(9984, 9, 1)]).upTo t0).line, treads := ((cf ai [(9984, 9, 1)]).upTo t0).treads, hall := ((cf ai [(9984, 9, 1)]).upTo t0).hall, tasks := ((cf ai [(9984, 9, 1)]).upTo t0).tasks, plans := ((cf ai [(9984, 9, 1)]).upTo t0).plans, loops := ((cf ai [(9984, 9, 1)]).upTo t0).loops, dsp := ((cf ai [(9984, 9, 1)]).upTo t0).dsp, field := ((cf ai [(9984, 9, 1)]).upTo t0).field, net := ((cf ai [(9984, 9, 1)]).upTo t0).net, cans := ((cf ai [(9984, 9, 1)]).upTo t0).cans, pair := ((cf ai [(9984, 9, 1)]).upTo t0).pair, nvm := ((cf ai [(9984, 9, 1)]).upTo t0).nvm, sup := ((cf ai [(9984, 9, 1)]).upTo t0).sup, fuses := ((cf ai [(9984, 9, 1)]).upTo t0).fuses : State } else (cf ai [(9984, 9, 1)]).upTo t0).aioCfg 0 8 * 1000 / max 1 ((if (cf ai [(9984, 9, 1)]).field.aioAt = some (coreClock (max (cf ai [(9984, 9, 1)]).now t0)) then { pending := ((cf ai [(9984, 9, 1)]).upTo t0).pending, now := ((cf ai [(9984, 9, 1)]).upTo t0).now, bootAt := ((cf ai [(9984, 9, 1)]).upTo t0).bootAt, fresh := ((cf ai [(9984, 9, 1)]).upTo t0).fresh, outbox := ((cf ai [(9984, 9, 1)]).upTo t0).outbox, mode := ((cf ai [(9984, 9, 1)]).upTo t0).mode, inReset := ((cf ai [(9984, 9, 1)]).upTo t0).inReset, clock := ((cf ai [(9984, 9, 1)]).upTo t0).clock, params := (cf ai [(9984, 9, 1)]).field.aioWas, staged := ((cf ai [(9984, 9, 1)]).upTo t0).staged, recorder := ((cf ai [(9984, 9, 1)]).upTo t0).recorder, crossings := ((cf ai [(9984, 9, 1)]).upTo t0).crossings, carried := ((cf ai [(9984, 9, 1)]).upTo t0).carried, resyncs := ((cf ai [(9984, 9, 1)]).upTo t0).resyncs, line := ((cf ai [(9984, 9, 1)]).upTo t0).line, treads := ((cf ai [(9984, 9, 1)]).upTo t0).treads, hall := ((cf ai [(9984, 9, 1)]).upTo t0).hall, tasks := ((cf ai [(9984, 9, 1)]).upTo t0).tasks, plans := ((cf ai [(9984, 9, 1)]).upTo t0).plans, loops := ((cf ai [(9984, 9, 1)]).upTo t0).loops, dsp := ((cf ai [(9984, 9, 1)]).upTo t0).dsp, field := ((cf ai [(9984, 9, 1)]).upTo t0).field, net := ((cf ai [(9984, 9, 1)]).upTo t0).net, cans := ((cf ai [(9984, 9, 1)]).upTo t0).cans, pair := ((cf ai [(9984, 9, 1)]).upTo t0).pair, nvm := ((cf ai [(9984, 9, 1)]).upTo t0).nvm, sup := ((cf ai [(9984, 9, 1)]).upTo t0).sup, fuses := ((cf ai [(9984, 9, 1)]).upTo t0).fuses : State } else (cf ai [(9984, 9, 1)]).upTo t0).aioCfg 0 7))) ((↑22000000 : Rat) / 1000000 :: (a0 ai).samples)).sum / (↑(List.take (max 1 ((if (cf ai [(9984, 9, 1)]).field.aioAt = some (coreClock (max (cf ai [(9984, 9, 1)]).now t0)) then { pending := ((cf ai [(9984, 9, 1)]).upTo t0).pending, now := ((cf ai [(9984, 9, 1)]).upTo t0).now, bootAt := ((cf ai [(9984, 9, 1)]).upTo t0).bootAt, fresh := ((cf ai [(9984, 9, 1)]).upTo t0).fresh, outbox := ((cf ai [(9984, 9, 1)]).upTo t0).outbox, mode := ((cf ai [(9984, 9, 1)]).upTo t0).mode, inReset := ((cf ai [(9984, 9, 1)]).upTo t0).inReset, clock := ((cf ai [(9984, 9, 1)]).upTo t0).clock, params := (cf ai [(9984, 9, 1)]).field.aioWas, staged := ((cf ai [(9984, 9, 1)]).upTo t0).staged, recorder := ((cf ai [(9984, 9, 1)]).upTo t0).recorder, crossings := ((cf ai [(9984, 9, 1)]).upTo t0).crossings, carried := ((cf ai [(9984, 9, 1)]).upTo t0).carried, resyncs := ((cf ai [(9984, 9, 1)]).upTo t0).resyncs, line := ((cf ai [(9984, 9, 1)]).upTo t0).line, treads := ((cf ai [(9984, 9, 1)]).upTo t0).treads, hall := ((cf ai [(9984, 9, 1)]).upTo t0).hall, tasks := ((cf ai [(9984, 9, 1)]).upTo t0).tasks, plans := ((cf ai [(9984, 9, 1)]).upTo t0).plans, loops := ((cf ai [(9984, 9, 1)]).upTo t0).loops, dsp := ((cf ai [(9984, 9, 1)]).upTo t0).dsp, field := ((cf ai [(9984, 9, 1)]).upTo t0).field, net := ((cf ai [(9984, 9, 1)]).upTo t0).net, cans := ((cf ai [(9984, 9, 1)]).upTo t0).cans, pair := ((cf ai [(9984, 9, 1)]).upTo t0).pair, nvm := ((cf ai [(9984, 9, 1)]).upTo t0).nvm, sup := ((cf ai [(9984, 9, 1)]).upTo t0).sup, fuses := ((cf ai [(9984, 9, 1)]).upTo t0).fuses : State } else (cf ai [(9984, 9, 1)]).upTo t0).aioCfg 0 8 * 1000 / max 1 ((if (cf ai [(9984, 9, 1)]).field.aioAt = some (coreClock (max (cf ai [(9984, 9, 1)]).now t0)) then { pending := ((cf ai [(9984, 9, 1)]).upTo t0).pending, now := ((cf ai [(9984, 9, 1)]).upTo t0).now, bootAt := ((cf ai [(9984, 9, 1)]).upTo t0).bootAt, fresh := ((cf ai [(9984, 9, 1)]).upTo t0).fresh, outbox := ((cf ai [(9984, 9, 1)]).upTo t0).outbox, mode := ((cf ai [(9984, 9, 1)]).upTo t0).mode, inReset := ((cf ai [(9984, 9, 1)]).upTo t0).inReset, clock := ((cf ai [(9984, 9, 1)]).upTo t0).clock, params := (cf ai [(9984, 9, 1)]).field.aioWas, staged := ((cf ai [(9984, 9, 1)]).upTo t0).staged, recorder := ((cf ai [(9984, 9, 1)]).upTo t0).recorder, crossings := ((cf ai [(9984, 9, 1)]).upTo t0).crossings, carried := ((cf ai [(9984, 9, 1)]).upTo t0).carried, resyncs := ((cf ai [(9984, 9, 1)]).upTo t0).resyncs, line := ((cf ai [(9984, 9, 1)]).upTo t0).line, treads := ((cf ai [(9984, 9, 1)]).upTo t0).treads, hall := ((cf ai [(9984, 9, 1)]).upTo t0).hall, tasks := ((cf ai [(9984, 9, 1)]).upTo t0).tasks, plans := ((cf ai [(9984, 9, 1)]).upTo t0).plans, loops := ((cf ai [(9984, 9, 1)]).upTo t0).loops, dsp := ((cf ai [(9984, 9, 1)]).upTo t0).dsp, field := ((cf ai [(9984, 9, 1)]).upTo t0).field, net := ((cf ai [(9984, 9, 1)]).upTo t0).net, cans := ((cf ai [(9984, 9, 1)]).upTo t0).cans, pair := ((cf ai [(9984, 9, 1)]).upTo t0).pair, nvm := ((cf ai [(9984, 9, 1)]).upTo t0).nvm, sup := ((cf ai [(9984, 9, 1)]).upTo t0).sup, fuses := ((cf ai [(9984, 9, 1)]).upTo t0).fuses : State } else (cf ai [(9984, 9, 1)]).upTo t0).aioCfg 0 7))) ((↑22000000 : Rat) / 1000000 :: (a0 ai).samples)).length : Rat)))) = true ∧ (if (cf ai [(9984, 9, 1)]).field.aioAt = some (coreClock (max (cf ai [(9984, 9, 1)]).now t0)) then { pending := ((cf ai [(9984, 9, 1)]).upTo t0).pending, now := ((cf ai [(9984, 9, 1)]).upTo t0).now, bootAt := ((cf ai [(9984, 9, 1)]).upTo t0).bootAt, fresh := ((cf ai [(9984, 9, 1)]).upTo t0).fresh, outbox := ((cf ai [(9984, 9, 1)]).upTo t0).outbox, mode := ((cf ai [(9984, 9, 1)]).upTo t0).mode, inReset := ((cf ai [(9984, 9, 1)]).upTo t0).inReset, clock := ((cf ai [(9984, 9, 1)]).upTo t0).clock, params := (cf ai [(9984, 9, 1)]).field.aioWas, staged := ((cf ai [(9984, 9, 1)]).upTo t0).staged, recorder := ((cf ai [(9984, 9, 1)]).upTo t0).recorder, crossings := ((cf ai [(9984, 9, 1)]).upTo t0).crossings, carried := ((cf ai [(9984, 9, 1)]).upTo t0).carried, resyncs := ((cf ai [(9984, 9, 1)]).upTo t0).resyncs, line := ((cf ai [(9984, 9, 1)]).upTo t0).line, treads := ((cf ai [(9984, 9, 1)]).upTo t0).treads, hall := ((cf ai [(9984, 9, 1)]).upTo t0).hall, tasks := ((cf ai [(9984, 9, 1)]).upTo t0).tasks, plans := ((cf ai [(9984, 9, 1)]).upTo t0).plans, loops := ((cf ai [(9984, 9, 1)]).upTo t0).loops, dsp := ((cf ai [(9984, 9, 1)]).upTo t0).dsp, field := ((cf ai [(9984, 9, 1)]).upTo t0).field, net := ((cf ai [(9984, 9, 1)]).upTo t0).net, cans := ((cf ai [(9984, 9, 1)]).upTo t0).cans, pair := ((cf ai [(9984, 9, 1)]).upTo t0).pair, nvm := ((cf ai [(9984, 9, 1)]).upTo t0).nvm, sup := ((cf ai [(9984, 9, 1)]).upTo t0).sup, fuses := ((cf ai [(9984, 9, 1)]).upTo t0).fuses : State } else (cf ai [(9984, 9, 1)]).upTo t0).aioCfg 0 9 = 1 ∧ pointNone ((if (cf ai [(9984, 9, 1)]).field.aioAt = some (coreClock (max (cf ai [(9984, 9, 1)]).now t0)) then { pending := ((cf ai [(9984, 9, 1)]).upTo t0).pending, now := ((cf ai [(9984, 9, 1)]).upTo t0).now, bootAt := ((cf ai [(9984, 9, 1)]).upTo t0).bootAt, fresh := ((cf ai [(9984, 9, 1)]).upTo t0).fresh, outbox := ((cf ai [(9984, 9, 1)]).upTo t0).outbox, mode := ((cf ai [(9984, 9, 1)]).upTo t0).mode, inReset := ((cf ai [(9984, 9, 1)]).upTo t0).inReset, clock := ((cf ai [(9984, 9, 1)]).upTo t0).clock, params := (cf ai [(9984, 9, 1)]).field.aioWas, staged := ((cf ai [(9984, 9, 1)]).upTo t0).staged, recorder := ((cf ai [(9984, 9, 1)]).upTo t0).recorder, crossings := ((cf ai [(9984, 9, 1)]).upTo t0).crossings, carried := ((cf ai [(9984, 9, 1)]).upTo t0).carried, resyncs := ((cf ai [(9984, 9, 1)]).upTo t0).resyncs, line := ((cf ai [(9984, 9, 1)]).upTo t0).line, treads := ((cf ai [(9984, 9, 1)]).upTo t0).treads, hall := ((cf ai [(9984, 9, 1)]).upTo t0).hall, tasks := ((cf ai [(9984, 9, 1)]).upTo t0).tasks, plans := ((cf ai [(9984, 9, 1)]).upTo t0).plans, loops := ((cf ai [(9984, 9, 1)]).upTo t0).loops, dsp := ((cf ai [(9984, 9, 1)]).upTo t0).dsp, field := ((cf ai [(9984, 9, 1)]).upTo t0).field, net := ((cf ai [(9984, 9, 1)]).upTo t0).net, cans := ((cf ai [(9984, 9, 1)]).upTo t0).cans, pair := ((cf ai [(9984, 9, 1)]).upTo t0).pair, nvm := ((cf ai [(9984, 9, 1)]).upTo t0).nvm, sup := ((cf ai [(9984, 9, 1)]).upTo t0).sup, fuses := ((cf ai [(9984, 9, 1)]).upTo t0).fuses : State } else (cf ai [(9984, 9, 1)]).upTo t0).aioCfg 0 17) = false) :=
  by decide +kernel

/-- The clauses of AnalogueChannelsMeasure, continued. -/
theorem witness_AnalogueChannelsMeasure_4 :
    (0 < 8 ∧ as.field.aio[0]? = some (a0 as) ∧ as.live = true ∧ as.aioCfg 0 1 = 1 ∧ as.base ≠ Mode.standby ∧ (a0 as).surgeEnd ≠ none)
    ∧ (0 < 8 ∧ ao.field.aio[0]? = some (a0 ao) ∧ ao.live = true ∧ ao.aioCfg 0 1 = 2 ∧ (¬((a0 ao).ramping = true ∨ (a0 ao).surgeEnd ≠ none
          ∨ settlingIn (max ao.now t0) (ao.aioF 0 15) (a0 ao).history = true))
          ∧ absRat ((↑10000000 : Rat) / 1000000 - (a0 ao).current) ≤ ao.aioF 0 15)
    ∧ (0 < 8 ∧ ao.field.aio[0]? = some (a0 ao) ∧ ao.live = true ∧ ao.aioCfg 0 1 = 2 ∧ (¬((a0 ao).ramping = true ∨ (a0 ao).surgeEnd ≠ none
          ∨ settlingIn (max ao.now t0) (ao.aioF 0 15) (a0 ao).history = true)) ∧ ao.aioF 0 15 < absRat ((↑1000000 : Rat) / 1000000 - (a0 ao).current))
    ∧ (0 < 8 ∧ ao.field.aio[0]? = some (a0 ao) ∧ ao.live = true ∧ ao.aioCfg 0 1 = 2 ∧ (a0 ao).trimAt + 10000000000 ≤ max ao.now t0)
    ∧ (0 < 8 ∧ (onl ao).field.aio[0]? = some (a0 ao) ∧ ((onl ao).upTo t0).granted o1 0 (9984 + 0) 24 (leBytes 1 2) = true)
    ∧ (0 < 8 ∧ (onl ao).field.aio[0]? = some (a0 ao) ∧ ((onl ao).upTo t0).granted o1 0 (9984 + 0) 24 (leBytes 1 1) = true)
    ∧ (0 < 8 ∧ ao.field.aio[0]? = some (a0 ao) ∧ ao.live = true ∧ ao.aioCfg 0 1 ≠ 0 ∧ (a0 ao).surgeEnd = none
          ∧ if ao.aioCfg 0 1 = 2 then 400 < 500 else 400 < 12000)
    ∧ (0 < 8 ∧ ao.field.aio[0]? = some (a0 ao) ∧ ao.live = true ∧ ao.aioCfg 0 1 ≠ 0 ∧ (a0 ao).surgeEnd = none
          ∧ if ao.aioCfg 0 1 = 2 then 1000 ≤ 4000 else 12500 ≤ 4000 ∧ ¬if ao.aioCfg 0 1 = 2 then 4000 < 500 else 4000 < 12000) :=
  by refine ⟨?_, ?_, ?_, ?_, ?_, ?_, ?_, ?_⟩ <;> decide +kernel

/-- The clauses of AnalogueChannelsMeasure, continued. -/
theorem witness_AnalogueChannelsMeasure_5 :
    (0 < 8 ∧ ai.field.aio[0]? = some (a0 ai) ∧ ai.live = true ∧ ai.aioCfg 0 1 ≠ 0 ∧ (a0 ai).surgeEnd = none
          ∧ if ai.aioCfg 0 1 = 2 then 400 < 500 else 400 < 12000)
    ∧ (0 < 8 ∧ ai.field.aio[0]? = some (a0 ai) ∧ ai.live = true)
    ∧ (0 < 8 ∧ as.field.aio[0]? = some (a0 as) ∧ (a0 as).surgeEnd = some 5 ∧ 5 ≤ max as.now t0) :=
  by refine ⟨?_, ?_, ?_⟩ <;> decide +kernel

/-- The clauses of ModemsCarryMessages. -/
theorem witness_ModemsCarryMessages :
    (0 < 8 ∧ fk.field.aio[0]? = some (a0 fk) ∧ fk.live = true ∧ fk.fskHead 0 = some fm ∧ fk.aioCfg 0 14 ≠ 0
          ∧ (if 120 ≤ 50 then true else if 50 < 80 then false else (a0 fk).carrier) = false ∧ 10 ≤ 11 ∧ (a0 fk).sending = false
          ∧ fk.base ≠ Mode.standby)
    ∧ (0 < 8 ∧ fk.field.aio[0]? = some (a0 fk) ∧ fk.live = true ∧ fk.fskHead 0 = some fm ∧ fk.aioCfg 0 14 ≠ 0
          ∧ ((if 120 ≤ 150 then true else if 150 < 80 then false else (a0 fk).carrier) = true ∨ 11 < 10 ∨ (a0 fk).sending = true
          ∨ fk.base = Mode.standby))
    ∧ (0 < 8 ∧ fs.field.aio[0]? = some (a0 fs) ∧ fs.live = true ∧ (a0 fs).sending = true)
    ∧ (0 < 8 ∧ fs.field.aio[0]? = some (a0 fs) ∧ fs.live = true ∧ fs.aioCfg 0 14 ≠ 0) :=
  by refine ⟨?_, ?_, ?_, ?_⟩ <;> decide +kernel

end Sys2Proof.Tests.FieldIo
end

