-- ==== Sys2Proof/Tests/Flights.lean ====
section
/-! SUPPORT. Witnesses for the statements on Flights, trigger channels and heads: for each clause of a statement,
      a state and operands that meet its hypotheses together. -/
set_option Elab.async false
namespace Sys2Proof.Tests.Flights
open Sys2Proof.Machine Sys2Proof.Tests.Samples

def flS : State := (cf (onl sr0) [(0x2180,1,0),(0x2182,1,2),(0x2184,1,1)]) where
  sr0 : State := (cf quad [(0x2040,2,1)]).updSrc 0 fun r => { r with enabled := true, active := 1, valid := true, homed := true, lpc := 50 }
def tw (pos rep pitch act opnd : Nat) : BitVec 128 := BitVec.ofNat 128 (pos + pitch * 2^64 + rep * 2^96 + act * 2^114 + opnd * 2^117)
def fw : State := { flS with treads := { flS.treads with words := [(0, tw 100 3 10 0 0),(1, tw 500 0 0 0 0)] } }
def st (x : FlState) : State := fw.updFlight 0 fun f => { f with state := x }
def run1 : State := ((st .running).updTsrc 0 fun r => { r with running := some 0, window := [⟨0,0,100,0⟩], nextIn := 1 })
def trgS (f : Trg → Trg) : State := (cf live [(0x2110,1,1),(0x2110,2,1)]).updTrg 0 f
def tr (f : Trg → Trg) : Trg := (trgS f).treads.trgs.getD 0 default
def f1 : Trg → Trg := fun x => { x with edges := [⟨5,0,100,2⟩,⟨10000000101,0,100,2⟩] }
def f2 : Trg → Trg := fun x => { x with pulseEnd := some 7, level := true }
def f3 : Trg → Trg := fun x => { x with idleWait := true }
def f4 : Trg → Trg := fun x => { x with edges := [⟨70000001000,0,100,2⟩], changedAt := 70000000000 - 5 }
def lo (act opnd : Nat) (pos : Nat): State :=
  ({ (cf run1 [(0x2100,1,1)]).updSrc 0 (fun r => { r with x := 50 * 2^32 }) with treads := { run1.treads with words := [(0, tw pos 3 10 act opnd)] } }).updTsrc 0 fun r => { r with window := [⟨0,0,BitVec.ofNat 64 pos,0⟩]}
def lr : TreadSrc := (((lo 0 0 50).upTo t0).fillNow 0).tsrc 0
def lt := (cf (lo 1 (3+16*2) 50) [(0x2122,1,0),(0x2122,2,500),(0x2122,3,70),(0x2113,4,30)])
def ltr : TreadSrc := ((lt.upTo t0).fillNow 0).tsrc 0

/-- The clauses of LineFaultsFaultTheInput. -/
theorem witness_LineFaultsFaultTheInput :
    (0 < 8 ∧ quad.line.encs[0]? = some (enc quad 0) ∧ quad.base ≠ Mode.standby ∧ quad.clear t0 ∧ quad.live = true ∧ 1 < 3
          ∧ bitAt (quad.pairsInUse 0) 1 = true ∧ (∀ (r : Src), r ∈ quad.line.srcs → r.enabled = false)) :=
  by decide +kernel

/-- The clauses of FlightCommandsMoveTheFlight. -/
theorem witness_FlightCommandsMoveTheFlight :
    (0 < 256 ∧ fw.treads.flights[0]? = some (fw.flight 0) ∧ (∀ (a : Nat × Nat × Nat), a ∈ fw.tasks.armf
          → posClock (max fw.now t0) < posClock a.snd.snd) ∧ (fw.upTo t0).granted o1 0 (8588 + 0 / 128) (0 % 128 + 1) (leBytes 1 1) = true
          ∧ ({ state := (fw.flight 0).state, anchor := (fw.flight 0).anchor, done := (fw.flight 0).done, late := (fw.flight 0).late, missed := (fw.flight 0).missed, skipped := (fw.flight 0).skipped, lastRun := (fw.flight 0).lastRun, skips := (fw.flight 0).skips, cmdAt := some (posClock (max fw.now t0)), before := (fw.upTo t0).flStateAtWrite 0 : Flight }.state = FlState.idle ∨ { state := (fw.flight 0).state, anchor := (fw.flight 0).anchor, done := (fw.flight 0).done, late := (fw.flight 0).late, missed := (fw.flight 0).missed, skipped := (fw.flight 0).skipped, lastRun := (fw.flight 0).lastRun, skips := (fw.flight 0).skips, cmdAt := some (posClock (max fw.now t0)), before := (fw.upTo t0).flStateAtWrite 0 : Flight }.state = FlState.done) ∧ fw.flLength 0 ≠ 0 ∧ fw.flAnchor 0 ≠ 0) :=
  by decide +kernel

/-- The clauses of FlightCommandsMoveTheFlight, continued. -/
theorem witness_FlightCommandsMoveTheFlight_2 :
    (0 < 256 ∧ (st FlState.armed).treads.flights[0]? = some ((st FlState.armed).flight 0)
          ∧ (∀ (a : Nat × Nat × Nat), a ∈ (st FlState.armed).tasks.armf → posClock (max (st FlState.armed).now t0) < posClock a.snd.snd)
          ∧ ((st FlState.armed).upTo t0).granted o1 0 (8588 + 0 / 128) (0 % 128 + 1) (leBytes 1 2) = true
          ∧ { state := ((st FlState.armed).flight 0).state, anchor := ((st FlState.armed).flight 0).anchor, done := ((st FlState.armed).flight 0).done, late := ((st FlState.armed).flight 0).late, missed := ((st FlState.armed).flight 0).missed, skipped := ((st FlState.armed).flight 0).skipped, lastRun := ((st FlState.armed).flight 0).lastRun, skips := ((st FlState.armed).flight 0).skips, cmdAt := some (posClock (max (st FlState.armed).now t0)), before := ((st FlState.armed).upTo t0).flStateAtWrite 0 : Flight }.state = FlState.armed) :=
  by decide +kernel

/-- The clauses of FlightCommandsMoveTheFlight, continued. -/
theorem witness_FlightCommandsMoveTheFlight_3 :
    (0 < 256 ∧ (st FlState.running).treads.flights[0]? = some ((st FlState.running).flight 0)
          ∧ (∀ (a : Nat × Nat × Nat), a ∈ (st FlState.running).tasks.armf → posClock (max (st FlState.running).now t0) < posClock a.snd.snd)
          ∧ ((st FlState.running).upTo t0).granted o1 0 (8588 + 0 / 128) (0 % 128 + 1) (leBytes 1 2) = true
          ∧ { state := ((st FlState.running).flight 0).state, anchor := ((st FlState.running).flight 0).anchor, done := ((st FlState.running).flight 0).done, late := ((st FlState.running).flight 0).late, missed := ((st FlState.running).flight 0).missed, skipped := ((st FlState.running).flight 0).skipped, lastRun := ((st FlState.running).flight 0).lastRun, skips := ((st FlState.running).flight 0).skips, cmdAt := some (posClock (max (st FlState.running).now t0)), before := ((st FlState.running).upTo t0).flStateAtWrite 0 : Flight }.state = FlState.running) :=
  by decide +kernel

/-- The clauses of FlightCommandsMoveTheFlight, continued. -/
theorem witness_FlightCommandsMoveTheFlight_4 :
    (0 < 256 ∧ run1.treads.flights[0]? = some (run1.flight 0) ∧ (∀ (a : Nat × Nat × Nat), a ∈ run1.tasks.armf
          → posClock (max run1.now t0) < posClock a.snd.snd) ∧ (run1.upTo t0).granted o1 0 (8588 + 0 / 128) (0 % 128 + 1) (leBytes 1 3) = true
          ∧ { state := (run1.flight 0).state, anchor := (run1.flight 0).anchor, done := (run1.flight 0).done, late := (run1.flight 0).late, missed := (run1.flight 0).missed, skipped := (run1.flight 0).skipped, lastRun := (run1.flight 0).lastRun, skips := (run1.flight 0).skips, cmdAt := some (posClock (max run1.now t0)), before := (run1.upTo t0).flStateAtWrite 0 : Flight }.state = FlState.running ∧ (run1.tsrc (run1.flSource 0)).queued = [] ∧ run1.flSource 0 < run1.treads.srcs.length) :=
  by decide +kernel

/-- The clauses of FlightCommandsMoveTheFlight, continued. -/
theorem witness_FlightCommandsMoveTheFlight_5 :
    (0 < 256 ∧ (st FlState.armed).treads.flights[0]? = some ((st FlState.armed).flight 0)
          ∧ (∀ (a : Nat × Nat × Nat), a ∈ (st FlState.armed).tasks.armf → posClock (max (st FlState.armed).now t0) < posClock a.snd.snd)
          ∧ ((st FlState.armed).upTo t0).granted o1 0 (8588 + 0 / 128) (0 % 128 + 1) (leBytes 1 4) = true
          ∧ { state := ((st FlState.armed).flight 0).state, anchor := ((st FlState.armed).flight 0).anchor, done := ((st FlState.armed).flight 0).done, late := ((st FlState.armed).flight 0).late, missed := ((st FlState.armed).flight 0).missed, skipped := ((st FlState.armed).flight 0).skipped, lastRun := ((st FlState.armed).flight 0).lastRun, skips := ((st FlState.armed).flight 0).skips, cmdAt := some (posClock (max (st FlState.armed).now t0)), before := ((st FlState.armed).upTo t0).flStateAtWrite 0 : Flight }.state = FlState.armed ∧ ((st FlState.armed).tsrc ((st FlState.armed).flSource 0)).running = none) :=
  by decide +kernel

/-- The clauses of TriggerChannelsShapeTheirPulses. -/
theorem witness_TriggerChannelsShapeTheirPulses :
    (0 < 16 ∧ (trgS f1).live = true ∧ (trgS f1).treads.trgs[0]? = some (tr f1)
          ∧ (tr f1).edges = [{ time := 5, kind := 0, width := 100, tread := 2 : Edge },
          { time := 10000000101, kind := 0, width := 100, tread := 2 : Edge }]
          ∧ { time := 5, kind := 0, width := 100, tread := 2 : Edge }.time ≤ max (trgS f1).now t0)
    ∧ (0 < 16 ∧ (trgS f2).live = true ∧ (trgS f2).treads.trgs[0]? = some (tr f2) ∧ (tr f2).pulseEnd = some 7 ∧ 7 ≤ max (trgS f2).now t0)
    ∧ (0 < 16 ∧ (trgS f3).live = true ∧ (trgS f3).treads.trgs[0]? = some (tr f3) ∧ (tr f3).idleWait = true ∧ (tr f3).edges = []
          ∧ (tr f3).pulseEnd = none)
    ∧ (0 < 16 ∧ (trgS id).live = true ∧ (trgS id).treads.trgs[0]? = some (tr id) ∧ (((tr id).swapAt + 10000000000 ≤ max (trgS id).now t0
          ∧ (∀ (e : Edge), e ∈ (tr id).edges → max (trgS id).now t0 + 2000 < e.time) ∧ ∀ (q : Nat), (tr id).pulseEnd = some q
          → max (trgS id).now t0 + 2000 < q) ∨ (tr id).swapAt + 60000000000 ≤ max (trgS id).now t0 ∧ (tr id).pulseEnd = none
          ∧ ∀ (e : Edge), e ∈ (tr id).edges → max (trgS id).now t0 < e.time ∧ (tr id).changedAt + (trgS id).cfg (8464 + 0) 3 + 50 ≤ e.time)) :=
  by refine ⟨?_, ?_, ?_, ?_⟩ <;> decide +kernel

/-- The clauses of TriggerChannelsShapeTheirPulses, continued. -/
theorem witness_TriggerChannelsShapeTheirPulses_2 :
    (0 < 16 ∧ (trgS f4).live = true ∧ (trgS f4).treads.trgs[0]? = some (tr f4) ∧ (((tr f4).swapAt + 10000000000 ≤ max (trgS f4).now 70000000000
          ∧ (∀ (e : Edge), e ∈ (tr f4).edges → max (trgS f4).now 70000000000 + 2000 < e.time) ∧ ∀ (q : Nat), (tr f4).pulseEnd = some q
          → max (trgS f4).now 70000000000 + 2000 < q) ∨ (tr f4).swapAt + 60000000000 ≤ max (trgS f4).now 70000000000 ∧ (tr f4).pulseEnd = none
          ∧ ∀ (e : Edge), e ∈ (tr f4).edges → max (trgS f4).now 70000000000 < e.time
          ∧ (tr f4).changedAt + (trgS f4).cfg (8464 + 0) 3 + 50 ≤ e.time)) :=
  by decide +kernel

/-- The clauses of DueHeadsFire. -/
theorem witness_DueHeadsFire :
    (0 < 4 ∧ (lo 0 0 50).base ≠ Mode.standby ∧ (lo 0 0 50).pausing = false ∧ (((lo 0 0 50).upTo t0).fillNow 0).treads.srcs[0]? = some lr
          ∧ lr.window = { tread := 0, flight := 0, pos := 50, k := 0 : WinEnt } :: lr.window.tail ∧ lr.running = some 0 ∧ lr.headLate = false
          ∧ (lo 0 0 50).lead 0 = none
          ∧ { tread := 0, flight := 0, pos := 50, k := 0 : WinEnt }.k < treadRepeats
          ((lo 0 0 50).tread { tread := 0, flight := 0, pos := 50, k := 0 : WinEnt }.tread) ∧ (((lo 0 0 50).upTo t0).fillNow 0).comparing 0 = true
          ∧ (((lo 0 0 50).upTo t0).fillNow 0).headWaits 0 = false
          ∧ (treadAction ((lo 0 0 50).tread { tread := 0, flight := 0, pos := 50, k := 0 : WinEnt }.tread) = 0
          ∨ treadAction ((lo 0 0 50).tread { tread := 0, flight := 0, pos := 50, k := 0 : WinEnt }.tread) = 7)
          ∧ (((lo 0 0 50).upTo t0).fillNow 0).headAhead 0 { tread := 0, flight := 0, pos := 50, k := 0 : WinEnt } ≤ 0) :=
  by decide +kernel

/-- The clauses of DueHeadsFire, continued. -/
theorem witness_DueHeadsFire_2 :
    (0 < 4 ∧ lt.base ≠ Mode.standby ∧ lt.pausing = false ∧ ((lt.upTo t0).fillNow 0).treads.srcs[0]? = some ltr
          ∧ ltr.window = { tread := 0, flight := 0, pos := 50, k := 0 : WinEnt } :: ltr.window.tail ∧ ltr.running = some 0 ∧ ltr.headLate = false
          ∧ lt.lead 0 = none
          ∧ { tread := 0, flight := 0, pos := 50, k := 0 : WinEnt }.k < treadRepeats
          (lt.tread { tread := 0, flight := 0, pos := 50, k := 0 : WinEnt }.tread) ∧ ((lt.upTo t0).fillNow 0).comparing 0 = true
          ∧ ((lt.upTo t0).fillNow 0).headWaits 0 = false ∧ treadAction (lt.tread { tread := 0, flight := 0, pos := 50, k := 0 : WinEnt }.tread) = 1
          ∧ ((lt.upTo t0).fillNow 0).headAhead 0 { tread := 0, flight := 0, pos := 50, k := 0 : WinEnt } ≤ 0
          ∧ ((lt.upTo t0).fillNow 0).sameDue 0 (((lt.upTo t0).fillNow 0).due { tread := 0, flight := 0, pos := 50, k := 0 : WinEnt }) = none
          ∧ lt.treads.trgs[treadOperand (lt.tread { tread := 0, flight := 0, pos := 50, k := 0 : WinEnt }.tread) % 16]? = some
          (lt.treads.trgs.getD 3 default) ∧ (lt.treads.trgs.getD 3 default).trailing = none) :=
  by decide +kernel

end Sys2Proof.Tests.Flights
end

