-- ==== Sys2Proof/Tests/Modes.lean ====
section
/-! SUPPORT. Witnesses for the statements on modes, starts, power failures and loops: for each clause of a statement,
      a state and operands that meet its hypotheses together. -/
set_option Elab.async false
namespace Sys2Proof.Tests.Modes
open Sys2Proof.Machine Sys2Proof.Tests.Samples

def rn : State := withPlan live plan0
def arg0 := { rn with mode := .standby }
def arg1 := {rn with mode := .stop}
def arg2 := {rn with mode := .stop, sup := { rn.sup with pinMres := true }}
def mr : State := {rn with mode := .stop, sup := { rn.sup with pinMres := true, mresAt := 7000000100 }}
def st0 : State := { rn with mode := .stop }
def on : State := onl rn
def flt : State := { on with mode := .fault, sup := { on.sup with cause := 1 } }
def arg3 := arm {on with mode := .stop} 0x1100 4
def arg4 := arm {on with mode := .stop} 0x1110 1
def bi : BootIn := { (default : BootIn) with bootMs := 3, encs := List.replicate 8 default }
def arg5 := { bi with failed := true }
def inr : State := { State.reset with sup := { State.reset.sup with power := { State.reset.sup.power with vl := 24000 } } }
def arg6 := { on with inReset := true, sup := { on.sup with power := { on.sup.power with nextCause := 3 } } }
def arg7 := { on with pair := { on.pair with role := 1, state := 4, lanes := [⟨true,5⟩,⟨true,6⟩] } }
def lp : State := cf (withPlan live plan0) [(0x4003,1,1),(0x4003,0x0E,2),(0x4003,0x12,0xC0000000 + 4),(0x3EFF,0x2A,100)]
def lpr : State := { lp with tasks := { lp.tasks with runAt := 10000000100 - 5 * lp.classPeriod 2} }
def sm : LoopSample := { (default : LoopSample) with loop := 3, cls := 2 }
def lw (s : State) (x : LoopSample) : State := { s with loops := { s.loops with waiting := [x] } }
def smn : LoopSample := { sm with at_ := 10000000050 }
def ev (s : State) (x : LoopSample) : Evaluating := ((lw s x).upTo t0).engineBegin.loops.current.getD default
def lf := cf lp [(0x4003,0x10,4 + 2^24)]
def smb : LoopSample := { sm with pv := 0x7FC00000 }
def lps : State := { lp with loops := { lp.loops with loops := [(3, { (lp.loop 3) with soft := true })] } }
def ds0 : DspSnap := default
def dr : State := { rn with dsp := { rn.dsp with running := some default } }
def arg8 := { dr with dsp := {dr.dsp with running := some { (default : DspSnap) with startAt := 10000000000}}}
def arg9 := { (default : DspSnap) with startAt := 10000000000}
def sp77 : Word := 77
def lo := onl (cf lp [(0x4003,1,0)])

/-- The clauses of ModesFollowTheirPins. -/
theorem witness_ModesFollowTheirPins :
    (rn.live = true ∧ rn.mode ≠ Mode.boot ∧ (rn.mode = Mode.run ∨ rn.mode = Mode.edit ∨ rn.mode = Mode.standby) ∧ rn.sup.pinStop = false ∧ 0 < 4
          ∧ 1 < 4 ∧ 2 < 4 ∧ 3 < 4 ∧ 1 ≤ 1 ∧ 1 ≤ 4 ∧ 1 ≤ 2 ∧ 2 ≤ 4 ∧ 1 ≤ 3 ∧ 3 ≤ 4 ∧ 4 ≤ 4 ∧ 1 ≤ 5 ∧ 1 ≤ 6 ∧ 1 ≤ 7 ∧ 1 ≤ 8 ∧ 1 ≤ 9 ∧ 1 ≤ 10 ∧ 1 ≤ 11
          ∧ 1 ≤ 12 ∧ 1 ≤ 13 ∧ 1 ≤ 14 ∧ 1 ≤ 15 ∧ 1 ≤ 16 ∧ 1 ≤ 17)
    ∧ (arg0.live = true ∧ arg0.mode ≠ Mode.boot ∧ (arg0.mode = Mode.run ∨ arg0.mode = Mode.edit ∨ arg0.mode = Mode.standby)
          ∧ arg0.sup.pinStop = false ∧ 0 < 4 ∧ 1 < 4 ∧ 2 < 4 ∧ 3 < 4 ∧ 1 ≤ 1 ∧ 1 ≤ 4 ∧ 1 ≤ 2 ∧ 2 ≤ 4 ∧ 1 ≤ 3 ∧ 3 ≤ 4 ∧ 4 ≤ 4 ∧ 1 ≤ 5 ∧ 1 ≤ 6 ∧ 1 ≤ 7
          ∧ 1 ≤ 8 ∧ 1 ≤ 9 ∧ 1 ≤ 10 ∧ 1 ≤ 11 ∧ 1 ≤ 12 ∧ 1 ≤ 13 ∧ 1 ≤ 14 ∧ 1 ≤ 15 ∧ 1 ≤ 16 ∧ 1 ≤ 17)
    ∧ (rn.live = true ∧ rn.mode ≠ Mode.boot ∧ (false = false ∨ rn.sup.pinStop = true ∨ rn.mode = Mode.stop))
    ∧ (arg1.live = true ∧ arg1.mode ≠ Mode.boot ∧ (true = false ∨ arg1.sup.pinMres = false) ∧ (false = false ∨ arg1.sup.pinMres = false))
    ∧ (arg2.live = true ∧ arg2.mode ≠ Mode.boot ∧ (false = false ∨ arg2.sup.pinMres = false))
    ∧ (mr.live = true ∧ mr.mode ≠ Mode.boot ∧ mr.mode = Mode.stop ∧ mr.sup.pinMres = true ∧ mr.sup.mresDone = false
          ∧ mr.sup.mresAt + 3000000000 ≤ max mr.now t0)
    ∧ (st0.live = true ∧ st0.mode ≠ Mode.boot ∧ st0.sup.pinRun = false ∧ (st0.mode = Mode.stop ∨ st0.mode = Mode.fault) ∧ st0.sup.pinStop = false
          ∧ st0.clear t0 ∧ (st0.paired = false ∨ st0.pair.role = 1) ∧ st0.cfg 4352 6 = 2) :=
  by refine ⟨?_, ?_, ?_, ?_, ?_, ?_, ?_⟩ <;> decide +kernel

/-- The clauses of ModesFollowTheirPins, continued. -/
theorem witness_ModesFollowTheirPins_2 :
    ((cf st0 [(4352, 6, 2)]).live = true ∧ (cf st0 [(4352, 6, 2)]).mode ≠ Mode.boot ∧ (cf st0 [(4352, 6, 2)]).sup.pinRun = false
          ∧ ((cf st0 [(4352, 6, 2)]).mode = Mode.stop ∨ (cf st0 [(4352, 6, 2)]).mode = Mode.fault) ∧ (cf st0 [(4352, 6, 2)]).sup.pinStop = false
          ∧ (cf st0 [(4352, 6, 2)]).clear t0 ∧ ((cf st0 [(4352, 6, 2)]).paired = false ∨ (cf st0 [(4352, 6, 2)]).pair.role = 1)
          ∧ (cf st0 [(4352, 6, 2)]).cfg 4352 6 = 2)
    ∧ (rn.live = true ∧ rn.mode ≠ Mode.boot ∧ rn.mode ≠ Mode.fault ∧ 0 < 4 ∧ 1 < 4 ∧ 2 < 4 ∧ 3 < 4 ∧ 1 ≤ 1 ∧ 1 ≤ 4 ∧ 1 ≤ 2 ∧ 2 ≤ 4 ∧ 1 ≤ 3 ∧ 3 ≤ 4
          ∧ 4 ≤ 4 ∧ 1 ≤ 5 ∧ 1 ≤ 6 ∧ 1 ≤ 7 ∧ 1 ≤ 8 ∧ 1 ≤ 9 ∧ 1 ≤ 10 ∧ 1 ≤ 11 ∧ 1 ≤ 12 ∧ 1 ≤ 13 ∧ 1 ≤ 14 ∧ 1 ≤ 15 ∧ 1 ≤ 16 ∧ 1 ≤ 17) :=
  by refine ⟨?_, ?_⟩ <;> decide +kernel

/-- The clauses of ModeCommandsChangeTheMode. -/
theorem witness_ModeCommandsChangeTheMode :
    ((on.upTo t0).granted o1 0 4352 4 (leBytes 1 1) = true)
    ∧ ((flt.upTo t0).granted o1 0 4352 4 (leBytes 1 2) = true ∧ (flt.upTo t0).planHolds = true ∧ (3 ≠ 0 ∨ (flt.upTo t0).planHolds = false))
    ∧ ((arg3.upTo t0).granted o1 0 4352 4 (leBytes 1 3) = true)
    ∧ ((arg4.upTo t0).granted o1 0 4368 1 (leBytes 1 1) = true)
    ∧ ((arg4.upTo t0).granted o1 0 4368 1 (leBytes 1 2) = true) :=
  by refine ⟨?_, ?_, ?_, ?_, ?_⟩ <;> decide +kernel

/-- The clauses of StartsBeginAnew. -/
theorem witness_StartsBeginAnew :
    (State.reset.inReset = true ∧ State.reset.sup.power.nextCause ≠ 3 ∧ 18600 ≤ 20000)
    ∧ (State.reset.inReset = true ∧ State.reset.sup.power.nextCause ≠ 3 ∧ 18600 ≤ 20000 ∧ arg5.failed = true)
    ∧ ((on.live = true ∨ on.inReset = true ∧ 18600 ≤ on.sup.power.vl))
    ∧ ((live.live = true ∨ live.inReset = true ∧ 18600 ≤ live.sup.power.vl))
    ∧ ((inr.live = true ∨ inr.inReset = true ∧ 18600 ≤ inr.sup.power.vl))
    ∧ (arg6.inReset = true ∧ arg6.sup.power.nextCause = 3) :=
  by refine ⟨?_, ?_, ?_, ?_, ?_, ?_⟩ <;> decide +kernel

/-- The clauses of PowerFailuresEndInReset. -/
theorem witness_PowerFailuresEndInReset :
    (5 < 18000 ∧ on.live = true)
    ∧ (5 < 18000 ∧ State.reset.live = false)
    ∧ (5 < 18000 ∧ arg7.live = true ∧ arg7.pair.role = 1 ∧ arg7.pair.state = 4 ∧ arg7.corridorUp = true)
    ∧ (State.reset.inReset = true ∧ State.reset.sup.power.vl < 18000)
    ∧ (on.live = true ∧ on.sup.power.holdReady = false) :=
  by refine ⟨?_, ?_, ?_, ?_, ?_⟩ <;> decide +kernel

/-- The clauses of LoopsEvaluateTheirSamples. -/
theorem witness_LoopsEvaluateTheirSamples :
    (lpr.live = true ∧ lpr.base ≠ Mode.standby ∧ 2 < 8 ∧ lpr.loopsRun = true ∧ lpr.classPeriod 2 ≠ 0
          ∧ (max lpr.now t0 - lpr.tasks.runAt) % lpr.classPeriod 2 = 0 ∧ 0 < 2048 ∧ 1 < 2048 ∧ 2 < 2048 ∧ 3 < 2048 ∧ lpr.loopClass 3 = 2
          ∧ (lpr.upTo t0).loopSeenOn 3 = true ∧ 4 < 2048 ∧ 5 < 2048 ∧ 6 < 2048 ∧ 7 < 2048 ∧ 8 < 2048 ∧ 9 < 2048 ∧ 10 < 2048 ∧ 11 < 2048 ∧ 12 < 2048
          ∧ 13 < 2048 ∧ 14 < 2048 ∧ 15 < 2048 ∧ 16 < 2048 ∧ 17 < 2048)
    ∧ ((lw lp smn).live = true ∧ (lw lp smn).base ≠ Mode.standby ∧ (lw lp smn).loops.current = none ∧ (lw lp smn).loops.waiting = [smn]
          ∧ coreClock smn.at_ < coreClock (max (lw lp smn).now t0) ∧ max (lw lp smn).now t0 < max (lw lp smn).loops.freeAt smn.at_ + 100)
    ∧ ((lw lp sm).live = true ∧ (lw lp sm).base ≠ Mode.standby ∧ ((lw lp sm).upTo t0).engineBegin.loops.current = some (ev lp sm)
          ∧ (ev lp sm).endAt ≤ max (lw lp sm).now t0 ∧ pointBad (pointFormat ((ev lp sm).cfg.getD 16 0)) (ev lp sm).sample.pv = false
          ∧ 0 ≠ (ev lp sm).sample.loop ∧ 1 ≠ (ev lp sm).sample.loop ∧ 2 ≠ (ev lp sm).sample.loop ∧ 4 ≠ (ev lp sm).sample.loop
          ∧ 5 ≠ (ev lp sm).sample.loop ∧ 6 ≠ (ev lp sm).sample.loop ∧ 7 ≠ (ev lp sm).sample.loop ∧ 8 ≠ (ev lp sm).sample.loop
          ∧ 9 ≠ (ev lp sm).sample.loop ∧ 10 ≠ (ev lp sm).sample.loop ∧ 11 ≠ (ev lp sm).sample.loop ∧ 12 ≠ (ev lp sm).sample.loop
          ∧ 13 ≠ (ev lp sm).sample.loop ∧ 14 ≠ (ev lp sm).sample.loop ∧ 15 ≠ (ev lp sm).sample.loop ∧ 16 ≠ (ev lp sm).sample.loop
          ∧ 17 ≠ (ev lp sm).sample.loop) :=
  by refine ⟨?_, ?_, ?_⟩ <;> decide +kernel

/-- The clauses of LoopsEvaluateTheirSamples, continued. -/
theorem witness_LoopsEvaluateTheirSamples_2 :
    ((lw lf sm).live = true ∧ (lw lf sm).base ≠ Mode.standby ∧ ((lw lf sm).upTo t0).engineBegin.loops.current = some (ev lf sm)
          ∧ (ev lf sm).endAt ≤ max (lw lf sm).now t0 ∧ pointBad (pointFormat ((ev lf sm).cfg.getD 16 0)) (ev lf sm).sample.pv = false
          ∧ 0 ≠ (ev lf sm).sample.loop ∧ 1 ≠ (ev lf sm).sample.loop ∧ 2 ≠ (ev lf sm).sample.loop ∧ 4 ≠ (ev lf sm).sample.loop
          ∧ 5 ≠ (ev lf sm).sample.loop ∧ 6 ≠ (ev lf sm).sample.loop ∧ 7 ≠ (ev lf sm).sample.loop ∧ 8 ≠ (ev lf sm).sample.loop
          ∧ 9 ≠ (ev lf sm).sample.loop ∧ 10 ≠ (ev lf sm).sample.loop ∧ 11 ≠ (ev lf sm).sample.loop ∧ 12 ≠ (ev lf sm).sample.loop
          ∧ 13 ≠ (ev lf sm).sample.loop ∧ 14 ≠ (ev lf sm).sample.loop ∧ 15 ≠ (ev lf sm).sample.loop ∧ 16 ≠ (ev lf sm).sample.loop
          ∧ 17 ≠ (ev lf sm).sample.loop)
    ∧ ((lw lp smb).live = true ∧ (lw lp smb).base ≠ Mode.standby ∧ ((lw lp smb).upTo t0).engineBegin.loops.current = some (ev lp smb)
          ∧ (ev lp smb).endAt ≤ max (lw lp smb).now t0 ∧ pointBad (pointFormat ((ev lp smb).cfg.getD 16 0)) (ev lp smb).sample.pv = true
          ∧ 0 ≠ (ev lp smb).sample.loop ∧ 1 ≠ (ev lp smb).sample.loop ∧ 2 ≠ (ev lp smb).sample.loop ∧ 4 ≠ (ev lp smb).sample.loop
          ∧ 5 ≠ (ev lp smb).sample.loop ∧ 6 ≠ (ev lp smb).sample.loop ∧ 7 ≠ (ev lp smb).sample.loop ∧ 8 ≠ (ev lp smb).sample.loop
          ∧ 9 ≠ (ev lp smb).sample.loop ∧ 10 ≠ (ev lp smb).sample.loop ∧ 11 ≠ (ev lp smb).sample.loop ∧ 12 ≠ (ev lp smb).sample.loop
          ∧ 13 ≠ (ev lp smb).sample.loop ∧ 14 ≠ (ev lp smb).sample.loop ∧ 15 ≠ (ev lp smb).sample.loop ∧ 16 ≠ (ev lp smb).sample.loop
          ∧ 17 ≠ (ev lp smb).sample.loop) :=
  by refine ⟨?_, ?_⟩ <;> decide +kernel

/-- The clauses of LoopsEvaluateTheirSamples, continued. -/
theorem witness_LoopsEvaluateTheirSamples_3 :
    ((lw lps sm).live = true ∧ (lw lps sm).base ≠ Mode.standby ∧ ((lw lps sm).upTo t0).engineBegin.loops.current = some (ev lps sm)
          ∧ (ev lps sm).endAt ≤ max (lw lps sm).now t0 ∧ pointBad (pointFormat ((ev lps sm).cfg.getD 16 0)) (ev lps sm).sample.pv = false
          ∧ 0 ≠ (ev lps sm).sample.loop ∧ 1 ≠ (ev lps sm).sample.loop ∧ 2 ≠ (ev lps sm).sample.loop ∧ 4 ≠ (ev lps sm).sample.loop
          ∧ 5 ≠ (ev lps sm).sample.loop ∧ 6 ≠ (ev lps sm).sample.loop ∧ 7 ≠ (ev lps sm).sample.loop ∧ 8 ≠ (ev lps sm).sample.loop
          ∧ 9 ≠ (ev lps sm).sample.loop ∧ 10 ≠ (ev lps sm).sample.loop ∧ 11 ≠ (ev lps sm).sample.loop ∧ 12 ≠ (ev lps sm).sample.loop
          ∧ 13 ≠ (ev lps sm).sample.loop ∧ 14 ≠ (ev lps sm).sample.loop ∧ 15 ≠ (ev lps sm).sample.loop ∧ 16 ≠ (ev lps sm).sample.loop
          ∧ 17 ≠ (ev lps sm).sample.loop)
    ∧ (dr.live = true ∧ dr.base ≠ Mode.standby ∧ dr.dsp.running = some ds0 ∧ ds0.startAt + 3600000 ≤ max dr.now t0)
    ∧ (arg8.live = true ∧ arg8.base ≠ Mode.standby ∧ arg8.dsp.running = some arg9 ∧ max arg8.now t0 < arg9.startAt + 3600000) :=
  by refine ⟨?_, ?_, ?_⟩ <;> decide +kernel

/-- The clauses of LoopWritesTakeEffect. -/
theorem witness_LoopWritesTakeEffect :
    (3 < 2048 ∧ (lo.upTo t0).granted o1 0 (16384 + 3) 1 (leBytes 1 1) = true ∧ lo.loopOn 3 = false ∧ lo.loopsRun = true ∧ 0 ≠ 3 ∧ 1 ≠ 3 ∧ 2 ≠ 3
          ∧ 4 ≠ 3 ∧ 5 ≠ 3 ∧ 6 ≠ 3 ∧ 7 ≠ 3 ∧ 8 ≠ 3 ∧ 9 ≠ 3 ∧ 10 ≠ 3 ∧ 11 ≠ 3 ∧ 12 ≠ 3 ∧ 13 ≠ 3 ∧ 14 ≠ 3 ∧ 15 ≠ 3 ∧ 16 ≠ 3 ∧ 17 ≠ 3)
    ∧ (3 < 2048 ∧ ((onl lp).upTo t0).granted o1 0 (16384 + 3) 1 (leBytes 1 0) = true ∧ 0 ≠ 3 ∧ 1 ≠ 3 ∧ 2 ≠ 3 ∧ 4 ≠ 3 ∧ 5 ≠ 3 ∧ 6 ≠ 3 ∧ 7 ≠ 3 ∧ 8 ≠ 3
          ∧ 9 ≠ 3 ∧ 10 ≠ 3 ∧ 11 ≠ 3 ∧ 12 ≠ 3 ∧ 13 ≠ 3 ∧ 14 ≠ 3 ∧ 15 ≠ 3 ∧ 16 ≠ 3 ∧ 17 ≠ 3)
    ∧ (3 < 2048 ∧ ((onl (cf lp [(16387, 17, 4294967295)])).upTo t0).granted o1 0 (16384 + 3) 2 (leBytes 4 (BitVec.toNat sp77)) = true)
    ∧ (3 < 2048 ∧ 64 < 65 ∧ 1 ≤ 13 ∧ ((onl lp).upTo t0).accepts o1 = some 0 ∧ (lookup (if 64 = 64 then 16127 else 15872 + 64) 1).fst = Status.ok
          ∧ (((onl lp).upTo t0).asked o1 0).groupStatus (((onl lp).upTo t0).asker o1 0 (if 64 = 64 then 16127 else 15872 + 64) 1 0) (lookup
          (if 64 = 64 then 16127 else 15872 + 64) 1).snd
          { idx := if 64 = 64 then 16127 else 15872 + 64, sub := 1, dtype := tyCode (lookup (if 64 = 64 then 16127 else 15872 + 64) 1).snd.ty, data := [1#8] : WItem } = Status.ok) :=
  by refine ⟨?_, ?_, ?_, ?_⟩ <;> decide +kernel

/-- The clauses of LoopWritesTakeEffect, continued. -/
theorem witness_LoopWritesTakeEffect_2 :
    (3 < 2048 ∧ 0 < 65 ∧ 1 ≤ 13 ∧ ((onl lp).upTo t0).accepts o1 = some 0 ∧ (lookup (if 0 = 64 then 16127 else 15872 + 0) 1).fst = Status.ok
          ∧ (((onl lp).upTo t0).asked o1 0).groupStatus (((onl lp).upTo t0).asker o1 0 (if 0 = 64 then 16127 else 15872 + 0) 1 0) (lookup
          (if 0 = 64 then 16127 else 15872 + 0) 1).snd
          { idx := if 0 = 64 then 16127 else 15872 + 0, sub := 1, dtype := tyCode (lookup (if 0 = 64 then 16127 else 15872 + 0) 1).snd.ty, data := [1#8] : WItem } = Status.ok)
    ∧ (3 < 2048 ∧ ((onl lp).upTo t0).granted o1 0 16127 38 (gainBytes [{ x := 0, g := 0 : GainPoint },
          { x := 1065353216, g := 0 : GainPoint }]) = true)
    ∧ (3 < 2048 ∧ ((onl lp).upTo t0).granted o1 0 10240 1 (leBytes 1 0) = true)
    ∧ (3 < 2048 ∧ ((onl lp).upTo t0).granted o1 0 10240 1 (leBytes 1 1) = true)
    ∧ (3 < 2048 ∧ ((onl lp).upTo t0).granted o1 0 10240 1 (leBytes 1 2) = true) :=
  by refine ⟨?_, ?_, ?_, ?_, ?_⟩ <;> decide +kernel

end Sys2Proof.Tests.Modes
end

