-- ==== Sys2Proof/Tests/Nonvolatile.lean ====
section
/-! SUPPORT. Witnesses for the statements on records, pages and firmware: for each clause of a statement,
      a state and operands that meet its hypotheses together. -/
set_option Elab.async false
namespace Sys2Proof.Tests.Nonvolatile
open Sys2Proof.Machine Sys2Proof.Tests.Samples

def op := onl live
def sp := {op with mode := .stop}
def fl (r : Option PsBuffer) (ag : Bool) : State := { sp with nvm := { sp.nvm with filling := ⟨[(3,[1])],4,5⟩, running := r, again := ag } }
def rf : State := { op with sup := { op.sup with ledger := { op.sup.ledger with refreshAt := some 5 } } }
def rf2 : State := {rf with now := 90000000000}
def fw (f : Firmware → Firmware) (m : Mode): State := { op with mode := m, sup := { op.sup with fw := f op.sup.fw } }
def fs (n : Nat) : State := let s := fw (fun f => {f with stage := n}) .update; { s with nvm := { s.nvm with fwSlots := [[1],[1]] } }
def tr := fw (fun f => {f with state := 1, healthOk := false, confirm := true, actAt := 5, steadyAt := 6 }) .run
def arg0 := { tr with now := 90000000000 }
def arg1 := { tr with now := 900000000000 }
def pz := fw (fun f => {f with pauseAt := some 7 }) .update
def pz2 : State := { withPlan pz plan0 with tasks := { pz.tasks with runAt := 10000000099 } }

/-- The clauses of RecordsAreStagedAndCommitted. -/
theorem witness_RecordsAreStagedAndCommitted :
    ((op.upTo t0).granted o1 0 5392 2 [1, 2, 3] = true ∧ op.persistedAs 5392 2 = none ∧ 3 ≠ op.selOf 0 5392 1)
    ∧ (2 < 256 ∧ ((arm op 5376 7).upTo t0).granted o1 0 5376 7 (leBytes 1 2) = true)
    ∧ (0 < 256 ∧ ((arm op 5376 7).upTo t0).granted o1 0 5376 7 (leBytes 1 0) = true)
    ∧ (((arm sp 5376 11).upTo t0).granted o1 0 5376 11 (leBytes 4 49642) = true ∧ (arm sp 5376 11).persistedAs 5376 11 = none)
    ∧ ((fl none false).live = true ∧ (fl none false).base ≠ Mode.run ∧ (fl none false).base ≠ Mode.edit ∧ ¬((fl none false).follows = true
          ∧ (fl none false).pair.state = 4) ∧ (fl none false).nvm.filling.items ≠ []
          ∧ (fl none false).nvm.filling.first + 100000000 ≤ max (fl none false).now t0 ∧ (fl none false).nvm.running = none) :=
  by refine ⟨?_, ?_, ?_, ?_, ?_⟩ <;> decide +kernel

/-- The clauses of RecordsAreStagedAndCommitted, continued. -/
theorem witness_RecordsAreStagedAndCommitted_2 :
    ((fl (some { items := [(3, [1])], upto := 4, first := 5 : PsBuffer }) false).live = true
          ∧ (fl (some { items := [(3, [1])], upto := 4, first := 5 : PsBuffer }) false).base ≠ Mode.run
          ∧ (fl (some { items := [(3, [1])], upto := 4, first := 5 : PsBuffer }) false).base ≠ Mode.edit
          ∧ ¬((fl (some { items := [(3, [1])], upto := 4, first := 5 : PsBuffer }) false).follows = true
          ∧ (fl (some { items := [(3, [1])], upto := 4, first := 5 : PsBuffer }) false).pair.state = 4)
          ∧ (fl (some { items := [(3, [1])], upto := 4, first := 5 : PsBuffer }) false).nvm.filling.items ≠ []
          ∧ (fl (some { items := [(3, [1])], upto := 4, first := 5 : PsBuffer }) false).nvm.filling.first + 100000000 ≤ max (fl
          (some { items := [(3, [1])], upto := 4, first := 5 : PsBuffer }) false).now t0
          ∧ (fl (some { items := [(3, [1])], upto := 4, first := 5 : PsBuffer }) false).nvm.running ≠ none) :=
  by decide +kernel

/-- The clauses of RecordsAreStagedAndCommitted, continued. -/
theorem witness_RecordsAreStagedAndCommitted_3 :
    ((fl (some { items := [(3, [1]), (4, [2])], upto := 4, first := 5 : PsBuffer }) true).live = true
          ∧ (fl (some { items := [(3, [1]), (4, [2])], upto := 4, first := 5 : PsBuffer }) true).nvm.running = some
          { items := [(3, [1]), (4, [2])], upto := 4, first := 5 : PsBuffer }
          ∧ (∀ (e : Nat × Bytes), e ∈ { items := [(3, [1]), (4, [2])], upto := 4, first := 5 : PsBuffer }.items → e.fst ≠ 0)
          ∧ (∀ (e : Nat × Bytes), e ∈ { items := [(3, [1]), (4, [2])], upto := 4, first := 5 : PsBuffer }.items → e.fst ≠ 1)
          ∧ (∀ (e : Nat × Bytes), e ∈ { items := [(3, [1]), (4, [2])], upto := 4, first := 5 : PsBuffer }.items → e.fst ≠ 2)
          ∧ (∀ (e : Nat × Bytes), e ∈ { items := [(3, [1]), (4, [2])], upto := 4, first := 5 : PsBuffer }.items → e.fst ≠ 5)
          ∧ (∀ (e : Nat × Bytes), e ∈ { items := [(3, [1]), (4, [2])], upto := 4, first := 5 : PsBuffer }.items → e.fst ≠ 6)
          ∧ (∀ (e : Nat × Bytes), e ∈ { items := [(3, [1]), (4, [2])], upto := 4, first := 5 : PsBuffer }.items → e.fst ≠ 7)
          ∧ (∀ (e : Nat × Bytes), e ∈ { items := [(3, [1]), (4, [2])], upto := 4, first := 5 : PsBuffer }.items → e.fst ≠ 8)
          ∧ (∀ (e : Nat × Bytes), e ∈ { items := [(3, [1]), (4, [2])], upto := 4, first := 5 : PsBuffer }.items → e.fst ≠ 9)
          ∧ (∀ (e : Nat × Bytes), e ∈ { items := [(3, [1]), (4, [2])], upto := 4, first := 5 : PsBuffer }.items → e.fst ≠ 10)
          ∧ (∀ (e : Nat × Bytes), e ∈ { items := [(3, [1]), (4, [2])], upto := 4, first := 5 : PsBuffer }.items → e.fst ≠ 11)
          ∧ (∀ (e : Nat × Bytes), e ∈ { items := [(3, [1]), (4, [2])], upto := 4, first := 5 : PsBuffer }.items → e.fst ≠ 12)
          ∧ (∀ (e : Nat × Bytes), e ∈ { items := [(3, [1]), (4, [2])], upto := 4, first := 5 : PsBuffer }.items → e.fst ≠ 13)
          ∧ (∀ (e : Nat × Bytes), e ∈ { items := [(3, [1]), (4, [2])], upto := 4, first := 5 : PsBuffer }.items → e.fst ≠ 14)
          ∧ (∀ (e : Nat × Bytes), e ∈ { items := [(3, [1]), (4, [2])], upto := 4, first := 5 : PsBuffer }.items → e.fst ≠ 15)
          ∧ (∀ (e : Nat × Bytes), e ∈ { items := [(3, [1]), (4, [2])], upto := 4, first := 5 : PsBuffer }.items → e.fst ≠ 16)
          ∧ (∀ (e : Nat × Bytes), e ∈ { items := [(3, [1]), (4, [2])], upto := 4, first := 5 : PsBuffer }.items → e.fst ≠ 17)) :=
  by decide +kernel

/-- The clauses of RecordsAreStagedAndCommitted, continued. -/
theorem witness_RecordsAreStagedAndCommitted_4 :
    ((fl (some { items := [(3, [1]), (4, [2])], upto := 4, first := 5 : PsBuffer }) false).live = true
          ∧ (fl (some { items := [(3, [1]), (4, [2])], upto := 4, first := 5 : PsBuffer }) false).nvm.running = some
          { items := [(3, [1]), (4, [2])], upto := 4, first := 5 : PsBuffer }
          ∧ (∀ (e : Nat × Bytes), e ∈ { items := [(3, [1]), (4, [2])], upto := 4, first := 5 : PsBuffer }.items → e.fst ≠ 0)
          ∧ (∀ (e : Nat × Bytes), e ∈ { items := [(3, [1]), (4, [2])], upto := 4, first := 5 : PsBuffer }.items → e.fst ≠ 1)
          ∧ (∀ (e : Nat × Bytes), e ∈ { items := [(3, [1]), (4, [2])], upto := 4, first := 5 : PsBuffer }.items → e.fst ≠ 2)
          ∧ (∀ (e : Nat × Bytes), e ∈ { items := [(3, [1]), (4, [2])], upto := 4, first := 5 : PsBuffer }.items → e.fst ≠ 5)
          ∧ (∀ (e : Nat × Bytes), e ∈ { items := [(3, [1]), (4, [2])], upto := 4, first := 5 : PsBuffer }.items → e.fst ≠ 6)
          ∧ (∀ (e : Nat × Bytes), e ∈ { items := [(3, [1]), (4, [2])], upto := 4, first := 5 : PsBuffer }.items → e.fst ≠ 7)
          ∧ (∀ (e : Nat × Bytes), e ∈ { items := [(3, [1]), (4, [2])], upto := 4, first := 5 : PsBuffer }.items → e.fst ≠ 8)
          ∧ (∀ (e : Nat × Bytes), e ∈ { items := [(3, [1]), (4, [2])], upto := 4, first := 5 : PsBuffer }.items → e.fst ≠ 9)
          ∧ (∀ (e : Nat × Bytes), e ∈ { items := [(3, [1]), (4, [2])], upto := 4, first := 5 : PsBuffer }.items → e.fst ≠ 10)
          ∧ (∀ (e : Nat × Bytes), e ∈ { items := [(3, [1]), (4, [2])], upto := 4, first := 5 : PsBuffer }.items → e.fst ≠ 11)
          ∧ (∀ (e : Nat × Bytes), e ∈ { items := [(3, [1]), (4, [2])], upto := 4, first := 5 : PsBuffer }.items → e.fst ≠ 12)
          ∧ (∀ (e : Nat × Bytes), e ∈ { items := [(3, [1]), (4, [2])], upto := 4, first := 5 : PsBuffer }.items → e.fst ≠ 13)
          ∧ (∀ (e : Nat × Bytes), e ∈ { items := [(3, [1]), (4, [2])], upto := 4, first := 5 : PsBuffer }.items → e.fst ≠ 14)
          ∧ (∀ (e : Nat × Bytes), e ∈ { items := [(3, [1]), (4, [2])], upto := 4, first := 5 : PsBuffer }.items → e.fst ≠ 15)
          ∧ (∀ (e : Nat × Bytes), e ∈ { items := [(3, [1]), (4, [2])], upto := 4, first := 5 : PsBuffer }.items → e.fst ≠ 16)
          ∧ (∀ (e : Nat × Bytes), e ∈ { items := [(3, [1]), (4, [2])], upto := 4, first := 5 : PsBuffer }.items → e.fst ≠ 17)) :=
  by decide +kernel

/-- The clauses of PagesAndSectorsAreKept. -/
theorem witness_PagesAndSectorsAreKept :
    ((op.upTo t0).granted o1 0 5408 3 [1, 2] = true)
    ∧ ((op.upTo t0).granted o1 0 5408 3 [] = true)
    ∧ (2 < 256 ∧ ((arm op 5408 4).upTo t0).granted o1 0 5408 4 (leBytes 1 2) = true)
    ∧ (op.live = true ∧ op.mode ≠ Mode.boot ∧ partitionOf 486539280 = some 8 ∧ 100 ≤ 36000)
    ∧ (op.live = true ∧ op.mode ≠ Mode.boot ∧ partitionOf 335544336 = some 4 ∧ 100 ≤ 36000)
    ∧ (op.live = true ∧ op.mode ≠ Mode.boot ∧ partitionOf 385875984 = some 5 ∧ 100 ≤ 36000)
    ∧ (op.live = true ∧ op.mode ≠ Mode.boot ∧ partitionOf 486539280 = some 8 ∧ 36000 < 40000)
    ∧ (op.live = true ∧ op.mode ≠ Mode.boot ∧ partitionOf 486539280 = some 8 ∧ 100 ≤ 36000 ∧ (∀ (a : Nat), op.sup.ledger.refreshAt = some a
          → a + 60000000000 ≤ max op.now t0)) :=
  by refine ⟨?_, ?_, ?_, ?_, ?_, ?_, ?_, ?_⟩ <;> decide +kernel

/-- The clauses of PagesAndSectorsAreKept, continued. -/
theorem witness_PagesAndSectorsAreKept_2 :
    (rf.live = true ∧ rf.mode ≠ Mode.boot ∧ partitionOf 486539280 = some 8 ∧ rf.sup.ledger.refreshAt = some 5 ∧ max rf.now t0 < 5 + 60000000000)
    ∧ (rf2.live = true ∧ rf2.mode ≠ Mode.boot ∧ partitionOf 486539280 = some 8 ∧ 100 ≤ 36000 ∧ (∀ (a : Nat), rf2.sup.ledger.refreshAt = some a
          → a + 60000000000 ≤ max rf2.now t0)) :=
  by refine ⟨?_, ?_⟩ <;> decide +kernel

/-- The clauses of FirmwareIsTriedAndConfirmed. -/
theorem witness_FirmwareIsTriedAndConfirmed :
        (((fs 1).upTo t0).granted o1 0 6144 5 (leBytes 1 1) = true)
    ∧ (((fs 1).upTo t0).granted o1 0 6144 5 (leBytes 1 2) = true)
    ∧ ((fs 2).live = true ∧ (fs 2).sup.fw.stage = 2)
    ∧ ((tr.upTo t0).granted o1 0 6145 5 (leBytes 1 1) = true)
    ∧ (arg0.live = true ∧ arg0.sup.fw.state = 1 ∧ arg0.sup.fw.healthOk = false ∧ max arg0.now t0 ≤ arg0.sup.fw.actAt + 300000000000
          ∧ steadyMode arg0.mode = true ∧ arg0.sup.fw.steadyAt + 60000000000 ≤ max arg0.now t0 ∧ (arg0.partnerPresent = true
          → arg0.sup.fw.hotSeen = true) ∧ (arg0.cfg 6145 4 = 0 ∨ arg0.sup.fw.confirm = true) ∧ arg0.sup.fw.expired = false)
    ∧ (arg1.live = true ∧ arg1.sup.fw.state = 1 ∧ arg1.sup.fw.healthOk = false ∧ arg1.sup.fw.expired = false
          ∧ arg1.sup.fw.actAt + 300000000000 ≤ max arg1.now t0)
    ∧ (pz.live = true ∧ pz.sup.fw.pauseAt = some 7 ∧ (max pz.now t0 - pz.tasks.runAt) % max 1 (pz.upTo t0).majorFrame = 0 ∧ pz.mode ≠ Mode.fault)
    ∧ (pz2.live = true ∧ pz2.sup.fw.pauseAt = some 7 ∧ ¬(max pz2.now t0 - pz2.tasks.runAt) % max 1 (pz2.upTo t0).majorFrame = 0
          ∧ pz2.mode ≠ Mode.fault)
    ∧ (Config.fwVerdict (pz.slotBytes 1 0) = 0 → pz.slotSelect = some (0, 0, false)) :=
  by refine ⟨?_, ?_, ?_, ?_, ?_, ?_, ?_, ?_, fun h => by simp [State.slotSelect, State.slotGood,
        (by decide +kernel : privInForce pz.nvm.priv 7 0 = none), h]⟩ <;> decide +kernel

end Sys2Proof.Tests.Nonvolatile
end

