-- ==== Sys2Proof/Tests/Pairing.lean ====
section
/-! SUPPORT. Witnesses for the statements on the pair: for each clause of a statement, a state and operands that meet its hypotheses together. -/
set_option Elab.async false
namespace Sys2Proof.Tests.Pairing
open Sys2Proof.Machine Sys2Proof.Tests.Samples

def pr (role st : Nat) (m : Mode) (f : Pair → Pair) : State :=
  cf { withPlan live plan0 with mode := m, pair := f { live.pair with sense := true, role := role, state := st, partner := some { (default : Partner) with digest := digestNo plan0.digest }, lanes := [⟨true,5⟩,⟨false,6⟩] } } [(0x1400,1,1)]
def a := pr 1 4 .run id
def b := pr 2 4 .standby fun p => { p with seqRx := List.replicate 10 5 }
def fi (l : List (Nat × FwdItem)) := l
def its := fi [(0, .word (0x4000) 77), (0, .dio 0 true 5)]
def inN (s : State) : State := { s with pair := { s.pair with state := 3 } }
def st1 : Nat := (b.upTo t0).time - 1000
def st9 : Nat := (b.upTo t0).time - 9000
def rs := pr 2 3 .standby fun p => { p with resyncing := true, lag := [(5, .item (.word 0x4000 7)), (st1, .item (.word 0x4000 8))] }
def ls : Lockstep :=
  { (default : Lockstep) with stamp := 9999990000, gridTime := 77, line := live.line, treads := live.treads, dio := live.field.dio, aio := live.field.aio, g3 := resetGallery }
def dl (seq : Nat) : Delta :=
  { (default : Delta) with seq := seq, outs := [⟨.ho,3,4,0⟩,⟨.wo,2,5,0⟩], bits := [(0x40003,true)], words := [(0x10002,7)], written := [(0x10003,9)] }
def jn := pr 0 3 .stop fun p => { p with lag := [(5, .item (.word 0x4000 7)), (st1, .item (.word 0x4000 8))] }
def sn : Snapshot := ⟨ls, live.hall, live.tasks, live.dsp⟩
def jd := pr 1 3 .run fun p => { p with joinAt := 5 }
def arg0 := pr 1 4 .run (fun p => { p with after := 2 })
def sl := pr 2 4 .standby fun p => { p with silent := true, silentAt := 5 }
def arg1 := { b with pair := { b.pair with sense := false } }
def nl (r : Nat) (sense : Bool) (at_ : Option Nat) :=
  pr 0 0 .stop fun p => { p with sense := sense, roleSel := r, retryAt := at_, lanes := [⟨false,5⟩,⟨false,5⟩] }
def bd : State :=
  { b with field := { b.field with dio := upd b.field.dio 0 fun x => { x with level := true } }, params := (cf b [(0x2600,1,1)]).params, pair := { b.pair with dioDiff := upd b.pair.dioDiff 0 fun _ => some 5 } }
def so := onl { a with pair := { a.pair with partner := a.pair.partner.map fun h => { h with score := 1000 } } }
def sb := onl b
def arg2 := {so with pair := {so.pair with switching := 2}}
def nh (s : State) : State := { s with pair := { s.pair with partner := s.pair.partner.map fun h => { h with schema := 5 } } }
def sw (n : Nat) (s : State) := { s with pair := { s.pair with switching := n, switchF := 7 } }
def dn : State := cf { sb with pair := { sb.pair with switching := 4, rampAt := 7 } } [(0x2700,1,2)]

/-- The clauses of StandbyFollowsTheActive. -/
theorem witness_StandbyFollowsTheActive :
    ((inN b).live = true ∧ (inN b).mode ≠ Mode.boot ∧ (inN b).paired = true ∧ (inN b).pair.sense = true ∧ (inN b).follows = true
          ∧ (inN b).pair.seqRx.getD 2 0 ≠ 0 ∧ (5 + 2 ^ 32 - (inN b).pair.seqRx.getD 2 0 % 2 ^ 32) % 2 ^ 32 = 0 ∧ (inN b).pair.state = 3)
    ∧ (b.live = true ∧ b.mode ≠ Mode.boot ∧ b.paired = true ∧ b.pair.sense = true ∧ b.follows = true ∧ b.pair.seqRx.getD 2 0 ≠ 0
          ∧ (5 + 2 ^ 32 - b.pair.seqRx.getD 2 0 % 2 ^ 32) % 2 ^ 32 = 0 ∧ b.pair.state = 4)
    ∧ (b.live = true ∧ b.mode ≠ Mode.boot ∧ b.paired = true ∧ b.pair.sense = true ∧ b.follows = true ∧ b.pair.seqRx.getD 2 0 ≠ 0
          ∧ (5 + 2 ^ 32 - b.pair.seqRx.getD 2 0 % 2 ^ 32) % 2 ^ 32 = 0 ∧ b.pair.state = 4
          ∧ (∀ (e : Nat × LagItem),
          e ∈ List.foldl (fun q e => lagInsert e q) b.pair.lag (List.map (fun e => ((b.upTo t0).itemStamp (st1 + e.fst) e.snd,
          LagItem.item e.snd)) (fi [(0, FwdItem.word 16384 77)])) → ¬e.fst + 3000 ≤ (b.upTo t0).time))
    ∧ (b.live = true ∧ b.mode ≠ Mode.boot ∧ b.paired = true ∧ b.pair.sense = true ∧ b.follows = true ∧ b.pair.seqRx.getD 2 0 ≠ 0
          ∧ (5 + 2 ^ 32 - b.pair.seqRx.getD 2 0 % 2 ^ 32) % 2 ^ 32 = 0 ∧ b.pair.state = 4
          ∧ List.foldl (fun q e => lagInsert e q) b.pair.lag (List.map (fun e => ((b.upTo t0).itemStamp (st9 + e.fst) e.snd,
          LagItem.item e.snd)) (fi [(0, FwdItem.word 16384 77)])) = [(st9, LagItem.item (FwdItem.word 16384 77))]
          ∧ (st9, LagItem.item (FwdItem.word 16384 77)).fst + 3000 ≤ (b.upTo t0).time) :=
  by refine ⟨?_, ?_, ?_, ?_⟩ <;> decide +kernel

/-- The clauses of StandbyFollowsTheActive, continued. -/
theorem witness_StandbyFollowsTheActive_2 :
    (b.live = true ∧ b.mode ≠ Mode.boot ∧ b.paired = true ∧ b.pair.sense = true ∧ b.follows = true ∧ b.pair.seqRx.getD 2 0 ≠ 0
          ∧ 2 ^ 31 ≤ (4 + 2 ^ 32 - b.pair.seqRx.getD 2 0 % 2 ^ 32) % 2 ^ 32)
    ∧ (b.live = true ∧ b.mode ≠ Mode.boot ∧ b.paired = true ∧ b.pair.sense = true ∧ b.follows = true ∧ b.pair.seqRx.getD 2 0 ≠ 0
          ∧ 0 < (7 + 2 ^ 32 - b.pair.seqRx.getD 2 0 % 2 ^ 32) % 2 ^ 32 ∧ (7 + 2 ^ 32 - b.pair.seqRx.getD 2 0 % 2 ^ 32) % 2 ^ 32 < 2 ^ 31
          ∧ b.pair.state = 4 ∧ b.corridorUp = true)
    ∧ ((inN b).live = true ∧ (inN b).mode ≠ Mode.boot ∧ (inN b).paired = true ∧ (inN b).pair.sense = true ∧ (inN b).follows = true
          ∧ (inN b).pair.seqRx.getD 3 0 ≠ 0 ∧ (5 + 2 ^ 32 - (inN b).pair.seqRx.getD 3 0 % 2 ^ 32) % 2 ^ 32 = 0 ∧ (inN b).pair.state = 3)
    ∧ (b.live = true ∧ b.mode ≠ Mode.boot ∧ b.paired = true ∧ b.pair.sense = true ∧ b.follows = true ∧ b.pair.seqRx.getD 3 0 ≠ 0
          ∧ (5 + 2 ^ 32 - b.pair.seqRx.getD 3 0 % 2 ^ 32) % 2 ^ 32 = 0 ∧ b.pair.state = 4)
    ∧ (b.live = true ∧ b.mode ≠ Mode.boot ∧ b.paired = true ∧ b.pair.sense = true ∧ b.follows = true ∧ b.pair.seqRx.getD 3 0 ≠ 0
          ∧ (5 + 2 ^ 32 - b.pair.seqRx.getD 3 0 % 2 ^ 32) % 2 ^ 32 = 0 ∧ b.pair.state = 4
          ∧ (∀ (e : Nat × LagItem),
          e ∈ List.foldl (fun q e => lagInsert e q) b.pair.lag [(match CmdRec.flCmd 0 1 st1 with | CmdRec.flCmd flight cmd a => a | x => st1,
          LagItem.cmd (CmdRec.flCmd 0 1 st1))] → ¬e.fst + 3000 ≤ (b.upTo t0).time)) :=
  by refine ⟨?_, ?_, ?_, ?_, ?_⟩ <;> decide +kernel

/-- The clauses of StandbyFollowsTheActive, continued. -/
theorem witness_StandbyFollowsTheActive_3 :
    (b.live = true ∧ b.mode ≠ Mode.boot ∧ b.paired = true ∧ b.pair.sense = true ∧ b.follows = true ∧ b.pair.seqRx.getD 3 0 ≠ 0
          ∧ (5 + 2 ^ 32 - b.pair.seqRx.getD 3 0 % 2 ^ 32) % 2 ^ 32 = 0 ∧ b.pair.state = 4
          ∧ List.foldl (fun q e => lagInsert e q) b.pair.lag [(match CmdRec.flCmd 0 1 st9 with | CmdRec.flCmd flight cmd a => a | x => st9,
          LagItem.cmd (CmdRec.flCmd 0 1 st9))] = [(st9, LagItem.cmd (CmdRec.flCmd 0 1 st9))]
          ∧ (st9, LagItem.cmd (CmdRec.flCmd 0 1 st9)).fst + 3000 ≤ (b.upTo t0).time)
    ∧ (b.live = true ∧ b.mode ≠ Mode.boot ∧ b.paired = true ∧ b.pair.sense = true ∧ b.follows = true ∧ b.pair.seqRx.getD 3 0 ≠ 0
          ∧ 2 ^ 31 ≤ (4 + 2 ^ 32 - b.pair.seqRx.getD 3 0 % 2 ^ 32) % 2 ^ 32)
    ∧ (b.live = true ∧ b.mode ≠ Mode.boot ∧ b.paired = true ∧ b.pair.sense = true ∧ b.follows = true ∧ b.pair.seqRx.getD 3 0 ≠ 0
          ∧ 0 < (7 + 2 ^ 32 - b.pair.seqRx.getD 3 0 % 2 ^ 32) % 2 ^ 32 ∧ (7 + 2 ^ 32 - b.pair.seqRx.getD 3 0 % 2 ^ 32) % 2 ^ 32 < 2 ^ 31
          ∧ b.pair.state = 4 ∧ b.corridorUp = true)
    ∧ (rs.live = true ∧ rs.mode ≠ Mode.boot ∧ rs.paired = true ∧ rs.pair.sense = true ∧ rs.follows = true ∧ rs.pair.state = 3
          ∧ rs.pair.resyncing = true ∧ (∀ (e : Nat × LagItem), e ∈ rs.pair.lag → ls.stamp ≤ e.fst → ¬e.fst + 3000 ≤ (rs.upTo t0).time)
          ∧ rs.corridorUp = true) :=
  by refine ⟨?_, ?_, ?_, ?_⟩ <;> decide +kernel

/-- The clauses of StandbyFollowsTheActive, continued. -/
theorem witness_StandbyFollowsTheActive_4 :
    (b.live = true ∧ b.mode ≠ Mode.boot ∧ b.paired = true ∧ b.pair.sense = true ∧ b.pair.role = 2 ∧ b.base = Mode.standby ∧ b.pair.state = 4
          ∧ b.pair.seqRx.getD 5 0 ≠ 0 ∧ ((dl 5).seq + 2 ^ 32 - b.pair.seqRx.getD 5 0 % 2 ^ 32) % 2 ^ 32 = 0 ∧ (dl 5).major = false
          ∧ (dl 5).switchMark = false ∧ (dl 5).swapped = false ∧ (∀ (e : Nat × LagItem), e ∈ b.pair.lag → ¬e.fst + 3000 ≤ (b.upTo t0).time)
          ∧ (∃ x, x ∈ (dl 5).outs ∧ spaceIsBit x.space = true ∧ spaceBase x.space + x.off ≤ 262147 ∧ 262147 < spaceBase x.space + x.off + x.len)
          ∧ ¬∃ x, x ∈ (dl 5).outs ∧ spaceIsBit x.space = true ∧ spaceBase x.space + x.off ≤ 262146 ∧ 262146 < spaceBase x.space + x.off + x.len
          ∧ (∀ (e : Nat × Word), e ∈ (dl 5).written → e.fst ≠ 65538) ∧ (∃ x, x ∈ (dl 5).outs ∧ spaceIsBit x.space = false
          ∧ spaceBase x.space + x.off ≤ 65538 ∧ 65538 < spaceBase x.space + x.off + x.len) ∧ (∀ (e : Nat × Word), e ∈ (dl 5).written → e.fst ≠ 65537)
          ∧ ¬∃ x, x ∈ (dl 5).outs ∧ spaceIsBit x.space = false ∧ spaceBase x.space + x.off ≤ 65537 ∧ 65537 < spaceBase x.space + x.off + x.len
          ∧ (dl 5).written = [] ++ [(65539, 9)] ∧ b.corridorUp = true)
    ∧ (b.live = true ∧ b.mode ≠ Mode.boot ∧ b.paired = true ∧ b.pair.sense = true ∧ b.pair.role = 2 ∧ b.base = Mode.standby ∧ b.pair.state = 4
          ∧ b.pair.seqRx.getD 5 0 ≠ 0 ∧ 0 < ((dl 7).seq + 2 ^ 32 - b.pair.seqRx.getD 5 0 % 2 ^ 32) % 2 ^ 32
          ∧ ((dl 7).seq + 2 ^ 32 - b.pair.seqRx.getD 5 0 % 2 ^ 32) % 2 ^ 32 < 2 ^ 31 ∧ b.corridorUp = true) :=
  by refine ⟨?_, ?_⟩ <;> decide +kernel

/-- The clauses of StandbyFollowsTheActive, continued. -/
theorem witness_StandbyFollowsTheActive_5 :
    (b.live = true ∧ b.mode ≠ Mode.boot ∧ b.paired = true ∧ b.pair.sense = true ∧ b.pair.role = 2 ∧ b.base = Mode.standby ∧ b.pair.state = 4
          ∧ b.pair.seqRx.getD 5 0 ≠ 0 ∧ 2 ^ 31 ≤ ((dl 4).seq + 2 ^ 32 - b.pair.seqRx.getD 5 0 % 2 ^ 32) % 2 ^ 32)
    ∧ (a.live = true ∧ a.mode ≠ Mode.boot ∧ a.paired = true ∧ a.pair.sense = true ∧ a.pair.role = 1 ∧ (a.pair.state = 2 ∨ a.pair.state = 3
          ∨ a.pair.state = 4))
    ∧ (jn.live = true ∧ jn.mode ≠ Mode.boot ∧ jn.paired = true ∧ jn.pair.sense = true ∧ jn.pair.role ≠ 1 ∧ jn.pair.state = 3
          ∧ jn.pair.resyncing = false ∧ (jn.upTo t0).stopHeld = false ∧ (jn.mode = Mode.stop ∨ jn.mode = Mode.standby) ∧ jn.pair.early = []
          ∧ (∀ (e : Nat × LagItem), e ∈ jn.pair.lag → sn.lock.stamp ≤ e.fst → ¬e.fst + 3000 ≤ (jn.upTo t0).time))
    ∧ (jd.live = true ∧ jd.mode ≠ Mode.boot ∧ jd.paired = true ∧ jd.pair.sense = true ∧ jd.pair.role = 1 ∧ jd.pair.state = 3 ∧ jd.pair.joinAt ≠ 0) :=
  by refine ⟨?_, ?_, ?_, ?_⟩ <;> decide +kernel

/-- The clauses of PairLossIsDecided. -/
theorem witness_PairLossIsDecided :
    (arg0.live = true ∧ arg0.paired = true ∧ arg0.mode ≠ Mode.boot ∧ arg0.pair.silent = false ∧ arg0.pair.role = 1 ∧ arg0.pair.state ≠ 0
          ∧ arg0.pair.state ≠ 2 ∧ arg0.pair.after ≠ 0 ∧ arg0.mode ≠ Mode.fault ∧ arg0.mode ≠ Mode.backup)
    ∧ (a.live = true ∧ a.paired = true ∧ a.mode ≠ Mode.boot ∧ a.pair.silent = false ∧ a.pair.role = 1 ∧ a.pair.state ≠ 0 ∧ a.pair.state ≠ 2
          ∧ a.pair.after = 0)
    ∧ (b.live = true ∧ b.paired = true ∧ b.mode ≠ Mode.boot ∧ b.pair.silent = false ∧ b.pair.role = 2 ∧ b.base = Mode.standby ∧ b.pair.switching ≠ 5
          ∧ b.clear t0 ∧ b.pair.state = 4 ∧ (b.upTo t0).stopHeld = false ∧ (b.pair.sense = false ∨ true = true ∨ false = true))
    ∧ (b.live = true ∧ b.paired = true ∧ b.mode ≠ Mode.boot ∧ b.pair.silent = false ∧ b.pair.role = 2 ∧ b.base = Mode.standby ∧ b.pair.switching ≠ 5
          ∧ b.clear t0 ∧ (b.pair.state = 4 ∨ b.pair.state = 6) ∧ b.pair.sense = true)
    ∧ ((pr 2 3 Mode.standby id).live = true ∧ (pr 2 3 Mode.standby id).paired = true ∧ (pr 2 3 Mode.standby id).mode ≠ Mode.boot
          ∧ (pr 2 3 Mode.standby id).pair.silent = false ∧ (pr 2 3 Mode.standby id).pair.role = 2 ∧ (pr 2 3 Mode.standby id).base = Mode.standby
          ∧ (pr 2 3 Mode.standby id).pair.switching ≠ 5 ∧ (pr 2 3 Mode.standby id).clear t0 ∧ (pr 2 3 Mode.standby id).pair.state ≠ 4
          ∧ (pr 2 3 Mode.standby id).pair.state ≠ 6)
    ∧ (sl.live = true ∧ sl.paired = true ∧ sl.pair.role = 2 ∧ sl.pair.silent = true ∧ sl.pair.sense = true ∧ sl.pair.state = 4
          ∧ (sl.upTo t0).stopHeld = false ∧ sl.pair.silentAt + 1000000 * sl.cfg 5120 9 ≤ max sl.now t0)
    ∧ (arg1.live = true ∧ arg1.paired = true ∧ arg1.pair.sense = false) :=
  by refine ⟨?_, ?_, ?_, ?_, ?_, ?_, ?_⟩ <;> decide +kernel

/-- The clauses of PairLossIsDecided, continued. -/
theorem witness_PairLossIsDecided_2 :
    (a.live = true ∧ a.paired = true ∧ a.mode ≠ Mode.boot ∧ a.pair.sense = true ∧ (a.pair.silent = false ∨ a.pair.role ≠ 2))
    ∧ (sl.live = true ∧ sl.paired = true ∧ sl.mode ≠ Mode.boot ∧ sl.pair.sense = true ∧ sl.pair.silent = true ∧ sl.pair.role = 2 ∧ sl.pair.state = 4
          ∧ (sl.upTo t0).stopHeld = false)
    ∧ ((nl 0 true none).live = true ∧ (nl 0 true none).paired = true ∧ (nl 0 true none).mode = Mode.stop ∧ (nl 0 true none).pair.role = 0
          ∧ (nl 0 true none).corridorUp = false ∧ (nl 0 true none).pair.retryAt = none
          ∧ (nl 0 true none).pair.waitAt + 1000000 * (nl 0 true none).cfg 5120 8 ≤ max (nl 0 true none).now t0 ∧ ((nl 0 true none).pair.roleSel = 0
          ∨ (nl 0 true none).pair.sense = false))
    ∧ ((nl 1 false none).live = true ∧ (nl 1 false none).paired = true ∧ (nl 1 false none).mode = Mode.stop ∧ (nl 1 false none).pair.role = 0
          ∧ (nl 1 false none).corridorUp = false ∧ (nl 1 false none).pair.retryAt = none
          ∧ (nl 1 false none).pair.waitAt + 1000000 * (nl 1 false none).cfg 5120 8 ≤ max (nl 1 false none).now t0
          ∧ ((nl 1 false none).pair.roleSel = 0 ∨ (nl 1 false none).pair.sense = false))
    ∧ ((nl 1 true none).live = true ∧ (nl 1 true none).paired = true ∧ (nl 1 true none).mode = Mode.stop ∧ (nl 1 true none).pair.role = 0
          ∧ (nl 1 true none).corridorUp = false ∧ (nl 1 true none).pair.retryAt = none
          ∧ (nl 1 true none).pair.waitAt + 1000000 * (nl 1 true none).cfg 5120 8 ≤ max (nl 1 true none).now t0 ∧ (nl 1 true none).pair.roleSel ≠ 0
          ∧ (nl 1 true none).pair.sense = true) :=
  by refine ⟨?_, ?_, ?_, ?_, ?_⟩ <;> decide +kernel

/-- The clauses of PairLossIsDecided, continued. -/
theorem witness_PairLossIsDecided_3 :
    ((nl 1 false (some 5)).live = true ∧ (nl 1 false (some 5)).paired = true ∧ (nl 1 false (some 5)).mode = Mode.stop
          ∧ (nl 1 false (some 5)).pair.role = 0 ∧ (nl 1 false (some 5)).corridorUp = false ∧ (nl 1 false (some 5)).pair.retryAt = some 5
          ∧ 5 + 1000000000 ≤ max (nl 1 false (some 5)).now t0 ∧ (nl 1 false (some 5)).pair.roleSel = 1 ∧ (nl 1 false (some 5)).pair.sense = false)
    ∧ ((nl 1 true (some 5)).live = true ∧ (nl 1 true (some 5)).paired = true ∧ (nl 1 true (some 5)).mode = Mode.stop
          ∧ (nl 1 true (some 5)).pair.role = 0 ∧ (nl 1 true (some 5)).corridorUp = false ∧ (nl 1 true (some 5)).pair.retryAt = some 5
          ∧ 5 + 1000000000 ≤ max (nl 1 true (some 5)).now t0 ∧ (nl 1 true (some 5)).pair.roleSel = 1 ∧ (nl 1 true (some 5)).pair.sense = true)
    ∧ (b.live = true ∧ b.paired = true ∧ b.pair.sense = true ∧ b.pair.role = 2 ∧ b.base = Mode.standby ∧ b.pair.state = 4 ∧ b.mode ≠ Mode.boot) :=
  by refine ⟨?_, ?_, ?_⟩ <;> decide +kernel

/-- The clauses of PairHealthIsKept. -/
theorem witness_PairHealthIsKept :
    (b.live = true ∧ b.follows = true ∧ b.pair.state = 4)
    ∧ (bd.live = true ∧ bd.follows = true ∧ bd.pair.state = 4)
    ∧ (b.live = true ∧ b.base = Mode.standby)
    ∧ (b.live = true)
    ∧ (b.live = true ∧ b.mode ≠ Mode.boot ∧ b.paired = true ∧ b.pair.sense = true)
    ∧ (a.live = true ∧ a.mode ≠ Mode.boot ∧ a.pair.role = 1 ∧ a.pair.state = 4 ∧ a.cfg 5120 10 ≠ 1
          ∧ a.pair.partner = some (a.pair.partner.getD default))
    ∧ (b.live = true ∧ b.mode ≠ Mode.boot ∧ (b.pair.role ≠ 1 ∨ b.pair.state ≠ 4) ∧ 19999 < 20000 ∧ b.corridorUp = true) :=
  by refine ⟨?_, ?_, ?_, ?_, ?_, ?_, ?_⟩ <;> decide +kernel

/-- The clauses of SwitchoversChangeTheRoles. -/
theorem witness_SwitchoversChangeTheRoles :
    ((so.upTo t0).granted o1 0 5120 13 (leBytes 1 1) = true ∧ so.pair.role = 1)
    ∧ ((sb.upTo t0).granted o1 0 5120 13 (leBytes 1 1) = true ∧ sb.pair.role = 2 ∧ sb.corridorUp = true)
    ∧ (so.live = true ∧ so.mode ≠ Mode.boot ∧ so.paired = true ∧ so.pair.sense = true ∧ so.pair.role = 1 ∧ so.switchAccepts = true)
    ∧ (arg2.live = true ∧ arg2.mode ≠ Mode.boot ∧ arg2.paired = true ∧ arg2.pair.sense = true ∧ arg2.pair.role = 1 ∧ arg2.pair.switching = 2)
    ∧ ((so.upTo t0).granted o1 0 5120 13 (leBytes 1 2) = true)
    ∧ ((sb.upTo t0).granted o1 0 5120 13 (leBytes 1 2) = true ∧ sb.pair.role ≠ 1 ∧ sb.corridorUp = true)
    ∧ (((nh so).upTo t0).granted o1 0 5120 13 (leBytes 1 3) = true)
    ∧ (((nh sb).upTo t0).granted o1 0 5120 13 (leBytes 1 3) = true ∧ (nh sb).pair.role ≠ 1) :=
  by refine ⟨?_, ?_, ?_, ?_, ?_, ?_, ?_, ?_⟩ <;> decide +kernel

/-- The clauses of SwitchoversChangeTheRoles, continued. -/
theorem witness_SwitchoversChangeTheRoles_2 :
    ((sw 3 so).live = true ∧ ((sw 3 so).upTo t0).quietClock = true ∧ ((sw 3 so).pair.switching = 3 ∧ (sw 3 so).pair.switchF ≤ max (sw 3 so).now t0
          ∨ (sw 3 so).pair.switching = 5) ∧ (sw 3 so).pair.role = 1)
    ∧ ((sw 3 sb).live = true ∧ ((sw 3 sb).upTo t0).quietClock = true ∧ ((sw 3 sb).pair.switching = 3 ∧ (sw 3 sb).pair.switchF ≤ max (sw 3 sb).now t0
          ∨ (sw 3 sb).pair.switching = 5) ∧ (sw 3 sb).pair.role = 2)
    ∧ ((sw 5 sb).live = true ∧ ((sw 5 sb).upTo t0).quietClock = true ∧ ((sw 5 sb).pair.switching = 3 ∧ (sw 5 sb).pair.switchF ≤ max (sw 5 sb).now t0
          ∨ (sw 5 sb).pair.switching = 5) ∧ (sw 5 sb).pair.role = 2)
    ∧ (dn.live = true ∧ dn.pair.switching = 4 ∧ dn.pair.rampAt ≤ max dn.now t0 ∧ dn.aioCfg 0 1 = 2
          ∧ dn.field.aio[0]? = some (dn.field.aio.getD 0 default)) :=
  by refine ⟨?_, ?_, ?_, ?_⟩ <;> decide +kernel

end Sys2Proof.Tests.Pairing
end

