-- ==== Sys2Proof/Tests/PlansAndFuses.lean ====
section
/-! SUPPORT. Witnesses for the statements on Plans and fuses: for each clause of a statement,
      a state and operands that meet its hypotheses together. -/
set_option Elab.async false
namespace Sys2Proof.Tests.PlansAndFuses
open Sys2Proof.Machine Sys2Proof.Tests.Samples

def op := withPlan (onl live) plan0
def pl (f : Plans → Plans) (m : Mode) : State := { op with mode := m, plans := f op.plans }
def ps (n : Nat) : State :=
  pl (fun v => { v with slots := [[1],[1,2]], stageState := n, staged := if n = 3 then some plan0 else none, editing := false }) .run
def arg0 := arm {ps 3 with mode := .stop} 0x2401 4
def ed := pl (fun v => { v with editState := 2, stageState := 3, staged := some plan0 }) .edit
def arg1 := arm {ed with mode := .stop, fuses := ⟨default, default⟩} 0x2403 1
def kf := { op with plans := { op.plans with pubKey := (0x58#8 :: List.replicate 31 0x66#8) }, fuses := ⟨default, default⟩, mode := .stop }
def bn : State :=
  { kf with fuses := ⟨{ (default : Fuse) with burn := 1, used := 1, next := [1] }, { (default : Fuse) with burn := 1, used := 1, next := [2] }⟩ }

/-- The clauses of PlansAreVerifiedAndActivated. -/
theorem witness_PlansAreVerifiedAndActivated :
    (((ps 1).upTo t0).granted o1 0 9217 4 (leBytes 1 1) = true)
    ∧ (((ps 1).upTo t0).granted o1 0 9217 4 (leBytes 1 2) = true)
    ∧ ((arg0.upTo t0).granted o1 0 9217 4 (leBytes 1 3) = true ∧ arg0.plans.staged = some plan0)
    ∧ ((ps 2).live = true ∧ (ps 2).plans.stageState = 2)
    ∧ ((ps 2).live = true ∧ (ps 2).plans.stageState = 2
          ∧ (ps 2).planReject ((ps 2).slotBytes 2 (1 - (ps 2).plans.slot)) (ps 2).plans.editing = some (((ps 2).planReject [1,
          2] false).getD { reason := 0, section_ := 0, detail := 0 : PlanReject }))
    ∧ (100 < 2 ^ 64 ∧ ((arm ed 9218 2).upTo t0).granted o1 0 9218 2 (leBytes 8 100) = true)
    ∧ ((ed.upTo t0).granted o1 0 9218 4 (leBytes 1 1) = true)
    ∧ ((arg1.upTo t0).granted o1 0 9219 1 (88#8 :: List.replicate 31 102#8) = true) :=
  by refine ⟨?_, ?_, ?_, ?_, ?_, ?_, ?_, ?_⟩ <;> decide +kernel

/-- The clauses of FuseBurnsCommitTheirValue. -/
theorem witness_FuseBurnsCommitTheirValue :
    (((arm kf 9219 2).upTo t0).granted o1 0 9219 2 (leBytes 4 (keyId (88#8 :: List.replicate 31 102#8))) = true)
    ∧ (2 < 256 ∧ ((arm kf 5922 1).upTo t0).granted o1 0 5922 1 (leBytes 1 2) = true)
    ∧ (bn.live = true ∧ bn.fuses.win.burn = 1 ∧ bn.fuses.key.burn = 1) :=
  by refine ⟨?_, ?_, ?_⟩ <;> decide +kernel

end Sys2Proof.Tests.PlansAndFuses
end

