-- ==== Sys2Proof/Tests/Ports.lean ====
section
/-! SUPPORT. Witnesses for the statements on Roselo frames, Ethernet links and PTP: for each clause of a statement,
      a state and operands that meet its hypotheses together. -/
set_option Elab.async false
namespace Sys2Proof.Tests.Ports
open Sys2Proof.Machine Sys2Proof.Tests.Samples

def ps : State := (cf (net live) [(0x2040,1,1),(0x2040,0x18,3),(0x2500,1,1)]).updSrc 0 fun r => { r with enabled := true }
def ps2 := ps.updSrc 0 fun r => { r with sender := some 4, lastSeq := 8, heardAt := 9999999000 }
def pe :=
  (cf ps [(0x2040,0x1B,1),(0x2040,0x1C,6),(0x2504,1,3),(0x2500,2,1)]).updSrc 0 fun r => { r with export_ := some { (default : Pub) with lpc := 5 } }
def arg0 := { (default : Pub) with lpc := 5 }
def tf : State := (ptpV (cf ps [(0x2520,6,1),(0x2104,3,500)]))
def tf1 : State := tf.updTsrc 0 fun r => { r with frames := [⟨1,0,5,2,10000000000 + 100000000,77⟩] }
def tf2 : State := cf (tf.updTsrc 0 fun r => { r with frames := [⟨1,0,5,2,100,77⟩] }) [(0x218A,1,4)]
def po := onl live
def prt (s : State) (p : Nat) : Port := s.net.ports.getD p default
def ls : State := { po with net := { po.net with ports := upd po.net.ports 0 fun p => { p with lease := true } } }
def ar : State := { po with now := 99990000000000, net := { po.net with ports := upd po.net.ports 0 fun p => { p with arp := [(5,6,7)] } } }
def ec : State := { po with net := { po.net with ports := upd po.net.ports 0 fun p => { p with echoes := 100, echoSlot := 10 } } }
def pf (hd : Bool) : State := withPlan po { plan0 with inFrames := [⟨1,4000,0,if hd then 12 else 4,hd,0⟩], blocks := [⟨0,[⟨.wi,3,1⟩]⟩] }
def ph : State := { pf true with net := { (pf true).net with inCount := [(0,4)] } }
def pt (st : Nat) : State :=
  { cf po [(0x1210,1,1),(0x1210,2,3)] with net := { po.net with ports := upd po.net.ports 0 fun p => { p with ptp := st } } }
def pg : State := { pt 9 with net := { (pt 9).net with ptp := { (pt 9).net.ptp with good := 7 } } }
def pb : State := { pt 9 with net := { (pt 9).net with ptp := { (pt 9).net.ptp with bad := 3 } } }

/-- The clauses of PositionFramesFeedTheirSource. -/
theorem witness_PositionFramesFeedTheirSource :
    (0 < 2 ∧ 0 < 4 ∧ ps.tracking = true ∧ ps.line.srcs[0]? = some (src ps 0) ∧ ps.canSend 0 = true ∧ ps.roseloOn 0 = true ∧ ps.srcCfg 0 1 = 1
          ∧ ps.srcCfg 0 24 = 3 ∧ (src ps 0).enabled = true ∧ 1 ≤ 1 ∧ 1 ≤ 2 ∧ ((src ps 0).sender = none
          ∨ (src ps 0).heardAt + 1000 * ps.srcCfg 0 25 ≤ max ps.now t0 ∨ (src ps 0).sender = some 4 ∧ (9 + 65536 - (src ps 0).lastSeq) % 65536 ≠ 0
          ∧ (9 + 65536 - (src ps 0).lastSeq) % 65536 < 32768))
    ∧ (0 < 2 ∧ 0 < 4 ∧ ps2.tracking = true ∧ ps2.line.srcs[0]? = some (src ps2 0) ∧ ps2.canSend 0 = true ∧ ps2.roseloOn 0 = true ∧ ps2.srcCfg 0 1 = 1
          ∧ ps2.srcCfg 0 24 = 3 ∧ (src ps2 0).enabled = true ∧ 1 ≤ 2 ∧ 2 ≤ 2 ∧ ((src ps2 0).sender = none
          ∨ (src ps2 0).heardAt + 1000 * ps2.srcCfg 0 25 ≤ max ps2.now t0 ∨ (src ps2 0).sender = some 4
          ∧ (9 + 65536 - (src ps2 0).lastSeq) % 65536 ≠ 0 ∧ (9 + 65536 - (src ps2 0).lastSeq) % 65536 < 32768)
          ∧ max ps2.now t0 < (src ps2 0).heardAt + 1000 * ps2.srcCfg 0 25 ∧ (src ps2 0).sender = some 4)
    ∧ (0 < 2 ∧ 0 < 4 ∧ ps2.tracking = true ∧ ps2.line.srcs[0]? = some (src ps2 0) ∧ ps2.canSend 0 = true ∧ ps2.roseloOn 0 = true ∧ ps2.srcCfg 0 1 = 1
          ∧ ps2.srcCfg 0 24 = 3 ∧ (src ps2 0).enabled = true ∧ 1 ≤ 2 ∧ 2 ≤ 2 ∧ max ps2.now t0 < (src ps2 0).heardAt + 1000 * ps2.srcCfg 0 25
          ∧ (src ps2 0).sender = some 4 ∧ (4 ≠ 5 ∨ (9 + 65536 - (src ps2 0).lastSeq) % 65536 = 0
          ∨ 32768 ≤ (9 + 65536 - (src ps2 0).lastSeq) % 65536)) :=
  by refine ⟨?_, ?_, ?_⟩ <;> decide +kernel

/-- The clauses of PositionFramesFeedTheirSource, continued. -/
theorem witness_PositionFramesFeedTheirSource_2 :
    (0 < 2 ∧ 0 < 4 ∧ ps2.tracking = true ∧ ps2.line.srcs[0]? = some (src ps2 0) ∧ ps2.canSend 0 = true ∧ ps2.roseloOn 0 = true ∧ ps2.srcCfg 0 1 = 1
          ∧ ps2.srcCfg 0 24 = 3 ∧ (src ps2 0).enabled = true ∧ 1 ≤ 1 ∧ 1 ≤ 2 ∧ max ps2.now t0 < (src ps2 0).heardAt + 1000 * ps2.srcCfg 0 25
          ∧ (src ps2 0).sender = some 4 ∧ (4 ≠ 4 ∨ (8 + 65536 - (src ps2 0).lastSeq) % 65536 = 0 ∨ 32768 ≤ (8 + 65536 - (src ps2 0).lastSeq) % 65536))
    ∧ (0 < 2 ∧ 0 < 4 ∧ pe.tracking = true ∧ pe.line.srcs[0]? = some (src pe 0) ∧ pe.cfgOn (8256 + 0) 27 = true ∧ pe.base ≠ Mode.standby
          ∧ pe.net.roselo.exports[0]? = some 0 ∧ (src pe 0).export_ = some arg0
          ∧ List.filter (fun q => bitAt (pe.cfg (9476 + 0) 1) q && pe.roseloOn q) [1, 0] ≠ [])
    ∧ (0 < 2 ∧ 0 < 4 ∧ ps2.tracking = true ∧ ps2.line.srcs[0]? = some (src ps2 0) ∧ (src ps2 0).export_ = none) :=
  by refine ⟨?_, ?_, ?_⟩ <;> decide +kernel

/-- The clauses of TriggerFramesAndAnnounces. -/
theorem witness_TriggerFramesAndAnnounces :
    (0 < 4 ∧ tf1.tracking = true ∧ tf1.clock.ptpValid = true ∧ tf1.treads.srcs[0]? = some (tf1.tsrc 0)
          ∧ (tf1.tsrc 0).frames = [{ tread := 1, flight := 0, id := 5, code := 2, fire := 10000000000 + 100000000, pos := 77 : TrigFrame }]
          ∧ (∀ (q : Nat), (tf1.tsrc 0).lastSlot = some q → q + 10000 ≤ max tf1.now t0) ∧ tf1.base ≠ Mode.standby
          ∧ (1000 * tf1.cfg
          (8452 + 0) 3 ≤ { tread := 1, flight := 0, id := 5, code := 2, fire := 10000000000 + 100000000, pos := 77 : TrigFrame }.fire -
          (tf1.upTo t0).time
          ∨ { tread := 1, flight := 0, id := 5, code := 2, fire := 10000000000 + 100000000, pos := 77 : TrigFrame }.pos =
          (tf1.flight { tread := 1, flight := 0, id := 5, code := 2, fire := 10000000000 + 100000000, pos := 77 : TrigFrame }.flight).anchor)) :=
  by decide +kernel

/-- The clauses of TriggerFramesAndAnnounces, continued. -/
theorem witness_TriggerFramesAndAnnounces_2 :
    (0 < 4 ∧ tf2.tracking = true ∧ tf2.clock.ptpValid = true ∧ tf2.treads.srcs[0]? = some (tf2.tsrc 0)
          ∧ (tf2.tsrc 0).frames = [{ tread := 1, flight := 0, id := 5, code := 2, fire := 100, pos := 77 : TrigFrame }]
          ∧ (∀ (q : Nat), (tf2.tsrc 0).lastSlot = some q → q + 10000 ≤ max tf2.now t0) ∧ tf2.base ≠ Mode.standby
          ∧ { tread := 1, flight := 0, id := 5, code := 2, fire := 100, pos := 77 : TrigFrame }.fire - (tf2.upTo t0).time < 1000 * tf2.cfg
          (8452 + 0) 3 ∧ ¬{ tread := 1, flight := 0, id := 5, code := 2, fire := 100, pos := 77 : TrigFrame }.pos =
          (tf2.flight { tread := 1, flight := 0, id := 5, code := 2, fire := 100, pos := 77 : TrigFrame }.flight).anchor
          ∧ bitAt (tf2.flPolicy { tread := 1, flight := 0, id := 5, code := 2, fire := 100, pos := 77 : TrigFrame }.flight) 2 = true
          ∧ tf2.treads.flights[{ tread := 1, flight := 0, id := 5, code := 2, fire := 100, pos := 77 : TrigFrame }.flight]? = some (tf2.flight 0))
    ∧ (0 < 2 ∧ ps.canSend 0 = true ∧ ps.roseloOn 0 = true ∧ 0 < ps.net.roselo.minor.length ∧ 1 ≤ 1)
    ∧ (0 < 2 ∧ ps.canSend 0 = true ∧ ps.roseloOn 0 = true ∧ 0 < ps.net.roselo.minor.length ∧ 2 ≠ 1)
    ∧ (0 < 2 ∧ ps.canSend 0 = true ∧ ps.roseloOn 0 = true ∧ 0 < ps.net.roselo.minor.length) :=
  by refine ⟨?_, ?_, ?_, ?_⟩ <;> decide +kernel

/-- The clauses of PortsFollowTheWire. -/
theorem witness_PortsFollowTheWire :
    (0 < 2 ∧ po.net.ports[0]? = some (prt po 0) ∧ po.live = true ∧ 0 < 3 ∧ (prt po 0).link ≠ 0 ∧ 0 = 0)
    ∧ (0 < 2 ∧ po.net.ports[0]? = some (prt po 0) ∧ po.live = true ∧ 1 < 3 ∧ (prt po 0).link ≠ 1 ∧ 1 ≠ 0)
    ∧ (0 < 2 ∧ (cf po [(4608, 4, 5)]).net.ports[0]? = some (prt po 0) ∧ (cf po [(4608, 4, 5)]).canSend 0 = true ∧ 5 ≠ 0
          ∧ if false = true then (cf po [(4608, 4, 5)]).portCfg 0 3 = 1 else 5 = (cf po [(4608, 4, 5)]).portCfg 0 4 ∧ (prt po 0).lease = false
          ∧ (∀ (c : Nat), (prt po 0).conflictAt = some c → c + 10000000000 ≤ max (cf po [(4608, 4, 5)]).now t0))
    ∧ (0 < 2 ∧ (cf po [(4608, 3, 1)]).net.ports[0]? = some (prt po 0) ∧ (cf po [(4608, 3, 1)]).canSend 0 = true ∧ 5 ≠ 0
          ∧ if true = true then (cf po [(4608, 3, 1)]).portCfg 0 3 = 1 else 5 = (cf po [(4608, 3, 1)]).portCfg 0 4 ∧ (prt po 0).lease = false
          ∧ (∀ (c : Nat), (prt po 0).conflictAt = some c → c + 10000000000 ≤ max (cf po [(4608, 3, 1)]).now t0))
    ∧ (0 < 2 ∧ (cf po [(4608, 4, 5)]).net.ports[0]? = some (prt po 0) ∧ (cf po [(4608, 4, 5)]).canSend 0 = true ∧ 5 ≠ 0
          ∧ if false = true then (cf po [(4608, 4, 5)]).portCfg 0 3 = 1 else 5 = (cf po [(4608, 4, 5)]).portCfg 0 4 ∧ (prt po 0).lease = false
          ∧ (∀ (c : Nat), (prt po 0).conflictAt = some c → c + 10000000000 ≤ max (cf po [(4608, 4, 5)]).now t0) ∧ (prt po 0).ip ≠ 0
          ∧ (prt po 0).ip ≠ 5) :=
  by refine ⟨?_, ?_, ?_, ?_, ?_⟩ <;> decide +kernel

/-- The clauses of PortsFollowTheWire, continued. -/
theorem witness_PortsFollowTheWire_2 :
    (0 < 2 ∧ (cf po [(4608, 3, 1)]).net.ports[0]? = some (prt po 0) ∧ (cf po [(4608, 3, 1)]).canSend 0 = true ∧ 5 ≠ 0
          ∧ if true = true then (cf po [(4608, 3, 1)]).portCfg 0 3 = 1 else 5 = (cf po [(4608, 3, 1)]).portCfg 0 4 ∧ (prt po 0).lease = false
          ∧ (∀ (c : Nat), (prt po 0).conflictAt = some c → c + 10000000000 ≤ max (cf po [(4608, 3, 1)]).now t0) ∧ (prt po 0).ip ≠ 0
          ∧ (prt po 0).ip ≠ 5)
    ∧ (0 < 2 ∧ ls.net.ports[0]? = some (prt ls 0) ∧ ls.live = true ∧ (prt ls 0).lease = true ∧ ls.canSend 0 = true)
    ∧ (0 < 2 ∧ ar.net.ports[0]? = some (prt ar 0) ∧ ar.canSend 0 = true
          ∧ ((prt ar 0).arp.any fun e => decide (e.fst = 5) && decide (e.snd.snd + 60000000000 ≤ max ar.now t0)) = true)
    ∧ (0 < 2 ∧ po.net.ports[0]? = some (prt po 0) ∧ po.canSend 0 = true ∧ po.ownIp 0 3232235521 = true)
    ∧ (0 < 2 ∧ po.net.ports[0]? = some (prt po 0) ∧ po.canSend 0 = true ∧ (prt po 0).ip ≠ 0 ∧ [1#8].length ≤ 1472
          ∧ (if (prt po 0).echoSlot = (po.upTo t0).mono / 1000000000 then (prt po 0).echoes else 0) < 100)
    ∧ (0 < 2 ∧ ec.net.ports[0]? = some (prt ec 0) ∧ ec.canSend 0 = true ∧ (prt ec 0).ip ≠ 0 ∧ [1#8].length ≤ 1472
          ∧ 100 ≤ if (prt ec 0).echoSlot = (ec.upTo t0).mono / 1000000000 then (prt ec 0).echoes else 0) :=
  by refine ⟨?_, ?_, ?_, ?_, ?_, ?_⟩ <;> decide +kernel

/-- The clauses of ProcessFramesWriteTheirBlocks. -/
theorem witness_ProcessFramesWriteTheirBlocks :
    (0 < 2 ∧ (pf false).canSend 0 = true ∧ (pf false).base ≠ Mode.standby ∧ (pf false).net.ports[0]? = some (prt po 0) ∧ (prt po 0).ip ≠ 0
          ∧ (pf false).framesAt 0 4001 = [])
    ∧ (0 < 2 ∧ (pf false).canSend 0 = true ∧ (pf false).base ≠ Mode.standby ∧ (pf false).net.ports[0]? = some (prt po 0) ∧ (prt po 0).ip ≠ 0
          ∧ (pf false).framesAt 0 4000 ≠ [] ∧ List.filter (frameFits 9 [1#8, 2, 3]) ((pf false).framesAt 0 4000) = [])
    ∧ (0 < 2 ∧ (pf false).canSend 0 = true ∧ (pf false).base ≠ Mode.standby ∧ (pf false).net.ports[0]? = some (prt po 0) ∧ (prt po 0).ip ≠ 0
          ∧ List.filter (frameFits 9 [1#8, 2, 3, 4]) ((pf false).framesAt 0 4000) ≠ []
          ∧ (∀ (f : InFrame), f ∈ List.filter (frameFits 9 [1#8, 2, 3, 4]) ((pf false).framesAt 0 4000) → f.header = false))
    ∧ (0 < 2 ∧ ph.canSend 0 = true ∧ ph.base ≠ Mode.standby ∧ ph.net.ports[0]? = some (prt po 0) ∧ (prt po 0).ip ≠ 0
          ∧ List.filter (frameFits 9 [5#8, 0, 0, 0, 0, 0, 0, 0, 1, 2, 3, 4]) (ph.framesAt 0 4000) = [ph.plan.inFrames.headD default]
          ∧ (ph.plan.inFrames.headD default).header = true
          ∧ ph.frameOld [5#8, 0, 0, 0, 0, 0, 0, 0, 1, 2, 3, 4] (ph.plan.inFrames.headD default) = false)
    ∧ (0 < 2 ∧ ph.canSend 0 = true ∧ ph.base ≠ Mode.standby ∧ ph.net.ports[0]? = some (prt po 0) ∧ (prt po 0).ip ≠ 0
          ∧ List.filter (frameFits 9 [3#8, 0, 0, 0, 0, 0, 0, 0, 1, 2, 3, 4]) (ph.framesAt 0 4000) = [ph.plan.inFrames.headD default]
          ∧ (ph.plan.inFrames.headD default).header = true
          ∧ ph.frameOld [3#8, 0, 0, 0, 0, 0, 0, 0, 1, 2, 3, 4] (ph.plan.inFrames.headD default) = true) :=
  by refine ⟨?_, ?_, ?_, ?_, ?_⟩ <;> decide +kernel

/-- The clauses of PtpDisciplinesTime. -/
theorem witness_PtpDisciplinesTime :
    (0 < 2 ∧ (pt 9).net.ports[0]? = some (prt (pt 9) 0) ∧ 0 ∈ (pt 9).ptpPorts ∧ (pt 9).canSend 0 = true ∧ (prt (pt 9) 0).ptp = 9
          ∧ (pt 9).base ≠ Mode.standby ∧ (↑(Int.natAbs 20) : Int) ≤ (↑((pt 9).cfg 4624 9) : Int))
    ∧ (0 < 2 ∧ (pt 9).net.ports[0]? = some (prt (pt 9) 0) ∧ 0 ∈ (pt 9).ptpPorts ∧ (pt 9).canSend 0 = true ∧ (prt (pt 9) 0).ptp = 9
          ∧ (pt 9).base ≠ Mode.standby ∧ (↑((pt 9).cfg 4624 9) : Int) < (↑(Int.natAbs 2000000000) : Int))
    ∧ (0 < 2 ∧ pg.net.ports[0]? = some (prt pg 0) ∧ 0 ∈ pg.ptpPorts ∧ pg.canSend 0 = true ∧ (prt pg 0).ptp = 9 ∧ pg.base ≠ Mode.standby
          ∧ (↑(Int.natAbs 20) : Int) ≤ (↑(pg.cfg 4624 9) : Int))
    ∧ (0 < 2 ∧ pb.net.ports[0]? = some (prt pb 0) ∧ 0 ∈ pb.ptpPorts ∧ pb.canSend 0 = true ∧ (prt pb 0).ptp = 9 ∧ pb.base ≠ Mode.standby
          ∧ (↑(pb.cfg 4624 9) : Int) < (↑(Int.natAbs 2000000000) : Int))
    ∧ (0 < 2 ∧ (pt 4).net.ports[0]? = some (prt (pt 4) 0) ∧ 0 ∈ (pt 4).ptpPorts ∧ (pt 4).canSend 0 = true ∧ ¬((pt 4).cfg 4624 1 = 2 ∧ 9 = 6))
    ∧ (0 < 2 ∧ (pt 4).net.ports[0]? = some (prt (pt 4) 0) ∧ 0 ∈ (pt 4).ptpPorts ∧ (pt 4).live = true)
    ∧ (0 < 2 ∧ (pt 6).net.ports[0]? = some (prt (pt 6) 0) ∧ 0 ∈ (pt 6).ptpPorts ∧ (pt 6).canSend 0 = true ∧ (prt (pt 6) 0).ptp = 6
          ∧ (pt 6).base ≠ Mode.standby)
    ∧ (0 < 2 ∧ (pt 6).net.ports[0]? = some (prt (pt 6) 0) ∧ 0 ∈ (pt 6).ptpPorts ∧ (pt 6).live = true ∧ (pt 6).cfg 4624 11 ≠ 1) :=
  by refine ⟨?_, ?_, ?_, ?_, ?_, ?_, ?_, ?_⟩ <;> decide +kernel

/-- The clauses of PtpDisciplinesTime, continued. -/
theorem witness_PtpDisciplinesTime_2 :
    (0 < 2 ∧ (pt 6).net.ports[0]? = some (prt (pt 6) 0) ∧ 0 ∈ (pt 6).ptpPorts ∧ (pt 6).live = true ∧ (pt 6).mode ≠ Mode.boot
          ∧ (pt 6).net.ptp.pps ≠ decide (((pt 6).upTo t0).time % 1000000000 < 100000000)) :=
  by decide +kernel

end Sys2Proof.Tests.Ports
end

