-- ==== Sys2Proof/Tests/Sessions.lean ====
section
/-! SUPPORT. Witnesses for the statements on sessions, reads and writes: for each clause of a statement,
      a state and operands that meet its hypotheses together. -/
set_option Elab.async false
namespace Sys2Proof.Tests.Sessions
open Sys2Proof.Machine Sys2Proof.Tests.Samples

def op := onl live
def hk : State := { op with net := { op.net with bamcon := { op.net.bamcon with sessions := List.replicate 16 default, keys := [[1],[2],[3],[4]] } } }
def h1 : Bytes := bare 1 0 ([1#8,4,3,0] ++ List.replicate 16 9#8)
def hf : State :=
  { hk with net := { hk.net with bamcon := { hk.net.bamcon with sessions := List.replicate 16 { (default : Session) with state := 2 } } } }
def ho (key : Bytes): State :=
  hk.updSess 0 fun y => { y with state := 1, number := 7, role := 4, client := List.replicate 16 9, module := List.replicate 16 8, replied := 10000000000 }
def h2 (key : Bytes) : Bytes := bare 1 7 ([2#8,0,0,0] ++ bamProof key [0x42, 0x43, 0x31] 7 (List.replicate 16 8) (List.replicate 16 9))
def idl : State := { op with now := 99000000000000 }
def tro : State := { idl with net := { idl.net with bamcon := { idl.net.bamcon with transfers := [⟨3,0x2401,3,100,[1],0,4⟩] } } }
/-- A request of session 7 with SEQ 5; its TAG, written out, was worked out apart from the model. -/
def rq (ty : Nat) (pl : Bytes) (tag : Nat) : Bytes := bamHeader 0x13 ty 0 0 7 5 pl.length ++ pl ++ (leBytes 16 tag).reverse
def rdMode : Bytes := rq 2 [0#8, 17, 1, 0] 0x2f8301f0403d4aabf852b9c3017e1ed2
def rdNone : Bytes := rq 2 [153#8, 153, 1, 0] 0xc69248e79f4eba285308647f269b4c2e
def wrPri : Bytes := rq 3 [0#8, 17, 6, 1, 2] 0xeb6450b3e2656e188d7f166ad0be2391
def rdTwo : Bytes := rq 4 [2#8, 0, 0, 17, 1, 0, 0, 17, 2, 0] 0x6e61db122b7640abeb650bcfbe838b99
def wrOne : Bytes := rq 5 [1#8, 0, 0, 17, 6, 1, 0, 1, 0, 2] 0x3c1fc8dd9bec6619ba2b55b08d318882
def goodbye : Bytes := rq 1 [3#8, 0, 0, 0] 0xc6321272417932a350d860ff60c9a908
/-- What the request reads. -/
def rdm (s : State) (x : BamMsg) := (((s.upTo t0).taken 0 0 x.seq).disarm 0).readEntry 0 (x.num 0 2) (x.num 2 1)
def rmr := (((op.upTo t0).taken 0 0 (pm rdTwo).seq).disarm 0).itemsBytes 0 (addrsOf ((pm rdTwo).num 0 1) (List.drop 2 (pm rdTwo).payload))

/-- The clauses of SessionsOpenAndClose. -/
theorem witness_SessionsOpenAndClose :
    (0 < 2 ∧ 0 < 16 ∧ hk.net.bamcon.sessions[0]? = some (hk.sess 0) ∧ parseMsg h1 = some (pm h1) ∧ (pm h1).type_ = 1 ∧ (hk.upTo t0).canSend 0 = true
          ∧ (hk.upTo t0).served 0 = true ∧ (pm h1).version / 16 = 1 ∧ (pm h1).num 0 1 = 1
          ∧ (hk.upTo t0).lockedOut { link := 0, ip := 9, port := 99, session := (pm h1).session, seq := (pm h1).seq : Origin } = false
          ∧ List.length (pm h1).payload = 20 ∧ 2 ≤ (pm h1).num 2 1 ∧ 1 ≤ (pm h1).num 1 1 ∧ (pm h1).num 1 1 ≤ 4 ∧ roleKeyOf hk ((pm h1).num 1 1) ≠ []
          ∧ (hk.sess 0).state = 0 ∧ (∀ (j : Nat), j < 0 → (hk.sess j).state ≠ 0))
    ∧ (0 < 2 ∧ 0 < 16 ∧ hf.net.bamcon.sessions[0]? = some (hf.sess 0) ∧ parseMsg h1 = some (pm h1) ∧ (pm h1).type_ = 1
          ∧ (hf.upTo t0).canSend 0 = true ∧ (hf.upTo t0).served 0 = true ∧ (pm h1).version / 16 = 1 ∧ (pm h1).num 0 1 = 1
          ∧ (hf.upTo t0).lockedOut { link := 0, ip := 9, port := 99, session := (pm h1).session, seq := (pm h1).seq : Origin } = false
          ∧ List.length (pm h1).payload = 20 ∧ 2 ≤ (pm h1).num 2 1 ∧ 1 ≤ (pm h1).num 1 1 ∧ (pm h1).num 1 1 ≤ 4 ∧ roleKeyOf hf ((pm h1).num 1 1) ≠ []
          ∧ (∀ (j : Nat), j < 16 → (hf.sess j).state ≠ 0)) :=
  by refine ⟨?_, ?_⟩ <;> decide +kernel

/-- The clauses of SessionsOpenAndClose, continued. -/
theorem witness_SessionsOpenAndClose_2 :
    (0 < 2 ∧ 0 < 16 ∧ (ho [4]).net.bamcon.sessions[0]? = some ((ho []).sess 0) ∧ parseMsg (h2 [4]) = some (pm (h2 [4])) ∧ (pm (h2 [4])).type_ = 1
          ∧ ((ho [4]).upTo t0).canSend 0 = true ∧ ((ho [4]).upTo t0).served 0 = true ∧ (pm (h2 [4])).version / 16 = 1 ∧ (pm (h2 [4])).num 0 1 = 2
          ∧ ((ho [4]).upTo t0).lockedOut { link := 0, ip := 9, port := 99, session := (pm (h2 [4])).session, seq := (pm (h2 [4])).seq : Origin } =
          false ∧ List.length (pm (h2 [4])).payload = 36 ∧ ((ho []).sess 0).state = 1 ∧ ((ho []).sess 0).number = (pm (h2 [4])).session
          ∧ ((ho []).sess 0).link = 0 ∧ (∀ (j : Nat), j < 0 → ¬(((ho [4]).sess j).state = 1 ∧ ((ho [4]).sess j).number = (pm (h2 [4])).session
          ∧ ((ho [4]).sess j).link = 0))
          ∧ List.drop 4 (pm (h2 [4])).payload = bamProof (roleKeyOf (ho [4]) ((ho []).sess 0).role) [66, 67,
          49] ((ho []).sess 0).number ((ho []).sess 0).module ((ho []).sess 0).client
          ∧ max (ho [4]).now t0 ≤ ((ho []).sess 0).replied + 5000000000) :=
  by decide +kernel

/-- The clauses of SessionsOpenAndClose, continued. -/
theorem witness_SessionsOpenAndClose_3 :
    (0 < 2 ∧ 0 < 16 ∧ (ho [4]).net.bamcon.sessions[0]? = some ((ho []).sess 0) ∧ parseMsg (h2 [5]) = some (pm (h2 [5])) ∧ (pm (h2 [5])).type_ = 1
          ∧ ((ho [4]).upTo t0).canSend 0 = true ∧ ((ho [4]).upTo t0).served 0 = true ∧ (pm (h2 [5])).version / 16 = 1 ∧ (pm (h2 [5])).num 0 1 = 2
          ∧ ((ho [4]).upTo t0).lockedOut { link := 0, ip := 9, port := 99, session := (pm (h2 [5])).session, seq := (pm (h2 [5])).seq : Origin } =
          false ∧ List.length (pm (h2 [5])).payload = 36 ∧ ((ho []).sess 0).state = 1 ∧ ((ho []).sess 0).number = (pm (h2 [5])).session
          ∧ ((ho []).sess 0).link = 0 ∧ (∀ (j : Nat), j < 0 → ¬(((ho [4]).sess j).state = 1 ∧ ((ho [4]).sess j).number = (pm (h2 [5])).session
          ∧ ((ho [4]).sess j).link = 0))
          ∧ (¬List.drop 4 (pm (h2 [5])).payload = bamProof (roleKeyOf (ho [4]) ((ho []).sess 0).role) [66, 67,
          49] ((ho []).sess 0).number ((ho []).sess 0).module ((ho []).sess 0).client ∨ ((ho []).sess 0).replied + 5000000000 < max (ho [4]).now t0))
    ∧ (0 < 2 ∧ 0 < 16 ∧ op.net.bamcon.sessions[0]? = some (op.sess 0) ∧ parseMsg goodbye = some (pm goodbye) ∧ (pm goodbye).type_ = 1
          ∧ (op.upTo t0).canSend 0 = true ∧ (op.upTo t0).served 0 = true ∧ (pm goodbye).version / 16 = 1 ∧ (pm goodbye).num 0 1 = 3
          ∧ (op.upTo t0).slotOf { link := 0, ip := 3232235522, port := 99, session := (pm goodbye).session, seq := (pm goodbye).seq : Origin } = some
          0 ∧ (pm goodbye).tag = bamTag (op.sess 0).key (pm goodbye).body ∧ (op.sess 0).highSeq < (pm goodbye).seq) :=
  by refine ⟨?_, ?_⟩ <;> decide +kernel

/-- The clauses of SessionsOpenAndClose, continued. -/
theorem witness_SessionsOpenAndClose_4 :
    (0 < 2 ∧ 0 < 16 ∧ idl.net.bamcon.sessions[0]? = some (idl.sess 0) ∧ idl.live = true ∧ (idl.sess 0).state ≠ 0
          ∧ (idl.sess 0).validAt + 1000000000 * idl.cfg 4640 3 ≤ max idl.now t0)
    ∧ (0 < 2 ∧ 0 < 16 ∧ tro.net.bamcon.sessions[0]? = some (tro.sess 0)
          ∧ { number := 3, idx := 9217, sub := 3, total := 100, data := [1], at_ := 0, role := 4 : Transfer } ∈ tro.net.bamcon.transfers
          ∧ tro.live = true
          ∧ { number := 3, idx := 9217, sub := 3, total := 100, data := [1], at_ := 0, role := 4 : Transfer }.at_ + 600000000000 ≤ max tro.now t0) :=
  by refine ⟨?_, ?_⟩ <;> decide +kernel

/-- The clauses of ReadsAndWritesAreAnswered. -/
theorem witness_ReadsAndWritesAreAnswered :
    ((op.upTo t0).heard 0 3232235522 99 rdMode (pm rdMode) 0 ∧ (pm rdMode).type_ = 2 ∧ List.length (pm rdMode).payload = 4
          ∧ (((op.upTo t0).taken 0 0 (pm rdMode).seq).disarm 0).readEntry 0 ((pm rdMode).num 0 2) ((pm rdMode).num 2 1) = ((rdm op (pm rdMode)).fst,
          Status.ok, (rdm op (pm rdMode)).snd.snd.fst, (rdm op (pm rdMode)).snd.snd.snd)
          ∧ List.length (valBytes (rdm op (pm rdMode)).snd.snd.fst (rdm op (pm rdMode)).snd.snd.snd) ≤ 1396)
    ∧ ((op.upTo t0).heard 0 3232235522 99 rdNone (pm rdNone) 0 ∧ (pm rdNone).type_ = 2 ∧ List.length (pm rdNone).payload = 4
          ∧ (lookup ((pm rdNone).num 0 2) ((pm rdNone).num 2 1)).fst = Status.noEntry)
    ∧ ((op.upTo t0).heard 0 3232235522 99 wrPri (pm wrPri) 0 ∧ (pm wrPri).type_ = 3 ∧ 4 ≤ List.length (pm wrPri).payload
          ∧ List.length (pm wrPri).payload ≤ 1400 ∧ ((op.upTo t0).taken 0 0 (pm wrPri).seq).applyWait 0 (pm wrPri) = false
          ∧ (∀ (c : Staged),
          c ∈ (((op.upTo t0).taken 0 0
          (pm wrPri).seq).writeItem 0 none 0
          { idx := (pm wrPri).num 0 2, sub := (pm wrPri).num 2 1, dtype := (pm wrPri).num 3 1, data := List.drop 4 (pm wrPri).payload : WItem }).fst.staged → c.wait = none) ∧ (((op.upTo t0).taken 0 0 (pm wrPri).seq).writeItem 0 none 0 { idx := (pm wrPri).num 0 2, sub := (pm wrPri).num 2 1, dtype := (pm wrPri).num 3 1, data := List.drop 4 (pm wrPri).payload : WItem }).fst.served 0 = true) :=
  by refine ⟨⟨by unfold State.heard; decide +kernel, ?_, ?_, Prod.ext rfl (Prod.ext (by decide +kernel) rfl), ?_⟩, ?_,
        ?_⟩ <;> first | decide +kernel | (unfold State.heard; decide +kernel)

/-- The clauses of ReadsAndWritesAreAnswered, continued. -/
theorem witness_ReadsAndWritesAreAnswered_2 :
    ((op.upTo t0).heard 0 3232235522 99 rdTwo (pm rdTwo) 0 ∧ (pm rdTwo).type_ = 4 ∧ (pm rdTwo).num 0 1 ≤ 64
          ∧ List.length (pm rdTwo).payload = 2 + 4 * (pm rdTwo).num 0 1
          ∧ (((op.upTo t0).taken 0 0 (pm rdTwo).seq).disarm 0).itemsBytes 0 (addrsOf ((pm rdTwo).num 0 1) (List.drop 2 (pm rdTwo).payload)) =
          (rmr.fst, rmr.snd) ∧ List.length rmr.snd ≤ 1398)
    ∧ ((op.upTo t0).heard 0 3232235522 99 wrOne (pm wrOne) 0 ∧ (pm wrOne).type_ = 5 ∧ (pm wrOne).num 0 1 ≤ 64
          ∧ itemsOf ((pm wrOne).num 0 1) (List.drop 2 (pm wrOne).payload) = some ((itemsOf 1 (List.drop 2 (pm wrOne).payload)).getD [])
          ∧ 2 ≤ List.length (pm wrOne).payload ∧ List.length (pm wrOne).payload ≤ 1400
          ∧ (∀ (c : Staged),
          c ∈ (((op.upTo t0).taken 0 0 (pm wrOne).seq).writeItems 0 (pm wrOne) 0 ((itemsOf 1 (List.drop 2 (pm wrOne).payload)).getD [])).fst.staged
          → c.wait = none)
          ∧ (((op.upTo t0).taken 0 0 (pm wrOne).seq).writeItems 0 (pm wrOne) 0 ((itemsOf 1 (List.drop 2
          (pm wrOne).payload)).getD [])).fst.served 0 = true) :=
  by refine ⟨⟨by unfold State.heard; decide +kernel, ?_, ?_, ?_, Prod.ext rfl rfl, ?_⟩, by unfold State.heard; decide +kernel⟩ <;> decide +kernel

end Sys2Proof.Tests.Sessions
end

