-- ==== Sys2Proof/Tests/Slice0.lean ====
section
/-! SUPPORT. Tests: what WellFormed refuses, the worked examples of the spec, published vectors, and witnesses for the statements about
every command. Each expected value comes from the place that its comment names. -/
set_option Elab.async false
namespace Sys2Proof.Tests
open Sys2Proof.Machine Sys2Proof.Tests.Samples

/-- The state after a command, or the state before it where the command does not answer a next state. -/
def after (c : Instr) (s : State) : State := match exec c s with | .next s' => s' | _ => s

/-! What WellFormed refuses: a unit that does not exist, an origin that no link has, a message longer than a datagram. -/

theorem test_wf_unit : Instr.wf (.zEdge 0 8) = false ∧ Instr.wf (.zEdge 0 7) = true := by decide
theorem test_wf_origin : Instr.wf (.dispatchOff 0 ⟨3, 0, 0, 0, 0⟩) = false ∧ Instr.wf (.dispatchOff 0 ⟨1, 0, 0, 0, 0⟩) = true := by decide
theorem test_wf_message : Instr.wf (.read 0 0 (2 ^ 32) 0 []) = false ∧ Instr.wf (.read 0 0 0 (2 ^ 16) []) = false ∧ Instr.wf (.read 0 0 0 0 []) = true := by decide
theorem test_wf_long_message : Instr.wf (.read 0 0 0 0 (List.replicate 1433 0)) = false := by decide +kernel

/-- No row of the opcode table gives bits. -/
theorem test_decode_none : decodeTableWord 32 0 = none := rfl

/-! Witnesses for the statements about every command -/

/-- A state with a well-formed command waiting. -/
theorem witness_WellFormedQueuesRun : ({ live with pending := [.zEdge 0 7, .ppsIn 5] } : State).queued := by
  unfold State.queued; decide

/-- A command at the front of a queue, and an empty queue. -/
theorem witness_StepRunsTheFront : ({ live with pending := [.zEdge 0 7] } : State).pending = .zEdge 0 7 :: [] ∧ live.pending = [] := ⟨rfl, rfl⟩

/-- A command that answers a next state. -/
theorem witness_CommandsStayInTheirFootprint : ∃ s', exec (.applyPoint 5) live = .next s' := ⟨_, rfl⟩

/-- An anchored state, its Plan-key group burning a value, that takes a command. -/
def burning : State :=
  { live with fuses := ⟨{ (default : Fuse) with used := 1, committed := [2] }, { (default : Fuse) with used := 1, burn := 1, next := [1] }⟩, pending := [.fuseBurnDone t0 true] }
theorem witness_AnchoredIsKept : burning.anchored ∧ ∃ s', step burning = .next s' := by
  refine ⟨?_, _, rfl⟩
  unfold State.anchored Fuse.sound
  decide +kernel
/-- The same state serves the statement on committed fuses: one group is committed, and the other commits at the step. -/
theorem witness_CommittedFusesStay : burning.anchored ∧ burning.fuses.win.committed ≠ [] ∧ ∃ s', step burning = .next s' :=
  ⟨witness_AnchoredIsKept.1, by decide, witness_AnchoredIsKept.2⟩

/-! Position (02) -/

/-- The worn wheel of the worked example in 02: 3,994,976 ÷ 625 pu per count. -/
def wheel : State := (cf quad [(0x2040, 2, 1), (0x2010, 5, 3994976), (0x2010, 6, 625)]).updSrc 0 fun r => { r with enabled := true, active := 1 }
def wheel1 : State := after (.encoderCount t0 0 true false) wheel
/-- 02, worked example: the first count gives +6,391 pu, the second +6,392. -/
theorem test_wheel_first : (wheel1.src 0).lpc = 6391 := by decide +kernel
theorem test_wheel_second : ((after (.encoderCount t0 0 true true) wheel1).src 0).lpc = 12783 := by decide +kernel

/-- A source that moves at `v` pu/µs with an acceleration of 1.28 × 10⁻⁴ pu/µs². -/
def strobe (v : Rat) : State := (cf quad [(0x2040, 2, 1)]).updSrc 0 fun r =>
  { r with enabled := true, active := 1, v := (v * 2 ^ 32).floor, a := ((128 / 1000000 : Rat) * 2 ^ 32).floor, counted := true, tickAt := 10000000000 }
/-- 03, worked example: 3,000 pu ahead, τ is 3.662108 µs at 819.2 pu/µs and 234.10 µs at 12.8 pu/µs. -/
theorem test_tau_line : (((strobe (4096 / 5)).tau 0 (3000 * 2 ^ 32)).getD 0 * 1000).floor = 3662108 := by decide +kernel
theorem test_tau_threading : (((strobe (64 / 5)).tau 0 (3000 * 2 ^ 32)).getD 0 / 10).floor = 23410 := by decide +kernel

/-! Treads and Roselo (03, 10) -/

/-- 03, worked example: the camera Tread's words. -/
theorem test_tread_camera :
    let w : BitVec 128 := 0x20B8F9FF8003E8000000000000000000
    treadOperand w = 0x105 ∧ treadAction w = 6 ∧ treadSource w = 0 ∧ treadRepeats w = 63999 ∧ treadRel w = true ∧ treadPitch w = 256000 ∧ treadPos w = 0 := by decide
/-- 03, worked example: the strobe Tread's upper word. -/
theorem test_tread_strobe :
    let w : BitVec 128 := 0x0645F9FF8003E8000000000000000000
    treadOperand w = 0x032 ∧ treadAction w = 1 ∧ treadSource w = 1 ∧ treadRepeats w = 63999 := by decide
/-- 10, worked example: the payload of the trigger frame of firing 1,024, and its destination. -/
theorem test_trigger_frame :
    triggerFrame 2 1024 ⟨0, 0, 5, 1, 0x1B10000000000000, 262400000⟩ =
      [0x12, 2, 0x1C, 0, 0, 4, 5, 0, 0, 0, 0, 0, 0, 0, 0x10, 0x1B, 1, 0, 0, 0, 0, 0xE8, 0xA3, 0x0F, 0, 0, 0, 0] ++ List.replicate 14 0 := by decide +kernel
theorem test_trigger_destination : roseloDest 1 5 = 0x034C58010005 := by decide
/-- 10, worked example: the header of the group write's response. -/
theorem test_bamcon_header : bamHeader 0x13 0x83 1 3 0x7A310C55 0x102 8 = [0x13, 0x83, 1, 3, 0x55, 0x0C, 0x31, 0x7A, 2, 1, 0, 0, 8, 0, 0, 0] := by decide +kernel

/-! Tasks and Galleries (04, 05) -/

/-- 04, worked example: T0 copies in for 1.792 µs and out for 1.392 µs. -/
theorem test_copies_t0 : copyNs [⟨.wi, 0, 2048, 0⟩, ⟨.hi, 0, 16384, 0⟩, ⟨.wm, 0, 4096, 0⟩, ⟨.hs, 0, 256, 0⟩] = 1792
    ∧ copyNs [⟨.wo, 0, 1024, 0⟩, ⟨.ho, 0, 8192, 0⟩, ⟨.wm, 4096, 4096, 0⟩] = 1392 := by decide
/-- 04, worked example: T1 copies in for 0.104 µs and out for 0.048 µs. -/
theorem test_copies_t1 : copyNs [⟨.wi, 2048, 256, 0⟩, ⟨.hi, 16384, 1024, 0⟩] = 104 ∧ copyNs [⟨.wo, 1024, 128, 0⟩] = 48 := by decide

/-- The Bundles of the pinch-roll interlock, as 05 writes them out. -/
def interlock : List (BitVec 128) :=
  [0x00000000048400000810002904000028, 0x00000000000000000C10002A14000064, 0x00000000000000000000000048000001, 0x00000000000000002000006420000054,
   0x00000000000000000000000064000001, 0x00000000148405DC0000000000000000, 0x00840106000000000000000000000000, 0x0FC00000000000000000000000000000]
/-- The interlock's task executes on G0 and stands at Bundle `pc`. -/
def rung (pc : Nat) (g : Gallery → Gallery) (x : TaskSt → TaskSt) : State :=
  gal (tk (withPlan live { plan0 with
    code := [interlock, [], [], []]
    table := { plan0.table with slots := [[⟨0, 0, 0, 8, 100⟩]] }
    tasks := [{ (default : TaskDecl) with kind := 1, gallery := 0, period := 1000000, wcet := 100, finish := 500000, bitSize := 256, wordSize := 512 }] }) 0
    fun y => x { y with phase := .running, on := 0, segs := [0], pc := pc }) 0 g
def issue0 (s : State) : State := after (.bundleIssue t0 0 0 0) s
/-- 05, worked example, with START = 1, STOP = 0 and GUARD = 1: B0 gives A0 = 1 and A1 = 1. -/
theorem test_rung_b0 : ((issue0 (rung 0 id fun y => { y with bits := [(0x28, true), (0x2A, true)] })).gallery 0).accs = 3 := by decide +kernel
/-- B3 writes HO:500 and HM:900 in the image. -/
theorem test_rung_b3 : ((issue0 (rung 3 (fun g => { g with accs := 1 }) id)).task 0).bits = [(0x54, true), (0x64, true)] := by decide +kernel
/-- B4 gives P1 = 1. -/
theorem test_rung_b4 : ((issue0 (rung 4 (fun g => { g with accs := 1 }) id)).gallery 0).preds = 2 := by decide +kernel
/-- B5 gives W4 = 1,500 where P1 is 1. -/
theorem test_rung_b5 : ((issue0 (rung 5 (fun g => { g with preds := 2 }) id)).gallery 0).words.getD 4 0 = 1500 := by decide +kernel
/-- B5 leaves W4 where P1 is 0. -/
theorem test_rung_b5_false : ((issue0 (rung 5 id id)).gallery 0).words.getD 4 0 = 0 := by decide +kernel
/-- B6 writes WO:1030 in the image. -/
theorem test_rung_b6 : ((issue0 (rung 6 (fun g => { g with words := g.words.set 4 1500 }) id)).task 0).words = [(0x106, 1500)] := by decide +kernel
/-- B7 ends the task's code. -/
theorem test_rung_b7 : ((issue0 (rung 7 id id)).task 0).phase = .landing := by decide +kernel

/-- 05, worked example: 25/576 × 13,824 is 600.0 and × 27,648 is 1,200.0. -/
theorem test_scale : (fMul (iToF false 13824).val 0x3D31C71C).val = 0x44160000 ∧ (fMul (iToF false 27648).val 0x3D31C71C).val = 0x44960000 := by decide +kernel

/-- The TON of the tail-out delay: POS = 1, SHIFT = 8, GOAL = 1,500,000, after the execution that first sees A = 1 and `n` more. -/
def ton (tally : Word) (stamp : Word) : TimerRec := ⟨1500000, tally, stamp, 0x00081009⟩
/-- 05, worked example: TALLY is 0 at the first sighting; 3,200 units an execution; Q at the 469th after it. -/
theorem test_ton_first : (timerStep 3200 true ⟨1500000, 0, 0, 0x00081000⟩).1.tally = 0 := by decide +kernel
theorem test_ton_last : (timerStep (3200 * 470) true (ton (3200 * 468) (3200 * 469))).2 = true
    ∧ (timerStep (3200 * 469) true (ton (3200 * 467) (3200 * 468))).2 = false := by decide +kernel

/-! Loops and the Dispatcher (07, 08) -/

/-- 07: 42.0, 0.25 and 556.0 as BFP words (the last from the worked example of 10). -/
theorem test_bfp_words : bfpWord (bfpRound 42).val = 0x54000006 ∧ bfpWord (bfpRound (1 / 4)).val = 0x400000FF ∧ bfpWord (bfpRound 556).val = 0x4580000A := by decide +kernel

/-- The bridle tension loop of the worked example in 07. -/
def bridle : LoopPar :=
  ⟨⟨0, 0⟩, bfpOfWord 0x66666600, bfpOfWord 0x418937F7, bfpOfWord 0x40000002, bfpOfWord 0x400000FF, (bfpRound (-10)).val, (bfpRound 10).val,
    (bfpRound (-20)).val, (bfpRound 20).val, bfpOfWord 0x666666FC, [⟨0, 0x40000000⟩, ⟨0x40000002, 0x40000001⟩]⟩
def bridleAfter : LoopVal :=
  evaluate bridle (bfpRound 42).val ⟨0, 0⟩ (bfpRound (661 / 16)).val
    ⟨(bfpRound 42).val, (bfpRound (165 / 4)).val, ⟨0, 0⟩, ⟨0, 0⟩, (bfpRound 4).val, (bfpRound (17 / 4)).val, 0⟩
/-- 07, worked example: ERROR, PV_FILT and GAIN of one evaluation. -/
theorem test_bridle_error : bfpWord bridleAfter.error = 0x58000000 ∧ bfpWord bridleAfter.pvFilt = 0x52880006 ∧ bfpWord bridleAfter.gain = 0x56000000 := by decide +kernel
/-- 07, worked example: I_TERM, OUTPUT, the F32 written, and RATE set. -/
theorem test_bridle_output : bfpWord bridleAfter.iTerm = 0x4002D103 ∧ bfpWord bridleAfter.output = 0x44CCCD03
    ∧ bfpToF32 bridleAfter.output = 0x4089999A ∧ bridleAfter.status = stRate := by decide +kernel
/-- 07, worked example: a ramp step of the lehr zone is 410 units of 2^−13, and the last one 282. -/
theorem test_soft_start_step :
    bfpVal (stage1 { bridle with rampStep := bfpOfWord 0x666666FC } (bfpRound 560).val (bfpRound (-5 / 2)).val (bfpRound 540).val).1.val = 540 + 410 / 8192 := by decide +kernel
theorem test_soft_start_last :
    bfpVal (stage1 { bridle with rampStep := bfpOfWord 0x666666FC } (bfpRound 560).val (bfpRound (-4)).val (bfpRound (4554470 / 8192)).val).1.val = 556 := by decide +kernel

/-- One burner bank of the lehr in 08 and one consumer that it feeds. -/
def bank : DspItem :=
  { (default : DspItem) with
    avail := true, pMin := 200, pMax := 1500, low := 200, segs := [(700, 40), (600, 46)], lower := 200, upper := 1500, curve := [(700, 40), (600, 46)] }
def heat (demand : Rat) : DspSnap :=
  { (default : DspSnap) with
    items := [bank, { (default : DspItem) with kind := 2, demand := demand }]
    balances := 1, capEff := 12000, priceMin := -500, priceMax := 1000, piMax := 1000 }
/-- 08 R404: demand below P_MIN is a surplus, demand above all supply is short. -/
theorem test_dispatch_surplus : (dspEvaluate (heat 100)).surplus = 1 ∧ (dspEvaluate (heat 100)).lambdas = [-500] := by decide +kernel
theorem test_dispatch_short : (dspEvaluate (heat 1600)).short = 1 ∧ (dspEvaluate (heat 1600)).lambdas = [1000] := by decide +kernel

/-! Field inputs and outputs, CAN (09, 11) -/

/-- The differential-pressure transmitter of the worked example in 09. -/
def pressure : State := cf live [(0x2703, 1, 1), (0x2703, 2, 1), (0x2703, 3, 0), (0x2703, 4, 0x43C80000), (0x2703, 5, 0x3D4CCCCD)]
/-- 09, worked example: 9.000 mA gives 223.607 m³/h, and 4.030 mA is cut off. -/
theorem test_square_root : ((pressure.aioValue 3 9).1 * 1000).floor = 223606 ∧ pressure.aioValue 3 (403 / 100) = (0, true) := by decide +kernel

/-- The drive bus of the worked example in 11. -/
def drive : State :=
  cf live [(0x1340, 3, 2), (0x1340, 4, 63), (0x1340, 5, 16), (0x1340, 6, 16), (0x1340, 7, 1), (0x1340, 8, 1), (0x1340, 9, 15), (0x1340, 0xA, 4), (0x1340, 0xB, 4)]
/-- 11, worked example: NOMINAL_RATE 500,000, DATA_RATE 4,000,000, and the timing is accepted. -/
theorem test_can_rates : drive.canNomRate 1 = 500000 ∧ drive.canDataRate 1 = 4000000 ∧ drive.canTimingBad 1 = false := by decide +kernel

/-! Raw pages and the calendar (13, 15) -/

/-- Page 0x123 holds 0x00; ten bytes are written at 0x123FA. -/
def wrapped : State :=
  ({ live with nvm := { live.nvm with pages := [(0x123, List.replicate 256 0)] } } : State).pageWrite 0x123FA ((List.range 10).map fun i => BitVec.ofNat 8 (0x31 + i))
/-- 13, worked example: the write wraps in its page. -/
theorem test_page_wraps : (wrapped.page 0x123).take 5 = [0x37, 0x38, 0x39, 0x3A, 0] ∧ (wrapped.page 0x123).drop 0xF9 = [0, 0x31, 0x32, 0x33, 0x34, 0x35, 0x36] := by decide +kernel
/-- 13, worked example: a read crosses into page 0x124. -/
theorem test_page_read_crosses : (wrapped.pageRead 0x123FC 8).take 4 = [0x33, 0x34, 0x35, 0x36] ∧ (wrapped.pageRead 0x123FC 8).drop 4 = (wrapped.page 0x124).take 4 := by decide +kernel

/-- 15: 2031-03-12 14:20:00 reads 0x0000_1F03_4C0E_1400, and SECONDS 984,406,800. -/
theorem test_calendar : calendarWord (984406800 * 32768) = 0x00001F034C0E1400 ∧ calendarTicks 0x00001F034C0E1400 = some (984406800 * 32768) := by decide +kernel
/-- 08, worked example: that instant is hour 62 of the week. -/
theorem test_week_hour : ({ live with clock := { live.clock with rtcBase := 984406800 * 32768, rtcAt := 10000000000 } } : State).weekHour = 62 := by decide +kernel

/-! Published vectors -/

/-- FIPS 180-4: SHA-256 of "abc". -/
theorem test_sha256 : beNat (sha256 [0x61, 0x62, 0x63]) = 0xBA7816BF8F01CFEA414140DE5DAE2223B00361A396177A9CB410FF61F20015AD := by decide +kernel
/-- The check values of CRC-32 and CRC-32C over "123456789". -/
theorem test_crc : crc32 (leBytes 9 0x393837363534333231) = 0xCBF43926 ∧ crc32c (leBytes 9 0x393837363534333231) = 0xE3069283 := by decide +kernel
/-- RFC 8032, 7.1, test 1: the signature of the empty message. -/
theorem test_ed25519 :
    edVerify (leBytes 32 0xd75a980182b10ab7d54bfed3c964073a0ee172f3daa62325af021a68f707511a).reverse []
      (leBytes 64 0xe5564300c360ac729086e2cc806e828a84877f1eb8e5d974d873e065224901555fb8821590a33bacc61e39701cf9b46bd25bf5f0595bbe24655141438e7a100b).reverse = true := by decide +kernel
/-- The same signature does not hold for another message. -/
theorem test_ed25519_other :
    edVerify (leBytes 32 0xd75a980182b10ab7d54bfed3c964073a0ee172f3daa62325af021a68f707511a).reverse [1]
      (leBytes 64 0xe5564300c360ac729086e2cc806e828a84877f1eb8e5d974d873e065224901555fb8821590a33bacc61e39701cf9b46bd25bf5f0595bbe24655141438e7a100b).reverse = false := by decide +kernel
/-- 06 R309 with RFC 8032: d is −121665/121666. -/
theorem test_curve_constant : edD * 121666 % edP = edP - 121665 := by decide +kernel

end Sys2Proof.Tests
end

