-- ==== Sys2Proof/Tests/Tasks.lean ====
section
/-! SUPPORT. Witnesses for the statements on tasks, Bundles, failures and Landings: for each clause of a statement,
      a state and operands that meet its hypotheses together. -/
set_option Elab.async false
namespace Sys2Proof.Tests.Tasks
open Sys2Proof.Machine Sys2Proof.Tests.Samples

def p0 : State := withPlan live plan0
def pr (n : Nat) : State := { withPlan live plan0 with tasks := { live.tasks with runAt := 10000000100 - 1000000 * n } }
def pdm : State := { pr 2 with mode := .standby, pair := { live.pair with role := 2, switching := 3, switchF := 5 } }
def pev : State :=
  tk (withPlan live { plan0 with tasks := plan0.tasks ++ [{ (default : TaskDecl) with kind := 3, gallery := 1, wcet := 10, finish := 500, bitSize := 64 }] }) 1 fun x => { x with occurred := 3 }
def ppo : State :=
  withPlan live { plan0 with tasks := plan0.tasks ++ [{ (default : TaskDecl) with kind := 2, gallery := 3, wcet := 10, finish := 500, bitSize := 64 }] }
def ppo1 : State := { ppo with tasks := { ppo.tasks with launches := [(1,9)] } }
def pal : State := tk pev 1 fun x => { x with occurred := 0 }
def pci : State := tk p0 0 fun x => { x with phase := .pending }
def bb (b : BitVec 128) (busy : List Busy): State :=
  gal (tk (withPlan live { plan0 with code := [[b, b],[],[],[]], table := { plan0.table with slots := [[⟨0,0,0,1,100⟩,⟨500,0,1,2,100⟩]] } }) 0 fun x => { x with phase := .running, segs := [0, 1] }) 0 fun g => { g with busy := busy }
def addB : BitVec 128 := BitVec.ofNat 128 ((0x01 * 2^22 + 1 * 2^16 + 2 * 2^10 + 3 * 2^4) * 2^64)
def op3 (op : Nat) : BitVec 128 := BitVec.ofNat 128 (op * 2^22 * 2^96)
def s1 := bb addB [⟨.word 3, 0, 99999999999⟩]
def stb : State := { bb addB [] with mode := .standby }
def ex : Exec :=
  ⟨{ resetGallery with words := (List.range 64).map (fun n => BitVec.ofNat 32 (n * 0x10000001)), accs := 0x00FF00FF00FF00F2#64 }, (bb 0 []).task 0, [], [], []⟩
def ev : ExecEnv := default
def bslot (op a o : Nat) : Nat := op * 2^26 + a * 2^20 + o
def wslot (op d a b m : Nat) : Nat := op*2^22 + d*2^16 + a*2^10 + b*2^4 + m
def bun (a b c d : Nat) : BitVec 128 := BitVec.ofNat 128 (a + b*2^32 + c*2^64 + d*2^96)
def ex1 : Exec := { ex with t := { ex.t with bits := [(5,true)], words := [(7,77#32)] } }
def arg0 := { ev with wordSize := 64 }
def arg1 := { ev with wordSize := 4 }
def g0 : State := p0
def nl : State := tk p0 0 fun x => { x with phase := .running, release := 5 }
def ld : State := tk p0 0 fun x => { x with phase := .landing, release := 5 }
def ld1 : State := tk (withPlan live { plan0 with tasks := plan0.tasks ++ plan0.tasks }) 1 fun x => { x with phase := .landing, release := 5 }
def dr0 : DspResult := default
def ldw : State := { ld with dsp := { ld.dsp with waiting := some default } }
def sub : State := gal { pr 1 with tasks := { (pr 1).tasks with runAt := 10000000100 - 1500000 } } 0 fun g => { g with failed := true }
def stp : State := ({ live with mode := .stop }).updSrc 0 fun r => { r with preset := some (.atLanding 77) }
def stg (n : Nat) : State := { stp with staged := [⟨0x1100,6,.value 0x1100 6 (.num 2),none,some n⟩] }
def arf : State := { (live.updFlight 3 fun f => { f with state := .armed }) with tasks := { live.tasks with armf := [(3,2,5)] } }
def evd : State := gal live 0 fun g => { g with events := [default, default] }

/-- The clauses of TasksStartAsDeclared. -/
theorem witness_TasksStartAsDeclared :
    (0 < 64 ∧ (pr 1).tasks.tasks[0]? = some ((pr 1).task 0) ∧ ((pr 1).upTo t0).releases 0 = true
          ∧ (((pr 1).upTo t0).slotPlan.tasks.getD 0 default).kind = 1 ∧ (((pr 1).upTo t0).slotPlan.tasks.getD 0 default).period ≠ 0
          ∧ (pr 1).tasks.runAt + (((pr 1).upTo t0).slotPlan.tasks.getD 0 default).offset ≤ max (pr 1).now t0
          ∧ (max (pr 1).now t0 - ((pr 1).tasks.runAt + (((pr 1).upTo t0).slotPlan.tasks.getD 0 default).offset)) %
          (((pr 1).upTo t0).slotPlan.tasks.getD 0 default).period = 0 ∧ ((pr 1).task 0).phase = Phase.idle ∧ ((pr 1).upTo t0).deltaMissing 0 = false)
    ∧ (0 < 64 ∧ pdm.tasks.tasks[0]? = some (pdm.task 0) ∧ (pdm.upTo t0).releases 0 = true ∧ ((pdm.upTo t0).slotPlan.tasks.getD 0 default).kind = 1
          ∧ ((pdm.upTo t0).slotPlan.tasks.getD 0 default).period ≠ 0
          ∧ pdm.tasks.runAt + ((pdm.upTo t0).slotPlan.tasks.getD 0 default).offset ≤ max pdm.now t0
          ∧ (max pdm.now t0 - (pdm.tasks.runAt + ((pdm.upTo t0).slotPlan.tasks.getD 0 default).offset)) %
          ((pdm.upTo t0).slotPlan.tasks.getD 0 default).period = 0 ∧ (pdm.task 0).phase = Phase.idle ∧ (pdm.upTo t0).deltaMissing 0 = true)
    ∧ (1 < 64 ∧ pev.tasks.tasks[1]? = some (pev.task 1) ∧ (pev.upTo t0).releases 1 = true ∧ (pev.plan.tasks.getD 1 default).kind = 3
          ∧ (pev.task 1).phase = Phase.idle ∧ (pev.task 1).occurred ≠ 0) :=
  by refine ⟨?_, ?_, ?_⟩ <;> decide +kernel

/-- The clauses of TasksStartAsDeclared, continued. -/
theorem witness_TasksStartAsDeclared_2 :
    (1 < 64 ∧ pal.tasks.tasks[1]? = some (pal.task 1) ∧ (pal.upTo t0).releases 1 = true ∧ (pal.plan.tasks.getD 1 default).kind = 3
          ∧ (pal.task 1).phase = Phase.idle ∧ (pal.task 1).occurred = 0 ∧ (pal.upTo t0).occurrenceComing 1 = false)
    ∧ (1 < 64 ∧ ppo1.tasks.tasks[1]? = some (ppo1.task 1) ∧ ppo1.live = true ∧ ppo1.base ≠ Mode.standby ∧ ppo1.tasks.launches = [(1, 9)]
          ∧ (ppo1.upTo t0).positionRuns 1 = true ∧ (∀ (j : Nat), j < 64 → (ppo1.plan.tasks.getD j default).kind = 2
          → (ppo1.task j).phase = Phase.idle))
    ∧ (0 < 64 ∧ pci.tasks.tasks[0]? = some (pci.task 0) ∧ pci.live = true ∧ pci.base ≠ Mode.standby ∧ (pci.task 0).phase = Phase.pending
          ∧ (pci.upTo t0).copyInTurn 0 = true ∧ (pci.upTo t0).occurrenceComing 0 = false) :=
  by refine ⟨?_, ?_, ?_⟩ <;> decide +kernel

/-- The clauses of BundlesIssueInOrder. -/
theorem witness_BundlesIssueInOrder :
    (0 < 4 ∧ 0 < 64 ∧ s1.live = true ∧ s1.tasks.tasks[0]? = some (s1.task 0) ∧ s1.tasks.galleries[0]? = some (s1.gallery 0)
          ∧ (s1.task 0).phase = Phase.running ∧ (s1.task 0).ready ≤ max s1.now t0 ∧ (s1.task 0).on = 0 ∧ (s1.gallery 0).failed = false
          ∧ (s1.gallery 0).halted = false ∧ s1.base ≠ Mode.standby ∧ (s1.upTo t0).segmentWait 0 (max s1.now t0 / 2) = false
          ∧ (s1.gallery 0).issuedAt ≠ some (max s1.now t0 / 2) ∧ (s1.upTo t0).slotTurn 0 0 = true
          ∧ bundleHeld (s1.gallery 0).busy 0 (max s1.now t0 / 2) (((s1.planFor (s1.task 0)).code.getD 0 []).getD (s1.task 0).pc 0) = true) :=
  by decide +kernel

/-- The clauses of BundlesIssueInOrder, continued. -/
theorem witness_BundlesIssueInOrder_2 :
    (0 < 4 ∧ 0 < 64 ∧ (bb addB []).live = true ∧ (bb addB []).tasks.tasks[0]? = some ((bb 0 []).task 0)
          ∧ (bb addB []).tasks.galleries[0]? = some ((bb addB []).gallery 0) ∧ ((bb 0 []).task 0).phase = Phase.running
          ∧ ((bb 0 []).task 0).ready ≤ max (bb addB []).now t0 ∧ ((bb 0 []).task 0).on = 0 ∧ ((bb addB []).gallery 0).failed = false
          ∧ ((bb addB []).gallery 0).halted = false ∧ (bb addB []).base ≠ Mode.standby
          ∧ ((bb addB []).upTo t0).segmentWait 0 (max (bb addB []).now t0 / 2) = false
          ∧ ((bb addB []).gallery 0).issuedAt ≠ some (max (bb addB []).now t0 / 2) ∧ ((bb addB []).upTo t0).slotTurn 0 0 = true
          ∧ bundleHeld ((bb addB []).gallery 0).busy 0 (max (bb addB []).now t0 / 2) ((((bb addB []).planFor ((bb 0 []).task 0)).code.getD 0 []).getD
          ((bb 0 []).task 0).pc 0) = false
          ∧ wordOp (slotOf ((((bb addB []).planFor ((bb 0 []).task 0)).code.getD 0 []).getD ((bb 0 []).task 0).pc 0) 3) ≠ 19
          ∧ endsTask ((((bb addB []).planFor ((bb 0 []).task 0)).code.getD 0 []).getD ((bb 0 []).task 0).pc 0) = false
          ∧ endsSegment ((((bb addB []).planFor ((bb 0 []).task 0)).code.getD 0 []).getD ((bb 0 []).task 0).pc 0) = false) :=
  by decide +kernel

/-- The clauses of BundlesIssueInOrder, continued. -/
theorem witness_BundlesIssueInOrder_3 :
    (0 < 4 ∧ 0 < 64 ∧ (bb (op3 62) []).live = true ∧ (bb (op3 62) []).tasks.tasks[0]? = some ((bb 0 []).task 0)
          ∧ (bb (op3 62) []).tasks.galleries[0]? = some ((bb addB []).gallery 0) ∧ ((bb 0 []).task 0).phase = Phase.running
          ∧ ((bb 0 []).task 0).ready ≤ max (bb (op3 62) []).now t0 ∧ ((bb 0 []).task 0).on = 0 ∧ ((bb addB []).gallery 0).failed = false
          ∧ ((bb addB []).gallery 0).halted = false ∧ (bb (op3 62) []).base ≠ Mode.standby
          ∧ ((bb (op3 62) []).upTo t0).segmentWait 0 (max (bb (op3 62) []).now t0 / 2) = false
          ∧ ((bb addB []).gallery 0).issuedAt ≠ some (max (bb (op3 62) []).now t0 / 2) ∧ ((bb (op3 62) []).upTo t0).slotTurn 0 0 = true
          ∧ bundleHeld ((bb addB []).gallery 0).busy 0 (max (bb (op3 62) []).now t0 / 2) ((((bb (op3 62) []).planFor
          ((bb 0 []).task 0)).code.getD 0 []).getD ((bb 0 []).task 0).pc 0) = false
          ∧ wordOp (slotOf ((((bb (op3 62) []).planFor ((bb 0 []).task 0)).code.getD 0 []).getD ((bb 0 []).task 0).pc 0) 3) ≠ 19
          ∧ endsSegment ((((bb (op3 62) []).planFor ((bb 0 []).task 0)).code.getD 0 []).getD ((bb 0 []).task 0).pc 0) = true
          ∧ endsTask ((((bb (op3 62) []).planFor ((bb 0 []).task 0)).code.getD 0 []).getD ((bb 0 []).task 0).pc 0) = false) :=
  by decide +kernel

/-- The clauses of BundlesIssueInOrder, continued. -/
theorem witness_BundlesIssueInOrder_4 :
    (0 < 4 ∧ 0 < 64 ∧ (bb (op3 63) []).live = true ∧ (bb (op3 63) []).tasks.tasks[0]? = some ((bb 0 []).task 0)
          ∧ (bb (op3 63) []).tasks.galleries[0]? = some ((bb addB []).gallery 0) ∧ ((bb 0 []).task 0).phase = Phase.running
          ∧ ((bb 0 []).task 0).ready ≤ max (bb (op3 63) []).now t0 ∧ ((bb 0 []).task 0).on = 0 ∧ ((bb addB []).gallery 0).failed = false
          ∧ ((bb addB []).gallery 0).halted = false ∧ (bb (op3 63) []).base ≠ Mode.standby
          ∧ ((bb (op3 63) []).upTo t0).segmentWait 0 (max (bb (op3 63) []).now t0 / 2) = false
          ∧ ((bb addB []).gallery 0).issuedAt ≠ some (max (bb (op3 63) []).now t0 / 2) ∧ ((bb (op3 63) []).upTo t0).slotTurn 0 0 = true
          ∧ bundleHeld ((bb addB []).gallery 0).busy 0 (max (bb (op3 63) []).now t0 / 2) ((((bb (op3 63) []).planFor
          ((bb 0 []).task 0)).code.getD 0 []).getD ((bb 0 []).task 0).pc 0) = false
          ∧ wordOp (slotOf ((((bb (op3 63) []).planFor ((bb 0 []).task 0)).code.getD 0 []).getD ((bb 0 []).task 0).pc 0) 3) ≠ 19
          ∧ endsTask ((((bb (op3 63) []).planFor ((bb 0 []).task 0)).code.getD 0 []).getD ((bb 0 []).task 0).pc 0) = true)
    ∧ (0 < 4 ∧ 0 < 64 ∧ (bb 0 []).live = true ∧ (bb 0 []).tasks.tasks[0]? = some ((bb 0 []).task 0)
          ∧ (bb 0 []).tasks.galleries[0]? = some ((bb 0 []).gallery 0) ∧ ((bb 0 []).task 0).phase = Phase.running
          ∧ ((bb 0 []).task 0).ready ≤ max (bb 0 []).now t0 ∧ ((bb 0 []).task 0).on = 0 ∧ ((bb 0 []).gallery 0).failed = false
          ∧ ((bb 0 []).gallery 0).halted = false) :=
  by refine ⟨?_, ?_⟩ <;> decide +kernel

/-- The clauses of BundlesIssueInOrder, continued. -/
theorem witness_BundlesIssueInOrder_5 :
    (0 < 4 ∧ 0 < 64 ∧ stb.live = true ∧ stb.tasks.tasks[0]? = some (stb.task 0) ∧ stb.tasks.galleries[0]? = some (stb.gallery 0)
          ∧ (stb.task 0).phase = Phase.running ∧ (stb.task 0).ready ≤ max stb.now t0 ∧ (stb.task 0).on = 0 ∧ (stb.gallery 0).failed = false
          ∧ (stb.gallery 0).halted = false) :=
  by decide +kernel

/-- The clauses of SlotsComputeFromTheStateBefore. -/
theorem witness_SlotsComputeFromTheStateBefore :
    (bitOp (slotOf (bun (bslot 1 3 5) 0 0 0) 1) = 0 ∧ wordOp (slotOf (bun (bslot 1 3 5) 0 0 0) 2) = 0
          ∧ wordOp (slotOf (bun (bslot 1 3 5) 0 0 0) 3) = 0 ∧ bitOp (slotOf (bun (bslot 1 3 5) 0 0 0) 0) = 1)
    ∧ (bitOp (slotOf (bun (bslot 3 1 5) 0 0 0) 1) = 0 ∧ wordOp (slotOf (bun (bslot 3 1 5) 0 0 0) 2) = 0
          ∧ wordOp (slotOf (bun (bslot 3 1 5) 0 0 0) 3) = 0 ∧ bitOp (slotOf (bun (bslot 3 1 5) 0 0 0) 0) = 3)
    ∧ (bitOp (slotOf (bun (bslot 6 0 5) 0 0 0) 1) = 0 ∧ wordOp (slotOf (bun (bslot 6 0 5) 0 0 0) 2) = 0
          ∧ wordOp (slotOf (bun (bslot 6 0 5) 0 0 0) 3) = 0 ∧ bitOp (slotOf (bun (bslot 6 0 5) 0 0 0) 0) = 6)
    ∧ (bitOp (slotOf (bun (bslot 8 1 5) 0 0 0) 1) = 0 ∧ wordOp (slotOf (bun (bslot 8 1 5) 0 0 0) 2) = 0
          ∧ wordOp (slotOf (bun (bslot 8 1 5) 0 0 0) 3) = 0 ∧ bitOp (slotOf (bun (bslot 8 1 5) 0 0 0) 0) = 8)
    ∧ (bitOp (slotOf (bun (bslot 10 0 6) 0 0 0) 1) = 0 ∧ wordOp (slotOf (bun (bslot 10 0 6) 0 0 0) 2) = 0
          ∧ wordOp (slotOf (bun (bslot 10 0 6) 0 0 0) 3) = 0 ∧ bitOp (slotOf (bun (bslot 10 0 6) 0 0 0) 0) = 10)
    ∧ (bitOp (slotOf (bun (bslot 12 0 5) 0 0 0) 1) = 0 ∧ wordOp (slotOf (bun (bslot 12 0 5) 0 0 0) 2) = 0
          ∧ wordOp (slotOf (bun (bslot 12 0 5) 0 0 0) 3) = 0 ∧ bitOp (slotOf (bun (bslot 12 0 5) 0 0 0) 0) = 12) :=
  by refine ⟨?_, ?_, ?_, ?_, ?_, ?_⟩ <;> decide +kernel

/-- The clauses of SlotsComputeFromTheStateBefore, continued. -/
theorem witness_SlotsComputeFromTheStateBefore_2 :
    (bitOp (slotOf (bun (bslot 16 0 1) (bslot 16 1 0) 0 0) 0) = 16 ∧ bitOp (slotOf (bun (bslot 16 0 1) (bslot 16 1 0) 0 0) 1) = 16
          ∧ bitA (slotOf (bun (bslot 16 0 1) (bslot 16 1 0) 0 0) 0) = bitOpnd (slotOf (bun (bslot 16 0 1) (bslot 16 1 0) 0 0) 1) % 64
          ∧ bitA (slotOf (bun (bslot 16 0 1) (bslot 16 1 0) 0 0) 1) = bitOpnd (slotOf (bun (bslot 16 0 1) (bslot 16 1 0) 0 0) 0) % 64
          ∧ bitA (slotOf (bun (bslot 16 0 1) (bslot 16 1 0) 0 0) 0) ≠ bitA (slotOf (bun (bslot 16 0 1) (bslot 16 1 0) 0 0) 1)
          ∧ wordOp (slotOf (bun (bslot 16 0 1) (bslot 16 1 0) 0 0) 2) = 0 ∧ wordOp (slotOf (bun (bslot 16 0 1) (bslot 16 1 0) 0 0) 3) = 0)
    ∧ (bitOp (slotOf (bun 0 0 (wslot 1 9 7 8 0) 0) 0) = 0 ∧ bitOp (slotOf (bun 0 0 (wslot 1 9 7 8 0) 0) 1) = 0
          ∧ wordOp (slotOf (bun 0 0 (wslot 1 9 7 8 0) 0) 3) = 0 ∧ ex1.g.words.length = 64
          ∧ predTrue ex1 (slotOf (bun 0 0 (wslot 1 9 7 8 0) 0) 2) = true ∧ wordOp (slotOf (bun 0 0 (wslot 1 9 7 8 0) 0) 2) = 1
          ∧ modD (slotOf (bun 0 0 (wslot 1 9 7 8 0) 0) 2) = false ∧ modSat (slotOf (bun 0 0 (wslot 1 9 7 8 0) 0) 2) = false) :=
  by refine ⟨?_, ?_⟩ <;> decide +kernel

/-- The clauses of SlotsComputeFromTheStateBefore, continued. -/
theorem witness_SlotsComputeFromTheStateBefore_3 :
    (bitOp (slotOf (bun 0 0 (wslot 1 9 7 7 1) 0) 0) = 0 ∧ bitOp (slotOf (bun 0 0 (wslot 1 9 7 7 1) 0) 1) = 0
          ∧ wordOp (slotOf (bun 0 0 (wslot 1 9 7 7 1) 0) 3) = 0 ∧ ex1.g.words.length = 64
          ∧ predTrue ex1 (slotOf (bun 0 0 (wslot 1 9 7 7 1) 0) 2) = true ∧ wordOp (slotOf (bun 0 0 (wslot 1 9 7 7 1) 0) 2) = 1
          ∧ modD (slotOf (bun 0 0 (wslot 1 9 7 7 1) 0) 2) = false ∧ modSat (slotOf (bun 0 0 (wslot 1 9 7 7 1) 0) 2) = true
          ∧ 2 ^ 31 ≤ BitVec.toInt (wordOf ex1 (wordA (slotOf (bun 0 0 (wslot 1 9 7 7 1) 0) 2))) + BitVec.toInt (wordOf ex1 (wordB (slotOf (bun 0 0
          (wslot 1 9 7 7 1) 0) 2))))
    ∧ (bitOp (slotOf (bun 0 0 (wslot 1 9 7 7 2) 0) 0) = 0 ∧ bitOp (slotOf (bun 0 0 (wslot 1 9 7 7 2) 0) 1) = 0
          ∧ wordOp (slotOf (bun 0 0 (wslot 1 9 7 7 2) 0) 3) = 0 ∧ ex1.g.words.length = 64
          ∧ predTrue ex1 (slotOf (bun 0 0 (wslot 1 9 7 7 2) 0) 2) = true ∧ wordOp (slotOf (bun 0 0 (wslot 1 9 7 7 2) 0) 2) = 1)
    ∧ (bitOp (slotOf (bun 0 0 (wslot 1 9 7 7 4) 0) 0) = 0 ∧ bitOp (slotOf (bun 0 0 (wslot 1 9 7 7 4) 0) 1) = 0
          ∧ wordOp (slotOf (bun 0 0 (wslot 1 9 7 7 4) 0) 3) = 0 ∧ ex1.g.words.length = 64
          ∧ predTrue ex1 (slotOf (bun 0 0 (wslot 1 9 7 7 4) 0) 2) = true ∧ wordOp (slotOf (bun 0 0 (wslot 1 9 7 7 4) 0) 2) = 1
          ∧ modD (slotOf (bun 0 0 (wslot 1 9 7 7 4) 0) 2) = false ∧ modSat (slotOf (bun 0 0 (wslot 1 9 7 7 4) 0) 2) = false) :=
  by refine ⟨?_, ?_, ?_⟩ <;> decide +kernel

/-- The clauses of SlotsComputeFromTheStateBefore, continued. -/
theorem witness_SlotsComputeFromTheStateBefore_4 :
    (bitOp (slotOf (bun 0 0 (wslot 1 9 7 7 8) 0) 0) = 0 ∧ bitOp (slotOf (bun 0 0 (wslot 1 9 7 7 8) 0) 1) = 0
          ∧ wordOp (slotOf (bun 0 0 (wslot 1 9 7 7 8) 0) 3) = 0 ∧ ex1.g.words.length = 64
          ∧ predTrue ex1 (slotOf (bun 0 0 (wslot 1 9 7 7 8) 0) 2) = true ∧ wordOp (slotOf (bun 0 0 (wslot 1 9 7 7 8) 0) 2) = 1
          ∧ modD (slotOf (bun 0 0 (wslot 1 9 7 7 8) 0) 2) = false ∧ modSat (slotOf (bun 0 0 (wslot 1 9 7 7 8) 0) 2) = false)
    ∧ (bitOp (slotOf (bun 0 0 (wslot 3 9 7 15 1) 0) 0) = 0 ∧ bitOp (slotOf (bun 0 0 (wslot 3 9 7 15 1) 0) 1) = 0
          ∧ wordOp (slotOf (bun 0 0 (wslot 3 9 7 15 1) 0) 3) = 0 ∧ ex1.g.words.length = 64
          ∧ predTrue ex1 (slotOf (bun 0 0 (wslot 3 9 7 15 1) 0) 2) = true ∧ wordOp (slotOf (bun 0 0 (wslot 3 9 7 15 1) 0) 2) = 3)
    ∧ (bitOp (slotOf (bun 0 0 (wslot 3 9 7 15 2) 0) 0) = 0 ∧ bitOp (slotOf (bun 0 0 (wslot 3 9 7 15 2) 0) 1) = 0
          ∧ wordOp (slotOf (bun 0 0 (wslot 3 9 7 15 2) 0) 3) = 0 ∧ ex1.g.words.length = 64
          ∧ predTrue ex1 (slotOf (bun 0 0 (wslot 3 9 7 15 2) 0) 2) = true ∧ wordOp (slotOf (bun 0 0 (wslot 3 9 7 15 2) 0) 2) = 3
          ∧ modD (slotOf (bun 0 0 (wslot 3 9 7 15 2) 0) 2) = true ∧ modU (slotOf (bun 0 0 (wslot 3 9 7 15 2) 0) 2) = false
          ∧ wordD (slotOf (bun 0 0 (wslot 3 9 7 15 2) 0) 2) < 63) :=
  by refine ⟨?_, ?_, ?_⟩ <;> decide +kernel

/-- The clauses of SlotsComputeFromTheStateBefore, continued. -/
theorem witness_SlotsComputeFromTheStateBefore_5 :
    (bitOp (slotOf (bun 0 0 (wslot 3 9 7 15 4) 0) 0) = 0 ∧ bitOp (slotOf (bun 0 0 (wslot 3 9 7 15 4) 0) 1) = 0
          ∧ wordOp (slotOf (bun 0 0 (wslot 3 9 7 15 4) 0) 3) = 0 ∧ ex1.g.words.length = 64
          ∧ predTrue ex1 (slotOf (bun 0 0 (wslot 3 9 7 15 4) 0) 2) = true ∧ wordOp (slotOf (bun 0 0 (wslot 3 9 7 15 4) 0) 2) = 3)
    ∧ (bitOp (slotOf (bun 0 0 (wslot 3 9 7 15 8) 0) 0) = 0 ∧ bitOp (slotOf (bun 0 0 (wslot 3 9 7 15 8) 0) 1) = 0
          ∧ wordOp (slotOf (bun 0 0 (wslot 3 9 7 15 8) 0) 3) = 0 ∧ ex1.g.words.length = 64
          ∧ predTrue ex1 (slotOf (bun 0 0 (wslot 3 9 7 15 8) 0) 2) = true ∧ wordOp (slotOf (bun 0 0 (wslot 3 9 7 15 8) 0) 2) = 3)
    ∧ (bitOp (slotOf (bun 0 0 (wslot 1 9 7 7 8 + 2 ^ 28) 0) 0) = 0 ∧ bitOp (slotOf (bun 0 0 (wslot 1 9 7 7 8 + 2 ^ 28) 0) 1) = 0
          ∧ wordOp (slotOf (bun 0 0 (wslot 1 9 7 7 8 + 2 ^ 28) 0) 3) = 0 ∧ ex1.g.words.length = 64
          ∧ predTrue ex1 (slotOf (bun 0 0 (wslot 1 9 7 7 8 + 2 ^ 28) 0) 2) = false)
    ∧ (bitOp (slotOf (bun 0 0 0 (wslot 6 9 0 0 7)) 0) = 0 ∧ bitOp (slotOf (bun 0 0 0 (wslot 6 9 0 0 7)) 1) = 0
          ∧ wordOp (slotOf (bun 0 0 0 (wslot 6 9 0 0 7)) 2) = 0 ∧ wordOp (slotOf (bun 0 0 0 (wslot 6 9 0 0 7)) 3) = 6
          ∧ predTrue ex1 (slotOf (bun 0 0 0 (wslot 6 9 0 0 7)) 3) = true ∧ ex1.g.words.length = 64
          ∧ indexed ex1 (slotOf (bun 0 0 0 (wslot 6 9 0 0 7)) 3) < arg0.wordSize) :=
  by refine ⟨?_, ?_, ?_, ?_⟩ <;> decide +kernel

/-- The clauses of SlotsComputeFromTheStateBefore, continued. -/
theorem witness_SlotsComputeFromTheStateBefore_6 :
    (bitOp (slotOf (bun 0 0 0 (wslot 6 9 0 0 7)) 0) = 0 ∧ bitOp (slotOf (bun 0 0 0 (wslot 6 9 0 0 7)) 1) = 0
          ∧ wordOp (slotOf (bun 0 0 0 (wslot 6 9 0 0 7)) 2) = 0 ∧ wordOp (slotOf (bun 0 0 0 (wslot 6 9 0 0 7)) 3) = 6
          ∧ predTrue ex1 (slotOf (bun 0 0 0 (wslot 6 9 0 0 7)) 3) = true ∧ ex1.g.words.length = 64
          ∧ arg1.wordSize ≤ indexed ex1 (slotOf (bun 0 0 0 (wslot 6 9 0 0 7)) 3))
    ∧ (bitOp (slotOf (bun 0 0 0 (wslot 6 9 8 0 7)) 0) = 0 ∧ bitOp (slotOf (bun 0 0 0 (wslot 6 9 8 0 7)) 1) = 0
          ∧ wordOp (slotOf (bun 0 0 0 (wslot 6 9 8 0 7)) 2) = 0 ∧ wordOp (slotOf (bun 0 0 0 (wslot 6 9 8 0 7)) 3) = 6
          ∧ predTrue ex1 (slotOf (bun 0 0 0 (wslot 6 9 8 0 7)) 3) = true ∧ ex1.g.words.length = 64
          ∧ arg1.wordSize ≤ indexed ex1 (slotOf (bun 0 0 0 (wslot 6 9 8 0 7)) 3)) :=
  by refine ⟨?_, ?_⟩ <;> decide +kernel

/-- The clauses of FailuresAreCaught. -/
theorem witness_FailuresAreCaught :
    (0 < 4 ∧ g0.live = true ∧ g0.mode ≠ Mode.boot ∧ g0.tasks.galleries[0]? = some (g0.gallery 0) ∧ (g0.gallery 0).failed = false)
    ∧ (0 < 4 ∧ nl.live = true ∧ nl.mode ≠ Mode.boot ∧ nl.tasks.galleries[0]? = some (nl.gallery 0) ∧ (nl.gallery 0).failed = false ∧ 0 < 64
          ∧ nl.tasks.tasks[0]? = some (nl.task 0) ∧ (nl.task 0).phase ≠ Phase.idle ∧ (nl.task 0).on = 0
          ∧ (nl.task 0).release + ((nl.planFor (nl.task 0)).tasks.getD 0 default).finish ≤ max nl.now t0)
    ∧ (0 < 4 ∧ g0.live = true ∧ g0.mode ≠ Mode.boot ∧ g0.tasks.galleries[0]? = some (g0.gallery 0))
    ∧ (0 < 4 ∧ g0.live = true ∧ g0.mode ≠ Mode.boot ∧ g0.tasks.galleries[0]? = some (g0.gallery 0) ∧ g0.pair.role = 0 ∧ g0.mode ≠ Mode.fault) :=
  by refine ⟨?_, ?_, ?_, ?_⟩ <;> decide +kernel

/-- The clauses of LandingsTakeEffectWhole. -/
theorem witness_LandingsTakeEffectWhole :
    (ld1.live = true ∧ 0 < 1 ∧ 1 < 64 ∧ ld1.tasks.tasks[1]? = some (ld1.task 1) ∧ (ld1.upTo t0).landReady 1 = true
          ∧ (ld1.gallery (ld1.task 1).on).failed = false ∧ ld1.base ≠ Mode.standby ∧ ld1.pair.role ≠ 2)
    ∧ (ld.live = true ∧ ld.tasks.tasks[0]? = some (ld.task 0) ∧ (ld.upTo t0).landReady 0 = true ∧ (ld.gallery (ld.task 0).on).failed = false
          ∧ ld.sup.fw.pauseNext = false)
    ∧ (ldw.live = true ∧ ldw.tasks.tasks[0]? = some (ldw.task 0) ∧ (ldw.upTo t0).landReady 0 = true ∧ (ldw.gallery (ldw.task 0).on).failed = false
          ∧ ldw.sup.fw.pauseNext = false ∧ ldw.dsp.offNext = false ∧ ldw.dsp.running = none ∧ ldw.dsp.waiting = some dr0
          ∧ ldw.dsp.doneAt < max ldw.now t0)
    ∧ (sub.live = true ∧ sub.tasks.tasks[0]? = some (sub.task 0) ∧ (sub.upTo t0).running = true
          ∧ (sub.gallery ((sub.upTo t0).homeOf 0)).failed = true ∧ sub.majorFrame ≠ 0
          ∧ sub.tasks.runAt + (sub.plan.tasks.getD 0 default).finish ≤ max sub.now t0
          ∧ (max sub.now t0 - (sub.tasks.runAt + (sub.plan.tasks.getD 0 default).finish)) % sub.majorFrame = 0)
    ∧ (stp.live = true ∧ stp.base = Mode.stop ∧ (stp.upTo 10010000000).mono % 10000000 = 0 ∧ stp.clear 10010000000 ∧ 0 < 4 ∧ stp.staged = []
          ∧ stp.line.srcs[0]? = some (src stp 0) ∧ (src stp 0).preset = some (Preset.atLanding 77)) :=
  by refine ⟨?_, ?_, ?_, ?_, ?_⟩ <;> decide +kernel

/-- The clauses of LandingsTakeEffectWhole, continued. -/
theorem witness_LandingsTakeEffectWhole_2 :
    ((stg 7).live = true ∧ (stg 7).base = Mode.stop ∧ ((stg 7).upTo 10010000000).mono % 10000000 = 0 ∧ (stg 7).clear 10010000000
          ∧ (stg 7).staged = [(stg 7).staged.headD default] ∧ ((stg 7).staged.headD default).op = StagedOp.value 4352 6 (Val.num 2)
          ∧ ((stg 7).upTo 10010000000).atApply.passes ((stg 7).staged.headD default) ∧ 0 < 4)
    ∧ (arf.live = true ∧ arf.base ≠ Mode.standby)
    ∧ (evd.live = true ∧ 0 < 4 ∧ evd.tasks.galleries[0]? = some (evd.gallery 0)) :=
  by refine ⟨by unfold State.passes; decide +kernel, ?_, ?_⟩ <;> decide +kernel

end Sys2Proof.Tests.Tasks
end

