-- ==== Sys2Proof/Tests/Transfers.lean ====
section
/-! SUPPORT. Witnesses for the statements on transfers, subscriptions, commits, keys and time: for each clause of a statement,
      a state and operands that meet its hypotheses together. -/
set_option Elab.async false
namespace Sys2Proof.Tests.Transfers
open Sys2Proof.Machine Sys2Proof.Tests.Samples

def op := onl live
def ip := 0xC0A80002
def tro : State := { op with net := { op.net with bamcon := { op.net.bamcon with transfers := [⟨3,0x1510,2,9,[1],0,4⟩] } } }
def opn : State := { op with nvm := { op.nvm with filling := { op.nvm.filling with items := [(3,[1])], upto := 4 } } }
def opa : State := { withPlan op plan0 with sup := { op.sup with fw := { op.sup.fw with stage := 3 } } }
def arg0 := { opa with mode := .stop }
/-- A request of session 7 with SEQ 5; its TAG, written out, was worked out apart from the model. -/
def rq (ty : Nat) (pl : Bytes) (tag : Nat) : Bytes := bamHeader 0x13 ty 0 0 7 5 pl.length ++ pl ++ (leBytes 16 tag).reverse
def blkRead : Bytes := rq 6 [0#8, 16, 2, 0, 0, 0, 0, 0, 0, 0, 0, 0, 100, 0, 0, 0] 0xc940d2a600c135d7cd2144110cfea238
def blkReadOld : Bytes := rq 6 [0#8, 16, 2, 0, 1, 0, 0, 0, 2, 0, 0, 0, 100, 0, 0, 0] 0x8340200b4461e8bfacebbf7ef00fc390
def blkOpen : Bytes := rq 7 [16#8, 21, 2, 0, 0, 0, 0, 0, 0, 0, 0, 0, 9, 0, 0, 0, 9, 8, 7] 0x54be23520cc87abc013203ab4b78cc7a
def blkNext : Bytes := rq 7 [16#8, 21, 2, 0, 3, 0, 0, 0, 1, 0, 0, 0, 9, 0, 0, 0, 9, 8, 7] 0x22f860aef0160cd5ee1ff311da6adf74
def subOff : Bytes := rq 8 [1#8, 0, 0, 0, 1, 0, 0, 17, 1, 0] 0xea57ea9df0effa7ec610140fc15391cd
def subOn : Bytes := rq 8 [1#8, 0, 3, 0, 1, 0, 0, 17, 1, 0] 0x94c453d56df4336196295e64ff2f4bb6
def commit : Bytes := rq 9 [] 0x4aed90ee2c947ea2278cf6b14b410c8b
def activate : Bytes := rq 10 [1#8, 0, 0, 0] 0x4da29102bb249dc4edb2e442e0276eeb
/-- What the request reads. -/
def rdm (s : State) (x : BamMsg) := (((s.upTo t0).taken 0 0 x.seq).disarm 0).readEntry 0 (x.num 0 2) (x.num 2 1)

/-- The clauses of TransfersSubscriptionsAndCommits. -/
theorem witness_TransfersSubscriptionsAndCommits :
    ((op.upTo t0).heard 0 ip 99 blkRead (pm blkRead) 0 ∧ (pm blkRead).type_ = 6 ∧ List.length (pm blkRead).payload = 16
          ∧ (((op.upTo t0).taken 0 0 (pm blkRead).seq).disarm 0).readEntry 0 ((pm blkRead).num 0 2) ((pm blkRead).num 2 1) = ((rdm op
          (pm blkRead)).fst, Status.ok, (rdm op (pm blkRead)).snd.snd.fst, (rdm op (pm blkRead)).snd.snd.snd)
          ∧ tySize (rdm op (pm blkRead)).snd.snd.fst = none ∧ (pm blkRead).num 12 2 ≤ 1384 ∧ ((pm blkRead).num 4 4 = 0
          ∨ (pm blkRead).num 4 4 = (rdm op (pm blkRead)).fst.versionOf ((pm blkRead).num 0 2) ((pm blkRead).num 2 1)))
    ∧ ((op.upTo t0).heard 0 ip 99 blkReadOld (pm blkReadOld) 0 ∧ (pm blkReadOld).type_ = 6 ∧ List.length (pm blkReadOld).payload = 16
          ∧ (((op.upTo t0).taken 0 0 (pm blkReadOld).seq).disarm 0).readEntry 0 ((pm blkReadOld).num 0 2) ((pm blkReadOld).num 2 1) = ((rdm op
          (pm blkReadOld)).fst, Status.ok, (rdm op (pm blkReadOld)).snd.snd.fst, (rdm op (pm blkReadOld)).snd.snd.snd)
          ∧ tySize (rdm op (pm blkReadOld)).snd.snd.fst = none ∧ (pm blkReadOld).num 12 2 ≤ 1384 ∧ ((pm blkReadOld).num 4 4 = 0
          ∨ (pm blkReadOld).num 4 4 = (rdm op (pm blkReadOld)).fst.versionOf ((pm blkReadOld).num 0 2) ((pm blkReadOld).num 2 1))) :=
  by refine ⟨⟨by unfold State.heard; decide +kernel, ?_, ?_, Prod.ext rfl (Prod.ext (by decide +kernel) rfl), ?_, ?_, ?_⟩,
        ⟨by unfold State.heard; decide +kernel, ?_, ?_, Prod.ext rfl (Prod.ext (by decide +kernel) rfl), ?_, ?_, ?_⟩⟩ <;> decide +kernel

/-- The clauses of TransfersSubscriptionsAndCommits, continued. -/
theorem witness_TransfersSubscriptionsAndCommits_2 :
    ((op.upTo t0).heard 0 ip 99 blkOpen (pm blkOpen) 0 ∧ (pm blkOpen).type_ = 7 ∧ 16 ≤ List.length (pm blkOpen).payload
          ∧ List.length (pm blkOpen).payload ≤ 16 + 1380 ∧ (lookup ((pm blkOpen).num 0 2) ((pm blkOpen).num 2 1)).fst = Status.ok
          ∧ tySize (lookup ((pm blkOpen).num 0 2) ((pm blkOpen).num 2 1)).snd.ty = none
          ∧ imageOf ((pm blkOpen).num 0 2) ((pm blkOpen).num 2 1) = none ∧ (pm blkOpen).num 4 4 = 0 ∧ (pm blkOpen).num 8 4 = 0
          ∧ (List.drop 16 (pm blkOpen).payload).length < (pm blkOpen).num 12 4
          ∧ (List.filter (fun y => decide (y.idx ≠ (pm blkOpen).num 0 2) || decide (y.sub ≠
          (pm blkOpen).num 2 1)) op.net.bamcon.transfers).length < 4) :=
  by unfold State.heard; decide +kernel

/-- The clauses of TransfersSubscriptionsAndCommits, continued. -/
theorem witness_TransfersSubscriptionsAndCommits_3 :
    ((tro.upTo t0).heard 0 ip 99 blkNext (pm blkNext) 0 ∧ (pm blkNext).type_ = 7 ∧ 16 ≤ List.length (pm blkNext).payload
          ∧ List.length (pm blkNext).payload ≤ 16 + 1380 ∧ (lookup ((pm blkNext).num 0 2) ((pm blkNext).num 2 1)).fst = Status.ok
          ∧ tySize (lookup ((pm blkNext).num 0 2) ((pm blkNext).num 2 1)).snd.ty = none
          ∧ imageOf ((pm blkNext).num 0 2) ((pm blkNext).num 2 1) = none
          ∧ List.find? (fun y => decide (y.number = (pm blkNext).num 4 4) && decide (y.idx = (pm blkNext).num 0 2) && decide (y.sub =
          (pm blkNext).num 2 1)) tro.net.bamcon.transfers = some
          { number := 3, idx := 5392, sub := 2, total := 9, data := [1], at_ := 0, role := 4 : Transfer } ∧ (pm blkNext).num 4 4 ≠ 0
          ∧ { number := 3, idx := 5392, sub := 2, total := 9, data := [1], at_ := 0, role := 4 : Transfer }.role ≤ (tro.sess 0).role
          ∧ (pm blkNext).num 12 4 = { number := 3, idx := 5392, sub := 2, total := 9, data := [1], at_ := 0, role := 4 : Transfer }.total
          ∧ (pm blkNext).num 8 4 = List.length { number := 3, idx := 5392, sub := 2, total := 9, data := [1], at_ := 0, role := 4 : Transfer }.data
          ∧ List.length { number := 3, idx := 5392, sub := 2, total := 9, data := [1], at_ := 0, role := 4 : Transfer }.data + (List.drop 16
          (pm blkNext).payload).length < (pm blkNext).num 12 4) :=
  by unfold State.heard; decide +kernel

/-- The clauses of TransfersSubscriptionsAndCommits, continued. -/
theorem witness_TransfersSubscriptionsAndCommits_4 :
    ((op.upTo t0).heard 0 ip 99 subOff (pm subOff) 0 ∧ (pm subOff).type_ = 8 ∧ List.length (pm subOff).payload = 6 + 4 * (pm subOff).num 4 1
          ∧ (∀ (a : Addr), a ∈ addrsOf ((pm subOff).num 4 1) (List.drop 6 (pm subOff).payload) → (lookup a.idx a.sub).fst = Status.ok)
          ∧ (pm subOff).num 0 1 ≤ 7 ∧ (pm subOff).num 2 2 = 0)
    ∧ (((withPlan op plan0).upTo t0).heard 0 ip 99 subOn (pm subOn) 0 ∧ (pm subOn).type_ = 8
          ∧ List.length (pm subOn).payload = 6 + 4 * (pm subOn).num 4 1
          ∧ (∀ (a : Addr), a ∈ addrsOf ((pm subOn).num 4 1) (List.drop 6 (pm subOn).payload) → (lookup a.idx a.sub).fst = Status.ok)
          ∧ (pm subOn).num 0 1 ≤ 7 ∧ (pm subOn).num 2 2 ≠ 0 ∧ (pm subOn).num 4 1 ≤ 32 ∧ (pm subOn).num 1 1 < 64
          ∧ ((withPlan op plan0).plan.tasks.getD ((pm subOn).num 1 1) default).kind ≠ 0
          ∧ (List.filter (fun y => decide (y.session ≠ (pm subOn).session) || decide (y.id ≠ (pm subOn).num 0 1))
          (withPlan op plan0).net.bamcon.subs).length < 32
          ∧ List.length (((((withPlan op plan0).upTo t0).taken 0 0 (pm subOn).seq).disarm 0).itemsBytes 0 (addrsOf ((pm subOn).num 4 1) (List.drop 6
          (pm subOn).payload))).snd ≤ 1390)
    ∧ ((op.upTo t0).heard 0 ip 99 commit (pm commit) 0 ∧ (pm commit).type_ = 9 ∧ (pm commit).payload = [] ∧ 3 ≤ (op.sess 0).role
          ∧ op.mode ≠ Mode.fault ∧ op.base ≠ Mode.standby ∧ op.nvm.filling.items = [] ∧ op.nvm.running = none) :=
  by refine ⟨?_, ?_, ?_⟩ <;> first | decide +kernel | (unfold State.heard; decide +kernel)

/-- The clauses of TransfersSubscriptionsAndCommits, continued. -/
theorem witness_TransfersSubscriptionsAndCommits_5 :
    ((opn.upTo t0).heard 0 ip 99 commit (pm commit) 0 ∧ (pm commit).type_ = 9 ∧ (pm commit).payload = [] ∧ 3 ≤ (opn.sess 0).role
          ∧ opn.mode ≠ Mode.fault ∧ opn.base ≠ Mode.standby ∧ opn.nvm.filling.items ≠ [] ∧ opn.nvm.running = none)
    ∧ ((op.upTo t0).heard 0 ip 99 activate (pm activate) 0 ∧ (pm activate).type_ = 10 ∧ List.length (pm activate).payload = 4 ∧ 4 ≤ (op.sess 0).role
          ∧ (pm activate).num 0 1 = 1 ∧ (op.upTo t0).activates = false)
    ∧ ((opa.upTo t0).heard 0 ip 99 activate (pm activate) 0 ∧ (pm activate).type_ = 10 ∧ List.length (pm activate).payload = 4
          ∧ 4 ≤ (opa.sess 0).role ∧ (pm activate).num 0 1 = 1 ∧ (opa.upTo t0).activates = true ∧ opa.mode = Mode.run)
    ∧ ((arg0.upTo t0).heard 0 ip 99 activate (pm activate) 0 ∧ (pm activate).type_ = 10 ∧ List.length (pm activate).payload = 4
          ∧ 4 ≤ (arg0.sess 0).role ∧ (pm activate).num 0 1 = 1 ∧ (arg0.upTo t0).activates = true ∧ arg0.mode ≠ Mode.run) :=
  by refine ⟨?_, ?_, ?_, ?_⟩ <;> first | decide +kernel | (unfold State.heard; decide +kernel)

/-- The clauses of KeysArmingAndTime. -/
theorem witness_KeysArmingAndTime :
    (4641 < 65536 ∧ (op.upTo t0).granted o1 0 4642 1 (leBytes 4 (4641 * 256 + 4 % 256)) = true)
    ∧ (1 ≤ 4 ∧ 4 ≤ 4 ∧ ((arm op 4641 4).upTo t0).granted o1 0 4641 4 (List.replicate 32 3) = true)
    ∧ (1 ≤ 2 ∧ 2 ≤ 4 ∧ ((arm op 4641 2).upTo t0).granted o1 0 4641 2 (List.replicate 32 3) = true)
    ∧ (777 < 2 ^ 64 ∧ (op.upTo t0).granted o1 0 4624 18 (leBytes 8 777) = true) :=
  by refine ⟨?_, ?_, ?_, ?_⟩ <;> decide +kernel

end Sys2Proof.Tests.Transfers
end

