-- ==== Sys2Proof/Tests/Upkeep.lean ====
section
/-! SUPPORT. Witnesses for the statements on the ledger, the recorder, temperatures and Hall forces: for each clause of a statement,
      a state and operands that meet its hypotheses together. -/
set_option Elab.async false
namespace Sys2Proof.Tests.Upkeep
open Sys2Proof.Machine Sys2Proof.Tests.Samples

def op := withPlan (onl live) plan0
def wd (w : Nat) (f : Wdt → Wdt) (s : State := op) : State := { s with sup := { s.sup with wdts := upd s.sup.wdts w f } }
def g (s : State) (w : Nat) := s.sup.wdts.getD w default
def w0 := wd 0 fun x => { x with state := 1 }
def stp (s : State) := arm { s with mode := .stop } 0x1700 0xD
def w00 := stp (wd 0 (fun x => { x with state := 1, startAt := 9999999999 }) (onl live))
def led : State := { op with sup := { op.sup with ledger := { op.sup.ledger with refTrim := 5 } } }
def hr : Nat := 3600000000000
def bk (b : Bucket) : State := { op with now := 10000000000, recorder := { op.recorder with buckets := upd op.recorder.buckets 3 fun _ => b } }
def b0 : Bucket := ⟨0x2001,5,1000,1,0,0,0⟩
def arg0 := bk {b0 with suppressed := 4}
def arg1 := {b0 with suppressed := 4}
def arg2 := bk {b0 with tokens := 5}
def arg3 := {b0 with tokens := 5}
def er : EventRec := default
def rc : State :=
  { op with recorder := { op.recorder with next := 3, archNext := 1, ring := [default, { er with seq := 1 }, default], archive := [(0,er),(1024,er)] } }
def arg4 := { (bk b0) with now := 10000000002 }
def arg5 := { er with seq := 1 }
def arg6 := { rc with recorder := { rc.recorder with archNext := 3 } }
def th (f : Thermal → Thermal) : State := { op with sup := { op.sup with thermal := f op.sup.thermal } }
def arg7 := th fun x => { x with hotAt := some 0 }
def arg8 := th fun x => { x with hotAt := some 9999999999 }
def arg9 := th fun x => { x with warned := true }
def vo := th fun x => { x with vencOff := 4, vencAt := List.replicate 8 5 }
def cr : State := { op with pending := [.crossingResync (t0 + 20) 3 1] }
def hw : State := { op with hall := { op.hall with windows := upd op.hall.windows 2 fun _ => ⟨1,3,16,0,0⟩ } }
def hw1 : State :=
  { withPlan (onl live) { plan0 with writable := [⟨.hm,0,64⟩,⟨.wm,0,64⟩] } with hall := { op.hall with windows := upd op.hall.windows 2 fun _ => ⟨5,3,2,0,0⟩ } }

/-- The clauses of WatchdogsExpire. -/
theorem witness_WatchdogsExpire :
    (0 < 5 ∧ w00.sup.wdts[0]? = some (g w00 0) ∧ 0 = 0 ∧ (w00.upTo t0).granted o1 0 5888 13 (leBytes 1 1) = true ∧ (g w00 0).state = 1
          ∧ (w00.upTo t0).wdtSpent 0 = false)
    ∧ (0 < 5 ∧ (stp w0).sup.wdts[0]? = some (g w0 0) ∧ 0 = 0 ∧ ((stp w0).upTo t0).granted o1 0 5888 13 (leBytes 1 1) = true ∧ (g w0 0).state = 1
          ∧ ((g w0 0).state ≠ 1 ∨ ((stp w0).upTo t0).wdtSpent 0 = true)) :=
  by refine ⟨?_, ?_⟩ <;> decide +kernel

/-- The clauses of LedgerFollowsTheMargins. -/
theorem witness_LedgerFollowsTheMargins :
    (op.live = true ∧ op.mode ≠ Mode.boot ∧ op.sup.ledger.hour < (op.upTo hr).hours / 3600 ∧ 2 < 16 ∧ 2 ≠ 4 ∧ 2 ≠ 7
          ∧ op.sup.ledger.items[2]? = some (op.sup.ledger.items.getD 2 default))
    ∧ (op.live = true ∧ op.mode ≠ Mode.boot ∧ op.sup.ledger.hour < (op.upTo hr).hours / 3600 ∧ 9 < 16 ∧ 9 ≠ 4 ∧ 9 ≠ 7
          ∧ op.sup.ledger.items[9]? = some (op.sup.ledger.items.getD 9 default))
    ∧ (op.live = true ∧ (op.upTo t0).hours / 3600 ≤ op.sup.ledger.hour)
    ∧ (op.live = true ∧ 59 < 60 ∧ op.sup.ledger.avsStep < 10 ∧ (∀ (a : Nat), op.sup.ledger.avsAt = some a → a + 600000000000 ≤ max op.now t0))
    ∧ (op.live = true ∧ (60 ≤ 60 ∨ 10 ≤ op.sup.ledger.avsStep ∨ ∃ a, op.sup.ledger.avsAt = some a ∧ max op.now t0 < a + 600000000000))
    ∧ (led.live = true ∧ 20 < absRat 21) :=
  by refine ⟨?_, ?_, ?_, ?_, ?_, ?_⟩ <;> decide +kernel

/-- The clauses of CrossingsAndRecorderKeepCount. -/
theorem witness_CrossingsAndRecorderKeepCount :
    ((bk b0).live = true ∧ 3 < 256 ∧ (bk b0).recorder.buckets[3]? = some b0 ∧ b0.code ≠ 0 ∧ b0.interval ≠ 0
          ∧ ((bk b0).upTo 10000000000).mono % (b0.interval * 1000000) < 2 ∧ b0.added + 2 ≤ ((bk b0).upTo 10000000000).mono ∧ b0.tokens < b0.burst
          ∧ b0.suppressed = 0)
    ∧ (arg0.live = true ∧ 3 < 256 ∧ arg0.recorder.buckets[3]? = some arg1 ∧ arg1.code ≠ 0 ∧ arg1.interval ≠ 0
          ∧ (arg0.upTo 10000000000).mono % (arg1.interval * 1000000) < 2 ∧ arg1.added + 2 ≤ (arg0.upTo 10000000000).mono ∧ arg1.tokens < arg1.burst
          ∧ arg1.suppressed ≠ 0)
    ∧ (arg2.live = true ∧ 3 < 256 ∧ arg2.recorder.buckets[3]? = some arg3 ∧ arg3.code ≠ 0 ∧ arg3.interval ≠ 0
          ∧ (arg2.upTo 10000000000).mono % (arg3.interval * 1000000) < 2 ∧ arg3.added + 2 ≤ (arg2.upTo 10000000000).mono ∧ arg3.burst ≤ arg3.tokens)
    ∧ (arg4.live = true ∧ 3 < 256 ∧ arg4.recorder.buckets[3]? = some b0 ∧ ¬(b0.code ≠ 0 ∧ b0.interval ≠ 0
          ∧ (arg4.upTo 10000000002).mono % (b0.interval * 1000000) < 2 ∧ b0.added + 2 ≤ (arg4.upTo 10000000002).mono))
    ∧ (rc.live = true ∧ rc.recorder.archNext < rc.recorder.next ∧ rc.recorder.ring[rc.recorder.next - 1 - rc.recorder.archNext]? = some arg5)
    ∧ (arg6.live = true ∧ arg6.recorder.next ≤ arg6.recorder.archNext)
    ∧ (1 ≤ 3 ∧ 3 ≤ 12 ∧ op.live = true ∧ op.crossings[3 - 1]? = some 0 ∧ (op.upTo t0).restarts 3 = false)
    ∧ (1 ≤ 3 ∧ 3 ≤ 12 ∧ cr.live = true ∧ cr.crossings[3 - 1]? = some 0 ∧ (cr.upTo t0).restarts 3 = true) :=
  by refine ⟨?_, ?_, ?_, ?_, ?_, ?_, ?_, ?_⟩ <;> decide +kernel

/-- The clauses of CrossingsAndRecorderKeepCount, continued. -/
theorem witness_CrossingsAndRecorderKeepCount_2 :
    ((13 = 0 ∨ 12 < 13)) :=
  by decide +kernel

/-- The clauses of TemperatureAndSuppliesAreWatched. -/
theorem witness_TemperatureAndSuppliesAreWatched :
    (arg7.live = true ∧ (∀ (a : Nat), arg7.sup.thermal.caseAt = some a → a + 1000000000 ≤ max arg7.now t0) ∧ caseLimit - 5000 ≤ caseLimit - 1000
          ∧ arg7.sup.thermal.hotAt.getD (max arg7.now t0) + 10000000000 ≤ max arg7.now t0 ∧ arg7.sup.thermal.warned = false
          ∧ caseLimit - 1000 ≤ caseLimit)
    ∧ (arg7.live = true ∧ (∀ (a : Nat), arg7.sup.thermal.caseAt = some a → a + 1000000000 ≤ max arg7.now t0) ∧ caseLimit - 5000 ≤ caseLimit + 1000
          ∧ arg7.sup.thermal.hotAt.getD (max arg7.now t0) + 10000000000 ≤ max arg7.now t0 ∧ arg7.sup.thermal.warned = false
          ∧ caseLimit < caseLimit + 1000 ∧ arg7.sup.thermal.above = false)
    ∧ (arg8.live = true ∧ (∀ (a : Nat), arg8.sup.thermal.caseAt = some a → a + 1000000000 ≤ max arg8.now t0) ∧ ¬(caseLimit - 5000 ≤ caseLimit + 1000
          ∧ arg8.sup.thermal.hotAt.getD (max arg8.now t0) + 10000000000 ≤ max arg8.now t0 ∧ arg8.sup.thermal.warned = false)
          ∧ arg8.sup.thermal.warned = false ∧ caseLimit < caseLimit + 1000 ∧ arg8.sup.thermal.above = false)
    ∧ (arg9.live = true ∧ (∀ (a : Nat), arg9.sup.thermal.caseAt = some a → a + 1000000000 ≤ max arg9.now t0) ∧ arg9.sup.thermal.warned = true
          ∧ ¬(caseLimit - 5000 ≤ caseLimit - 9000 ∧ arg9.sup.thermal.hotAt.getD (max arg9.now t0) + 10000000000 ≤ max arg9.now t0
          ∧ arg9.sup.thermal.warned = false)) :=
  by refine ⟨by unfold caseLimit; cases Config.gradeX <;> decide +kernel, by unfold caseLimit; cases Config.gradeX <;> decide +kernel,
        by unfold caseLimit; cases Config.gradeX <;> decide +kernel, by unfold caseLimit; cases Config.gradeX <;> decide +kernel⟩

/-- The clauses of TemperatureAndSuppliesAreWatched, continued. -/
theorem witness_TemperatureAndSuppliesAreWatched_2 :
    (arg9.live = true ∧ (∀ (a : Nat), arg9.sup.thermal.caseAt = some a → a + 1000000000 ≤ max arg9.now t0) ∧ arg9.sup.thermal.warned = true
          ∧ ¬(caseLimit - 5000 ≤ caseLimit - 7000 ∧ arg9.sup.thermal.hotAt.getD (max arg9.now t0) + 10000000000 ≤ max arg9.now t0
          ∧ arg9.sup.thermal.warned = false))
    ∧ ((cf op [(8192, 1, 1), (8208, 1, 2), (8209, 1, 1)]).live = true ∧ 2 < 4
          ∧ bitAt (cf op [(8192, 1, 1), (8208, 1, 2), (8209, 1, 1)]).sup.thermal.vencOff 2 = false
          ∧ (cf op [(8192, 1, 1), (8208, 1, 2), (8209, 1, 1)]).clear t0 ∧ 0 < 8 ∧ bitAt 3 0 = true
          ∧ (cf op [(8192, 1, 1), (8208, 1, 2), (8209, 1, 1)]).encMode 0 ≠ 0 ∧ (cf op [(8192, 1, 1), (8208, 1, 2), (8209, 1, 1)]).base ≠ Mode.standby
          ∧ 1 < 8 ∧ bitAt 3 1 = true ∧ 2 < 8 ∧ 3 < 8 ∧ 4 < 8 ∧ 5 < 8 ∧ 6 < 8 ∧ 7 < 8)
    ∧ (vo.live = true ∧ 2 < 4 ∧ bitAt vo.sup.thermal.vencOff 2 = true ∧ vo.sup.thermal.vencAt[2]? = some 5 ∧ 5 + 1000000000 ≤ max vo.now t0) :=
  by refine ⟨by unfold caseLimit; cases Config.gradeX <;> decide +kernel, ?_, ?_⟩ <;> decide +kernel

/-- The clauses of HallIsForcedAndSeen. -/
theorem witness_HallIsForcedAndSeen :
    ((op.upTo t0).granted o1 0 9024 3 [1] = true)
    ∧ ((op.upTo t0).granted o1 0 9024 4 [1] = true)
    ∧ ((op.upTo t0).granted o1 0 4384 5 (leBytes 1 1) = true)
    ∧ (2 < 16 ∧ (hw.upTo t0).accepts o1 = some 0 ∧ spaceOf (hw.window 2).space = some ((spaceOf 1).getD Space.hi)
          ∧ windowFits ((spaceOf 1).getD Space.hi) (hw.window 2) = true
          ∧ List.length (((hw.upTo t0).asked o1 0).windowData ((spaceOf 1).getD Space.hi) (hw.window 2)) ≤ 1396)
    ∧ (2 < 16 ∧ (hw1.upTo t0).granted o1 0 (8976 + 2) 5 (List.replicate 8 3) = true ∧ spaceOf (hw1.window 2).space = some Space.wm) :=
  by refine ⟨?_, ?_, ?_, ?_, ?_⟩ <;> decide +kernel

end Sys2Proof.Tests.Upkeep
end

section
/-! PROOFS. Crossings and the recorder's upkeep (01 R36 to R39; 16 R750, R753, R754): what a resynchronisation, a token and an archive copy do, one equation per case. -/
namespace Sys2Proof.Machine

/-! The commands, and the frames of what they carry out -/

theorem exec_crossingResync_eq (t n k : Nat) (s : State) : exec (.crossingResync t n k) s = execCrossingResync t n k s := rfl
theorem exec_tokenAdd_eq (t n : Nat) (s : State) : exec (.tokenAdd t n) s = execTokenAdd t n s := rfl
theorem exec_archiveCopy_eq (t : Nat) (s : State) : exec (.archiveCopy t) s = execArchiveCopy t s := rfl

/-- A meaning that keeps the instant and the queue is carried out as it stands. -/
theorem perform_eq_next {t : Nat} {f : State → Outcome} {s u : State} (h : f (s.upTo t) = .next u)
    (hnow : u.now = max s.now t) (hpending : u.pending = s.pending) : perform t f s = .next u := by
  unfold State.upTo at h
  unfold perform
  rw [h, ← hnow, ← hpending]

@[simp] theorem State.upTo_live (s : State) (t : Nat) : (s.upTo t).live = s.live := rfl

@[simp] theorem State.tokenAdd_now (s : State) (n : Nat) : (s.tokenAdd n).now = s.now :=
  keep_now (W := { recorder := true }) (State.tokenAdd_outside rfl ..) rfl
@[simp] theorem State.tokenAdd_pending (s : State) (n : Nat) : (s.tokenAdd n).pending = s.pending :=
  keep_pending (W := { recorder := true }) (State.tokenAdd_outside rfl ..) rfl
@[simp] theorem State.archiveNext_now (s : State) : s.archiveNext.now = s.now :=
  keep_now (W := { recorder := true }) (State.archiveNext_outside rfl ..) rfl
@[simp] theorem State.archiveNext_pending (s : State) : s.archiveNext.pending = s.pending :=
  keep_pending (W := { recorder := true }) (State.archiveNext_outside rfl ..) rfl

/-! The event recorder looks at the instant, the queue, the clocks and itself alone. -/

/-- Two states in which the recorder sees the same. -/
structure SameRecording (s u : State) : Prop where
  pending : s.pending = u.pending
  now : s.now = u.now
  bootAt : s.bootAt = u.bootAt
  clock : s.clock = u.clock
  recorder : s.recorder = u.recorder

namespace SameRecording
variable {s u : State}

theorem mono (h : SameRecording s u) : s.mono = u.mono := by
  rw [State.mono, State.mono, h.now, h.bootAt]

theorem stampEvent (h : SameRecording s u) (code : Nat) (data : Bytes) : s.stampEvent code data = u.stampEvent code data := by
  simp only [State.stampEvent, State.hours, State.rtcTicks, State.time, h.now, h.clock]

theorem tokenDue (h : SameRecording s u) (b : Bucket) : s.tokenDue b = u.tokenDue b := by
  rw [State.tokenDue, State.tokenDue, h.mono]

theorem coming (h : SameRecording s u) (clock : Nat → Nat) (p : Instr → Bool) : s.coming clock p = u.coming clock p := by
  rw [State.coming, State.coming, h.pending, h.now]

/-- The same change of the recorder keeps what it sees the same. -/
theorem withRecorder (h : SameRecording s u) (r : Recorder) : SameRecording { s with recorder := r } { u with recorder := r } :=
  ⟨h.pending, h.now, h.bootAt, h.clock, rfl⟩

theorem enter (h : SameRecording s u) (e : EventRec) : SameRecording (s.enter e) (u.enter e) := by
  unfold State.enter
  rw [h.recorder]
  dsimp only
  split
  · exact h.withRecorder _
  · rw [h.stampEvent]
    exact h.withRecorder _

theorem tokenAdd (h : SameRecording s u) (n : Nat) : SameRecording (s.tokenAdd n) (u.tokenAdd n) := by
  unfold State.tokenAdd
  simp only [h.recorder, h.tokenDue, h.mono]
  split
  · exact h
  · split
    · rw [(h.withRecorder _).stampEvent]
      exact (h.withRecorder _).enter _
    · exact h.withRecorder _

theorem tokenFirst (h : SameRecording s u) (i : Nat) : SameRecording (s.tokenFirst i) (u.tokenFirst i) := by
  unfold State.tokenFirst
  rw [h.coming]
  split
  · exact h.tokenAdd i
  · exact h

theorem occur (h : SameRecording s u) (e : EventRec) : SameRecording (s.occur e) (u.occur e) := by
  unfold State.occur
  rw [h.recorder]
  split
  · exact h.enter e
  · rename_i i _
    have hi := h.tokenFirst i
    dsimp only
    rw [hi.recorder]
    split
    · exact hi.withRecorder _
    · exact (hi.withRecorder _).enter e

/-- Recording an event changes the recorder alike. -/
theorem ev (h : SameRecording s u) (code : Nat) (data : Bytes) : SameRecording (s.ev code data) (u.ev code data) := by
  rw [State.ev, State.ev, h.stampEvent]
  exact h.occur _

end SameRecording

/-! Crossings -/

/-- A handshake that a further reset restarts keeps its count for the next one and records nothing (01 R37). -/
theorem State.resync_restarted {s : State} {n : Nat} (h : s.restarts n = true) (k : Nat) :
    s.resync n k = { s with
      crossings := s.crossings.modify (n - 1) fun c => holdMax 32 (c + k)
      carried := s.carried.set (n - 1) (s.carried.getD (n - 1) 0 + k) } := by
  unfold State.resync
  exact if_pos h

/-- A handshake that ends records the whole count, with what earlier handshakes carried over (01 R37, R38). -/
theorem State.resync_ended {s : State} {n : Nat} (h : s.restarts n = false) (k : Nat) :
    s.resync n k = { s with
      crossings := s.crossings.modify (n - 1) fun c => holdMax 32 (c + k)
      carried := s.carried.set (n - 1) 0
      resyncs := holdMax 32 (s.resyncs + 1) }.ev 0x1041 (leBytes 1 n ++ leBytes 4 (holdMax 32 (s.carried.getD (n - 1) 0 + k))) := by
  unfold State.resync
  exact if_neg (Bool.eq_false_iff.mp h)

theorem State.resync_crossings (s : State) (n k : Nat) :
    (s.resync n k).crossings = upd s.crossings (n - 1) fun c => holdMax 32 (c + k) := by
  cases h : s.restarts n with
  | true => rw [State.resync_restarted h]; rfl
  | false => rw [State.resync_ended h, State.ev_crossings]; rfl

/-- The event of a resynchronisation is recorded as from the state before it. -/
theorem State.resync_recorder_of_ended {s : State} {n : Nat} (h : s.restarts n = false) (k : Nat) :
    (s.resync n k).recorder = (s.ev 0x1041 (leBytes 1 n ++ leBytes 4 (holdMax 32 (s.carried.getD (n - 1) 0 + k)))).recorder := by
  rw [State.resync_ended h]
  refine (SameRecording.ev (u := s) ?_ _ _).recorder
  exact ⟨rfl, rfl, rfl, rfl, rfl⟩

theorem exec_crossingResync {n : Nat} (h : 1 ≤ n ∧ n ≤ 12) {s : State} (hl : s.live = true) (t k : Nat) :
    exec (.crossingResync t n k) s = .next ((s.upTo t).resync n k) := by
  rw [exec_crossingResync_eq, execCrossingResync]
  exact perform_eq_next (by rw [if_pos h, State.when_pos (by simpa using hl)]) (by simp) (by simp)

theorem exec_crossingResync_fault {n : Nat} (h : ¬ (1 ≤ n ∧ n ≤ 12)) (s : State) (t k : Nat) :
    exec (.crossingResync t n k) s = .fault (.noUnit "crossing" n) := by
  simp only [exec_crossingResync_eq, execCrossingResync, perform, if_neg h]

/-- A reset of a crossing counts its own discards, and no other crossing's count changes (01 R36, R39). -/
theorem State.resync_counts {s : State} {n c : Nat} (hc : s.crossings[n - 1]? = some c) (k : Nat) :
    (s.resync n k).crossings[n - 1]? = some (holdMax 32 (c + k))
      ∧ ∀ j, j ≠ n - 1 → (s.resync n k).crossings[j]? = s.crossings[j]? := by
  rw [State.resync_crossings]
  exact ⟨by rw [upd_same, hc]; rfl, fun _ hj => upd_other _ _ hj⟩

/-! Tokens -/

theorem State.tokenDue_iff (s : State) (b : Bucket) :
    s.tokenDue b = true ↔ b.code ≠ 0 ∧ b.interval ≠ 0 ∧ s.mono % (b.interval * 1000000) < 2 ∧ b.added + 2 ≤ s.mono := by
  simp [State.tokenDue, and_assoc]

/-- Bucket `n` changed by `f`. -/
def State.updBucket (s : State) (n : Nat) (f : Bucket → Bucket) : State :=
  { s with recorder := { s.recorder with buckets := s.recorder.buckets.modify n f } }

section
variable {s : State} {n : Nat} {b : Bucket} (hb : s.recorder.buckets[n]? = some b)
include hb

theorem State.tokenAdd_of_not_due (hd : ¬ s.tokenDue b = true) : s.tokenAdd n = s := by
  simp [State.tokenAdd, hb, hd]

/-- A full bucket takes note of the grid instant alone (16 R753). -/
theorem State.tokenAdd_of_full (hd : s.tokenDue b = true) (hf : b.burst ≤ b.tokens) :
    s.tokenAdd n = s.updBucket n fun b => { b with added := s.mono } := by
  have hg : ¬ b.tokens < b.burst := Nat.not_lt.mpr hf
  simp [State.tokenAdd, hb, hd, hg, State.updBucket, ofBool]

theorem State.tokenAdd_of_quiet (hd : s.tokenDue b = true) (hg : b.tokens < b.burst) (hq : b.suppressed = 0) :
    s.tokenAdd n = s.updBucket n fun b => { b with added := s.mono, tokens := b.tokens + 1 } := by
  simp [State.tokenAdd, hb, hd, hg, hq, State.updBucket, ofBool]

/-- A token for a bucket that suppressed occurrences: its count is told past every bucket, and starts again (16 R754). -/
theorem State.tokenAdd_of_suppressed (hd : s.tokenDue b = true) (hg : b.tokens < b.burst) (hs : b.suppressed ≠ 0) :
    s.tokenAdd n = (s.updBucket n fun b => { b with added := s.mono, tokens := b.tokens + 1, suppressed := 0, first := 0 }).enter
      (s.stampEvent 0xF001 (leBytes 2 b.code ++ leBytes 4 b.suppressed ++ leBytes 8 b.first)) := by
  simp [State.tokenAdd, hb, hd, hg, hs, State.updBucket, ofBool]
  rfl

end

theorem exec_tokenAdd {n : Nat} (h : n < 256) {s : State} (hl : s.live = true) (t : Nat) :
    exec (.tokenAdd t n) s = .next ((s.upTo t).tokenAdd n) := by
  rw [exec_tokenAdd_eq, execTokenAdd, actUnit]
  exact perform_eq_next (by rw [if_pos h, State.when_pos (by simpa using hl)]) (by simp) (by simp)

/-! The archive -/

theorem State.archiveNext_of_none_waiting {s : State} (h : s.recorder.next ≤ s.recorder.archNext) : s.archiveNext = s := by
  unfold State.archiveNext
  dsimp only
  split
  · exact if_pos h
  · rfl

/-- What the archive keeps beside record `e` in slot `slot`: no other record of that slot, and in its sector those of the run of `e` (16 R750). -/
def keptBeside (slot : Nat) (e : EventRec) (x : Nat × EventRec) : Bool :=
  x.1 ≠ slot && (x.1 / 1024 ≠ slot / 1024 || x.2.seq / 1024 = e.seq / 1024)

/-- Records of other sectors are kept. -/
theorem keptBeside_of_sector {slot : Nat} {x : Nat × EventRec} (h : x.1 / 1024 ≠ slot / 1024) (e : EventRec) : keptBeside slot e x = true := by
  have hslot : x.1 ≠ slot := fun hx => h (by rw [hx])
  simp [keptBeside, h, hslot]

/-- The next record in order of SEQ goes to the slot of its number (16 R750). -/
theorem State.archiveNext_of_waiting {s : State} {e : EventRec} (h : s.recorder.archNext < s.recorder.next)
    (he : s.recorder.ring[s.recorder.next - 1 - s.recorder.archNext]? = some e) :
    s.archiveNext = { s with recorder := { s.recorder with
      archive := (s.recorder.archNext % 1048576, e) :: s.recorder.archive.filter (keptBeside (s.recorder.archNext % 1048576) e)
      archNext := s.recorder.archNext + 1
      archTail := max s.recorder.archTail (s.recorder.archNext / 1024 * 1024 + 1024 - 1048576) } } := by
  unfold State.archiveNext
  dsimp only
  rw [he]
  exact if_neg (Nat.not_le.mpr h)

theorem exec_archiveCopy {s : State} (hl : s.live = true) (t : Nat) : exec (.archiveCopy t) s = .next (s.upTo t).archiveNext := by
  rw [exec_archiveCopy_eq, execArchiveCopy, act]
  exact perform_eq_next (by rw [State.when_pos (by simpa using hl)]) (by simp) (by simp)

/-! The obligation, by its clauses -/

/-- Settles O58: each clause is the equation of its case, carried out by the command. -/
theorem crossingsAndRecorderKeepCount : Obligations.CrossingsAndRecorderKeepCount := by
  unfold Obligations.CrossingsAndRecorderKeepCount
  refine ⟨fun t n k s => ⟨fun c h1 h12 hl hc => ⟨fun hr => ?_, fun hr => ?_⟩, fun hn => ?_⟩,
    fun t s hl => ⟨fun n b hn hb => ⟨fun hd => ?_, fun hd hf => ?_, fun hd hg hq => ?_, fun hd hg hs => ?_⟩, fun e hlt he => ?_, fun hle => ?_⟩⟩
  · refine ⟨_, exec_crossingResync ⟨h1, h12⟩ hl t k, State.resync_counts (s := s.upTo t) hc k, ?_, ?_, State.resync_recorder_of_ended hr k⟩ <;>
      rw [State.resync_ended hr] <;> simp
  · refine ⟨_, exec_crossingResync ⟨h1, h12⟩ hl t k, State.resync_counts (s := s.upTo t) hc k, ?_⟩
    rw [State.resync_restarted hr]
    exact ⟨rfl, rfl, rfl⟩
  · exact exec_crossingResync_fault (by omega) s t k
  · rw [exec_tokenAdd hn hl, State.tokenAdd_of_not_due (s := s.upTo t) hb (by rwa [State.tokenDue_iff])]
  · rw [exec_tokenAdd hn hl, State.tokenAdd_of_full (s := s.upTo t) hb ((State.tokenDue_iff _ _).mpr hd) hf]
    rfl
  · rw [exec_tokenAdd hn hl, State.tokenAdd_of_quiet (s := s.upTo t) hb ((State.tokenDue_iff _ _).mpr hd) hg hq]
    rfl
  · rw [exec_tokenAdd hn hl, State.tokenAdd_of_suppressed (s := s.upTo t) hb ((State.tokenDue_iff _ _).mpr hd) hg hs]
    rfl
  · refine ⟨_, exec_archiveCopy hl t, ?_⟩
    rw [State.archiveNext_of_waiting (s := s.upTo t) hlt he]
    exact ⟨rfl, rfl, rfl, rfl, fun x hx hsec => List.mem_cons_of_mem _ (List.mem_filter.mpr ⟨hx, keptBeside_of_sector hsec e⟩)⟩
  · exact ⟨_, exec_archiveCopy hl t, by rw [State.archiveNext_of_none_waiting (s := s.upTo t) hle]; rfl⟩

end Sys2Proof.Machine
end

section
/-! PROOFS. Quadrature decoding (02 R45): what an accepted edge of A or B counts, and what the command does to its input and to no other. -/
namespace Sys2Proof.Machine

/-! What an edge counts -/

/-- Whether ×4, ×2 or ×1 decoding counts an edge that changes A or does not, and raises A or does not (02 R45). -/
def edgeCounts (decode : Nat) (changesA raisesA : Bool) : Bool :=
  match decode with
  | 4 => true
  | 2 => changesA
  | _ => raisesA

/-- The direction of an edge from (a0, b0) to (a, b): up where A leads B, turned round by INVERT (02 R45). -/
def State.edgeStep (s : State) (n : Nat) (a0 b0 a b : Bool) : Int :=
  if aLeads a0 b0 a b = decide (s.encCfg n 7 = 0) then 1 else -1

theorem State.edgeStep_ne_zero (s : State) (n : Nat) (a0 b0 a b : Bool) : s.edgeStep n a0 b0 a b ≠ 0 := by
  unfold State.edgeStep
  split <;> decide

/-- Of a single edge, the levels do not both stay or both change. -/
theorem stays_ne_of_edge {a0 b0 a b : Bool} (h : a0 = a ↔ b0 ≠ b) : ((a0 == a) == (b0 == b)) = false := by
  revert a0 b0 a b
  decide

/-- Of a single edge, the new levels and which of them changed tell whether A leads. -/
theorem aLeads_iff_of_edge {a0 b0 a b : Bool} (h : a0 = a ↔ b0 ≠ b) :
    (if a0 ≠ a then a ≠ b else a = b) ↔ aLeads a0 b0 a b = true := by
  revert a0 b0 a b
  decide

theorem quadStep_of_edge (decode : Nat) {a0 b0 a b : Bool} (h : a0 = a ↔ b0 ≠ b) :
    quadStep decode a b (a0 != a) =
      if edgeCounts decode (a0 ≠ a) (!a0 && a) then (if aLeads a0 b0 a b then 1 else -1) else 0 := by
  have hchanges : (a0 != a) = decide (a0 ≠ a) := by cases a0 <;> cases a <;> rfl
  have hraises : (decide (a0 ≠ a) && a) = (!a0 && a) := by cases a0 <;> cases a <;> rfl
  calc quadStep decode a b (a0 != a)
      = if edgeCounts decode (a0 != a) ((a0 != a) && a) then (if (if (a0 != a) = true then a ≠ b else a = b) then 1 else -1) else 0 := rfl
    _ = _ := by simp only [hchanges, hraises, decide_eq_true_eq, aLeads_iff_of_edge h]

/-- INVERT swaps up and down. -/
theorem State.edgeStep_eq (s : State) (n : Nat) (a0 b0 a b : Bool) : s.edgeStep n a0 b0 a b =
    let up : Int := if aLeads a0 b0 a b then 1 else -1
    if s.encCfg n 7 = 0 then up else -up := by
  unfold State.edgeStep
  by_cases hi : s.encCfg n 7 = 0 <;> cases aLeads a0 b0 a b <;> simp [hi]

theorem State.quadCount_of_edge {s : State} {n : Nat} {e : Enc} (he : s.enc n = e) {a b : Bool} (h : e.a = a ↔ e.b ≠ b) :
    s.quadCount n a b = if edgeCounts (s.encCfg n 2) (e.a ≠ a) (!e.a && a) then s.edgeStep n e.a e.b a b else 0 := by
  unfold State.quadCount
  simp only [he, stays_ne_of_edge h, Bool.false_eq_true, if_false, quadStep_of_edge _ h, State.edgeStep_eq]
  split <;> split <;> rfl

/-! What accepted levels do -/

@[simp] theorem State.updEnc_encMode (s : State) (n : Nat) (f : Enc → Enc) (k : Nat) : (s.updEnc n f).encMode k = s.encMode k := rfl
@[simp] theorem State.updEnc_base (s : State) (n : Nat) (f : Enc → Enc) : (s.updEnc n f).base = s.base := rfl

theorem State.sensed_of_not_standby {s : State} (h : s.base ≠ .standby) (i : FwdItem) (f : State → State) : s.sensed i f = f s := if_neg h

theorem upd_some {α : Type} {l : List α} {n : Nat} {x : α} (h : l[n]? = some x) (f : α → α) : (upd l n f)[n]? = some (f x) := by
  rw [upd_same, h]
  rfl

/-- The input takes the levels that its filter accepts at `t` (02 R47). -/
def State.acceptLevels (s : State) (n t : Nat) (a b : Bool) : State :=
  s.updEnc n fun e => { e with
    a := a, b := b, aAt := if (s.enc n).a ≠ a then t else e.aAt, bAt := if (s.enc n).b ≠ b then t else e.bAt }

section
variable {s : State} {n t : Nat} {e : Enc} {a b : Bool}
variable (hmode : s.encMode n = 1) (hbase : s.base ≠ .standby) (he : s.line.encs[n]? = some e) (hedge : e.a = a ↔ e.b ≠ b)
variable (ha : e.a ≠ a → s.held5 n e.aAt 1 = true) (hb : e.b ≠ b → s.held5 n e.bAt 1 = true)
include hmode hbase he hedge ha hb

/-- A single edge that the filter accepts steps the count, and nothing where the decoding leaves it out (02 R45, R47). -/
theorem State.quadLevels_of_edge : s.quadLevels n t a b =
    let u := s.acceptLevels n t a b
    let c := s.quadCount n a b
    if c = 0 then u else (u.countStep n c (u.pinTime n t)).forward (.encSlot n c 0 0 u.time) := by
  have hstays (hA : e.a ≠ a) : e.b = b := Decidable.not_not.mp (mt hedge.mpr hA)
  have hheld : ((decide (e.a ≠ a) && !s.held5 n e.aAt 1) || (decide (e.b ≠ b) && !s.held5 n e.bAt 1)) = false := by
    by_cases hA : e.a = a
    · simp [hA, hb (hedge.mp hA)]
    · simp [hstays hA, ha hA]
  have hone : (!decide (e.a ≠ a) && !decide (e.b ≠ b)) = false ∧ (decide (e.a ≠ a) && decide (e.b ≠ b)) = false := by
    by_cases hA : e.a = a
    · simp [hA, hedge.mp hA]
    · simp [hstays hA, hA]
  have hbase' : ∀ f, (s.updEnc n f).base ≠ .standby := fun _ => hbase
  unfold State.quadLevels State.acceptLevels
  simp only [enc_of he, hheld, hone, State.updEnc_encMode, hmode, State.sensed_of_not_standby (hbase' _), Bool.false_eq_true, if_false,
    ne_eq, not_true_eq_false, decide_false, Bool.or_false]

/-- The input holds the accepted levels, an edge that the decoding counts steps its count, wrapped (log 141), and its errors stand; no
other input changes. -/
theorem State.quadLevels_enc_of_edge :
    ∃ e', (s.quadLevels n t a b).line.encs[n]? = some e' ∧ e'.a = a ∧ e'.b = b
      ∧ e'.raw = (if edgeCounts (s.encCfg n 2) (e.a ≠ a) (!e.a && a) then signed 64 (pattern 64 (e.raw + s.edgeStep n e.a e.b a b)) else e.raw)
      ∧ e'.quadErr = e.quadErr ∧ ∀ j, j ≠ n → (s.quadLevels n t a b).line.encs[j]? = s.line.encs[j]? := by
  rw [State.quadLevels_of_edge hmode hbase he hedge ha hb, State.quadCount_of_edge (enc_of he) hedge]
  cases edgeCounts (s.encCfg n 2) (e.a ≠ a) (!e.a && a)
  case false => exact ⟨_, upd_some he _, rfl, rfl, rfl, rfl, fun _ hj => upd_other _ _ hj⟩
  case true =>
    dsimp only
    rw [if_pos rfl, if_pos rfl, if_neg (s.edgeStep_ne_zero n e.a e.b a b), State.forward_line, State.countStep_encs]
    exact ⟨_, upd_some (upd_some he _) _, addRate_a .., addRate_b .., addRate_raw .., addRate_quadErr ..,
      fun _ hj => (upd_other _ _ hj).trans (upd_other _ _ hj)⟩

end

/-! The command -/

@[simp] theorem State.quadLevels_now (s : State) (n t : Nat) (a b : Bool) : (s.quadLevels n t a b).now = s.now :=
  keep_now (W := { line := true, outbox := true, pair := true, recorder := true }) (State.quadLevels_outside rfl rfl rfl rfl ..) rfl
@[simp] theorem State.quadLevels_pending (s : State) (n t : Nat) (a b : Bool) : (s.quadLevels n t a b).pending = s.pending :=
  keep_pending (W := { line := true, outbox := true, pair := true, recorder := true }) (State.quadLevels_outside rfl rfl rfl rfl ..) rfl

theorem exec_encoderCount_eq (t n : Nat) (a b : Bool) (s : State) : exec (.encoderCount t n a b) s = execEncoderCount t n a b s := rfl

/-- An edge that was not taken ahead of its turn (log 137) brings its levels to the input. -/
theorem exec_encoderCount {t n : Nat} {s : State} (hn : n < 8) (ht : s.tracking = true) (hturn : ((s.upTo t).enc n).takenAt ≠ some t) (a b : Bool) :
    exec (.encoderCount t n a b) s = .next ((s.upTo t).quadLevels n (max s.now t) a b) := by
  rw [exec_encoderCount_eq, execEncoderCount, actUnit]
  refine perform_eq_next ?_ (by simp) (by simp)
  rw [if_pos hn, if_neg hturn, State.when_pos (s := s.upTo t) (c := (s.upTo t).tracking) ht]
  rfl

/-! The obligation -/

/-- Settles O7: the command brings the levels to the input (`exec_encoderCount`), and a single edge of them steps the count or
leaves it (`State.quadLevels_enc_of_edge`). -/
theorem quadratureCountsItsEdges : Obligations.QuadratureCountsItsEdges := by
  unfold Obligations.QuadratureCountsItsEdges
  intro t n a b s e hn ht hbase hmode he hturn ha hb hedge
  obtain ⟨e', hkept⟩ := State.quadLevels_enc_of_edge (s := s.upTo t) (t := max s.now t) hmode hbase he hedge ha hb
  exact ⟨_, e', exec_encoderCount hn ht ((enc_of (s := s.upTo t) he).symm ▸ hturn) a b, hkept⟩

end Sys2Proof.Machine
end

section
/-! PROOFS. Supplies (09 R424, R425): the state that a voltage gives a supply, and the outputs that an absent one switches off. -/
namespace Sys2Proof.Machine

/-! The supply records -/

theorem group_of {s : State} {g : Nat} {x : Supply} (h : s.field.groups[g]? = some x) : s.group g = x := by
  simp [State.group, List.getD_eq_getElem?_getD, h]

@[simp] theorem State.updGroup_groups (s : State) (g : Nat) (f : Supply → Supply) : (s.updGroup g f).field.groups = upd s.field.groups g f := rfl
@[simp] theorem State.updGroup_dio (s : State) (g : Nat) (f : Supply → Supply) : (s.updGroup g f).field.dio = s.field.dio := rfl

theorem supplyTake_eq (now st mv : Nat) (x : Supply) : supplyTake now st mv x =
    { mv := mv, state := st, leftAt := if x.state = 0 ∧ st ≠ 0 then now else x.leftAt, checks := if st = 0 ∨ x.state = 0 then false else x.checks } := by
  simp [supplyTake]

theorem supplyState_absent {mv : Nat} (h : mv < 12000) (lo hi was : Nat) : supplyState lo hi was mv = 0 := if_pos h

@[simp] theorem State.when_ev_field (s : State) (c : Bool) (code : Nat) (data : Bytes) : (s.when c fun s => s.ev code data).field = s.field := by
  cases c <;> simp

/-- The recorder does not look at the field channels. -/
theorem SameRecording.withField (s : State) (x : FieldIo) : SameRecording { s with field := x } s := ⟨rfl, rfl, rfl, rfl, rfl⟩

/-- A change of supply state is recorded as from the state before it (09 R424). -/
theorem SameRecording.when_ev_recorder {s u : State} (h : SameRecording s u) {c : Bool} (hc : c = true) (code : Nat) (data : Bytes) :
    (s.when c fun s => s.ev code data).recorder = (u.ev code data).recorder := by
  rw [State.when_pos hc, (h.ev code data).recorder]

/-! The pins -/

/-- A pin that stands at its level is left alone, any other is brought to it. -/
theorem State.dioDrive_field (s : State) (n : Nat) : (s.dioDrive n).field =
    if (s.dio n).pin = s.dioLevel n then s.field
    else { s.field with dio := upd s.field.dio n fun x => { x with pin := s.dioLevel n } } := by
  unfold State.dioDrive
  dsimp only
  split
  · rfl
  · rw [State.emit_field]; rfl

@[simp] theorem State.dioDrive_groups (s : State) (n : Nat) : (s.dioDrive n).field.groups = s.field.groups := by
  rw [State.dioDrive_field]
  split <;> rfl

@[simp] theorem State.dioDrive_recorder (s : State) (n : Nat) : (s.dioDrive n).recorder = s.recorder :=
  keep_recorder (W := { field := true, outbox := true }) (State.dioDrive_outside rfl rfl ..) rfl

theorem State.dioDrive_dio_other (s : State) {n j : Nat} (h : j ≠ n) : (s.dioDrive n).field.dio[j]? = s.field.dio[j]? := by
  rw [State.dioDrive_field]
  split
  · rfl
  · exact upd_other _ _ h

/-- No output is switched while its supply is absent (09 R425). -/
theorem State.dioLevel_of_absent {s : State} {n : Nat} (h : (s.dioSupply n).state = 0) : s.dioLevel n = false := by
  simp [State.dioLevel, h]

theorem State.dioDrive_off_of_absent {s : State} {n : Nat} (h : (s.dioSupply n).state = 0) {y : Dio}
    (hy : (s.dioDrive n).field.dio[n]? = some y) : y.pin = false := by
  rw [State.dioDrive_field, State.dioLevel_of_absent h] at hy
  split at hy
  case isTrue hoff => simpa [State.dio, List.getD_eq_getElem?_getD, hy] using hoff
  case isFalse =>
    rw [upd_same, Option.map_eq_some_iff] at hy
    obtain ⟨_, _, rfl⟩ := hy
    rfl

/-- Driving other channels leaves a channel as it was. -/
theorem State.foldl_dioDrive_dio_other (s : State) {l : List Nat} {n : Nat} (h : n ∉ l) :
    (l.foldl State.dioDrive s).field.dio[n]? = s.field.dio[n]? := by
  induction l generalizing s with
  | nil => rfl
  | cons a l ih =>
    obtain ⟨hna, hnl⟩ : n ≠ a ∧ n ∉ l := not_or.mp (mt List.mem_cons.mpr h)
    rw [List.foldl_cons, ih _ hnl, State.dioDrive_dio_other s hna]

/-- Driven one after another, the channels of absent supplies are all off. -/
theorem State.foldl_dioDrive_off_of_absent {s : State} (l : List Nat) (habs : ∀ n ∈ l, (s.dioSupply n).state = 0) :
    ∀ n ∈ l, ∀ y, (l.foldl State.dioDrive s).field.dio[n]? = some y → y.pin = false := by
  induction l generalizing s with
  | nil => exact fun n hn => absurd hn List.not_mem_nil
  | cons a l ih =>
    intro n hn y hy
    rw [List.foldl_cons] at hy
    have hsupply (m : Nat) : (s.dioDrive a).dioSupply m = s.dioSupply m := by
      rw [State.dioSupply, State.dioSupply, State.group, State.group, State.dioDrive_groups]
    by_cases hnl : n ∈ l
    · exact ih (fun m hm => by rw [hsupply]; exact habs m (List.mem_cons_of_mem a hm)) n hnl y hy
    · obtain rfl : n = a := (List.mem_cons.mp hn).resolve_right hnl
      rw [State.foldl_dioDrive_dio_other _ hnl] at hy
      exact State.dioDrive_off_of_absent (habs n hn) hy

/-! The channels of a group -/

/-- The outputs of group `g` follow their supply in state `st`; in the activation pause the latches hold the pins while it is present
(09 R425, R472). -/
def State.driveGroup (s : State) (g st : Nat) : State :=
  (List.range 8).foldl (fun s i => if s.held && st ≠ 0 then s else s.dioDrive (8 * g + i)) s

@[simp] theorem State.driveGroup_groups (s : State) (g st : Nat) : (s.driveGroup g st).field.groups = s.field.groups :=
  foldl_keeps (fun t => t.field.groups) _ _ (fun t i => by split <;> simp) s

@[simp] theorem State.driveGroup_recorder (s : State) (g st : Nat) : (s.driveGroup g st).recorder = s.recorder :=
  foldl_keeps (fun t => t.recorder) _ _ (fun t i => by split <;> simp) s

theorem State.driveGroup_dio_other (s : State) {g n : Nat} (h : n / 8 ≠ g) (st : Nat) :
    (s.driveGroup g st).field.dio[n]? = s.field.dio[n]? := by
  unfold State.driveGroup
  refine List.foldlRecOn (motive := fun t : State => t.field.dio[n]? = s.field.dio[n]?) _ _ rfl fun t ht i hi => ?_
  have hi : i < 8 := List.mem_range.mp hi
  split
  · exact ht
  · rw [State.dioDrive_dio_other t (by omega), ht]

/-- An absent supply drives every channel of its group, held or not. -/
theorem State.driveGroup_absent (s : State) (g : Nat) :
    s.driveGroup g 0 = ((List.range 8).map (8 * g + ·)).foldl State.dioDrive s := by
  simp [State.driveGroup, List.foldl_map]

theorem State.driveGroup_off_of_absent {s : State} {g : Nat} (h : (s.group g).state = 0) {n : Nat} (hn : n / 8 = g) {y : Dio}
    (hy : (s.driveGroup g 0).field.dio[n]? = some y) : y.pin = false := by
  rw [State.driveGroup_absent] at hy
  have hchannel : n ∈ (List.range 8).map (8 * g + ·) := List.mem_map.mpr ⟨n % 8, List.mem_range.mpr (by omega), by omega⟩
  refine State.foldl_dioDrive_off_of_absent _ (fun m hm => ?_) n hchannel y hy
  obtain ⟨i, hi, rfl⟩ := List.mem_map.mp hm
  have hgroup : (8 * g + i) / 8 = g := by
    have hi : i < 8 := List.mem_range.mp hi
    omega
  rw [State.dioSupply, hgroup]
  exact h

/-! The commands -/

/-- What VG_STATE does with the voltage `mv` of group `g`, before its outputs follow. -/
def State.takeGroup (s : State) (g mv : Nat) : State :=
  let st := supplyState 18000 18500 (s.group g).state mv
  (s.updGroup g (supplyTake s.now st mv)).when ((s.group g).state ≠ st) fun s => s.ev 0x5008 (leBytes 1 g ++ leBytes 1 st ++ f32Bytes ((mv : Rat) / 1000))

/-- What VA_STATE does with the voltage `mv` of VA. -/
def State.takeVa (s : State) (mv : Nat) : State :=
  let st := supplyState 19000 19500 s.field.va.state mv
  { s with field := { s.field with va := supplyTake s.now st mv s.field.va } }.when (s.field.va.state ≠ st)
    fun s => s.ev 0x5018 (leBytes 1 st ++ f32Bytes ((mv : Rat) / 1000))

@[simp] theorem State.takeGroup_field (s : State) (g mv : Nat) :
    (s.takeGroup g mv).field = (s.updGroup g (supplyTake s.now (supplyState 18000 18500 (s.group g).state mv) mv)).field :=
  State.when_ev_field ..

@[simp] theorem State.takeVa_field (s : State) (mv : Nat) :
    (s.takeVa mv).field = { s.field with va := supplyTake s.now (supplyState 19000 19500 s.field.va.state mv) mv s.field.va } :=
  State.when_ev_field ..

theorem exec_vgState_eq (t g mv : Nat) (s : State) : exec (.vgState t g mv) s = execVgState t g mv s := rfl
theorem exec_vaState_eq (t mv : Nat) (s : State) : exec (.vaState t mv) s = execVaState t mv s := rfl
theorem exec_supplyChecksResume_eq (t g : Nat) (s : State) : exec (.supplyChecksResume t g) s = execSupplyChecksResume t g s := rfl

theorem exec_vgState {g : Nat} (h : g < 6) (t mv : Nat) (s : State) :
    exec (.vgState t g mv) s = .next { ((s.upTo t).takeGroup g mv).driveGroup g (supplyState 18000 18500 (s.group g).state mv) with
      now := max s.now t, pending := s.pending } := by
  rw [exec_vgState_eq, execVgState, actUnit_next h]
  rfl

theorem exec_vaState (t mv : Nat) (s : State) :
    exec (.vaState t mv) s = .next { (s.upTo t).takeVa mv with now := max s.now t, pending := s.pending } := by
  rw [exec_vaState_eq, execVaState, act_next]
  rfl

/-- The checks of a group resume once its supply has been present for 100 ms (09 R425). -/
theorem exec_supplyChecksResume {g t : Nat} (h : g < 6) {s : State} (hpresent : (s.group g).state ≠ 0)
    (hwait : (s.group g).leftAt + 100000000 ≤ max s.now t) :
    exec (.supplyChecksResume t g) s = .next { (s.upTo t).updGroup g fun x => { x with checks := true } with
      now := max s.now t, pending := s.pending } := by
  have hdue : (((s.upTo t).group g).state ≠ 0 && ((s.upTo t).group g).leftAt + 100000000 ≤ (s.upTo t).now) = true :=
    Bool.and_eq_true_iff.mpr ⟨decide_eq_true hpresent, decide_eq_true hwait⟩
  rw [exec_supplyChecksResume_eq, execSupplyChecksResume, actUnit_next h, State.when_pos hdue]

/-! The obligation, by its clauses -/

section
variable {s : State} {g mv : Nat} {x : Supply}

theorem State.takeGroup_groups (hx : s.field.groups[g]? = some x) :
    (s.takeGroup g mv).field.groups[g]? = some (supplyTake s.now (supplyState 18000 18500 x.state mv) mv x)
      ∧ ∀ j, j ≠ g → (s.takeGroup g mv).field.groups[j]? = s.field.groups[j]? := by
  rw [State.takeGroup_field, State.updGroup_groups, group_of hx]
  exact ⟨upd_some hx _, fun _ hj => upd_other _ _ hj⟩

theorem State.takeGroup_recorder (h : supplyState 18000 18500 (s.group g).state mv ≠ (s.group g).state) :
    (s.takeGroup g mv).recorder = (s.ev 0x5008
      (leBytes 1 g ++ leBytes 1 (supplyState 18000 18500 (s.group g).state mv) ++ f32Bytes ((mv : Rat) / 1000))).recorder :=
  (SameRecording.withField s _).when_ev_recorder (decide_eq_true h.symm) _ _

theorem State.takeVa_recorder (h : supplyState 19000 19500 s.field.va.state mv ≠ s.field.va.state) :
    (s.takeVa mv).recorder =
      (s.ev 0x5018 (leBytes 1 (supplyState 19000 19500 s.field.va.state mv) ++ f32Bytes ((mv : Rat) / 1000))).recorder :=
  (SameRecording.withField s _).when_ev_recorder (decide_eq_true h.symm) _ _

/-- Below 12 V the group is absent, and its outputs are driven off. -/
theorem State.takeGroup_drives_off (hx : s.field.groups[g]? = some x) (hmv : mv < 12000) {n : Nat} (hn : n / 8 = g) {y : Dio}
    (hy : ((s.takeGroup g mv).driveGroup g (supplyState 18000 18500 (s.group g).state mv)).field.dio[n]? = some y) : y.pin = false := by
  have habsent : ((s.takeGroup g mv).group g).state = 0 := by
    rw [group_of (State.takeGroup_groups hx).1, supplyTake_eq]
    exact supplyState_absent hmv ..
  rw [supplyState_absent hmv] at hy
  exact State.driveGroup_off_of_absent habsent hn hy

end

/-- Settles O34: the supply takes its state and tells of it (`State.takeGroup`, `State.takeVa`), and the outputs of an absent group are
driven off (`State.takeGroup_drives_off`). -/
theorem suppliesGateTheirGroup : Obligations.SuppliesGateTheirGroup := by
  unfold Obligations.SuppliesGateTheirGroup
  intro t g mv s x st taken
  refine ⟨fun hg hx => ⟨?_, fun hpresent hwait => ?_⟩, ?_⟩
  · have hgroup : (s.upTo t).group g = x := group_of (s := s.upTo t) hx
    obtain ⟨htaken, hothers⟩ := State.takeGroup_groups (s := s.upTo t) (mv := mv) hx
    refine ⟨_, exec_vgState hg t mv s, ?_, fun j hj => ?_, fun hmv n y hn hy => ?_, fun n hn => ?_, fun hchanges => ?_⟩
    · rw [State.driveGroup_groups, htaken, supplyTake_eq]; rfl
    · rw [State.driveGroup_groups, hothers j hj]; rfl
    · exact State.takeGroup_drives_off (s := s.upTo t) hx hmv hn hy
    · rw [State.driveGroup_dio_other _ hn, State.takeGroup_field]; rfl
    · subst hgroup
      rw [State.driveGroup_recorder]
      exact State.takeGroup_recorder (s := s.upTo t) hchanges
  · rw [← group_of hx] at hpresent hwait
    exact ⟨_, exec_supplyChecksResume hg hpresent hwait, upd_some hx _, rfl⟩
  · have hfield := State.takeVa_field (s.upTo t) mv
    refine ⟨_, exec_vaState t mv s, ?_, ?_, ?_, fun hchanges => State.takeVa_recorder (s := s.upTo t) hchanges⟩
    · rw [hfield, supplyTake_eq]; rfl
    · rw [hfield]; rfl
    · rw [hfield]; rfl

end Sys2Proof.Machine
end
